-- ==== Sys2Proof/Word.lean ====
section
/-! DEFINITION. The plain data types everything else is written over: a byte, and containers of a
fixed number of like things (six segments, four zones, five steam consumers). -/

namespace Sys2Proof

/-- One byte of a frame (R185: eight data bits). -/
abbrev Byte := BitVec 8

/-- One value for each of the six blade segments S0..S5 (00_scope, Table 1.6.2). -/
structure Six (α : Type) where
  s0 : α
  s1 : α
  s2 : α
  s3 : α
  s4 : α
  s5 : α
deriving DecidableEq, Repr

namespace Six

/-- The same value for every segment. -/
def fill {α : Type} (a : α) : Six α := ⟨a, a, a, a, a, a⟩

/-- The value of segment `i`. -/
def get {α : Type} (v : Six α) (i : Fin 6) : α :=
  match i with
  | 0 => v.s0
  | 1 => v.s1
  | 2 => v.s2
  | 3 => v.s3
  | 4 => v.s4
  | 5 => v.s5

/-- Replace the value of segment `i`. -/
def set {α : Type} (v : Six α) (i : Fin 6) (a : α) : Six α :=
  match i with
  | 0 => { v with s0 := a }
  | 1 => { v with s1 := a }
  | 2 => { v with s2 := a }
  | 3 => { v with s3 := a }
  | 4 => { v with s4 := a }
  | 5 => { v with s5 := a }

/-- A value for each segment from its index. -/
def tabulate {α : Type} (f : Fin 6 → α) : Six α := ⟨f 0, f 1, f 2, f 3, f 4, f 5⟩

/-- Change every segment's value. -/
def map {α β : Type} (f : α → β) (v : Six α) : Six β :=
  ⟨f v.s0, f v.s1, f v.s2, f v.s3, f v.s4, f v.s5⟩

/-- The six values in order, S0 first. -/
def toList {α : Type} (v : Six α) : List α := [v.s0, v.s1, v.s2, v.s3, v.s4, v.s5]

/-- Some segment's value passes the test. -/
def any {α : Type} (p : α → Bool) (v : Six α) : Bool := v.toList.any p

/-- Every segment's value passes the test. -/
def all {α : Type} (p : α → Bool) (v : Six α) : Bool := v.toList.all p

end Six

/-- The six segment indices in order. -/
def segIndices : List (Fin 6) := [0, 1, 2, 3, 4, 5]

/-- One value for each of the four tunnel zones Z1..Z4. -/
structure Four (α : Type) where
  z1 : α
  z2 : α
  z3 : α
  z4 : α
deriving DecidableEq, Repr

namespace Four

/-- The same value for every zone. -/
def fill {α : Type} (a : α) : Four α := ⟨a, a, a, a⟩

/-- The value of zone `z` (0 stands for Z1). -/
def get {α : Type} (v : Four α) (z : Fin 4) : α :=
  match z with
  | 0 => v.z1
  | 1 => v.z2
  | 2 => v.z3
  | 3 => v.z4

/-- Replace the value of zone `z`. -/
def set {α : Type} (v : Four α) (z : Fin 4) (a : α) : Four α :=
  match z with
  | 0 => { v with z1 := a }
  | 1 => { v with z2 := a }
  | 2 => { v with z3 := a }
  | 3 => { v with z4 := a }

/-- Change every zone's value. -/
def map {α β : Type} (f : α → β) (v : Four α) : Four β := ⟨f v.z1, f v.z2, f v.z3, f v.z4⟩

/-- The four values in order, Z1 first. -/
def toList {α : Type} (v : Four α) : List α := [v.z1, v.z2, v.z3, v.z4]

/-- Some zone's value passes the test. -/
def any {α : Type} (p : α → Bool) (v : Four α) : Bool := v.toList.any p

end Four

/-- The four zone indices in the direction of travel. -/
def zoneIndices : List (Fin 4) := [0, 1, 2, 3]

/-- One value for each steam consumer in priority order SB, Z1, Z2, Z3, Z4 (R143). -/
structure Five (α : Type) where
  sb : α
  z1 : α
  z2 : α
  z3 : α
  z4 : α
deriving DecidableEq, Repr

namespace Five

/-- The same value for every consumer. -/
def fill {α : Type} (a : α) : Five α := ⟨a, a, a, a, a⟩

/-- The value of zone `z`'s consumer. -/
def zone {α : Type} (v : Five α) (z : Fin 4) : α :=
  match z with
  | 0 => v.z1
  | 1 => v.z2
  | 2 => v.z3
  | 3 => v.z4

/-- Replace the value of zone `z`'s consumer. -/
def setZone {α : Type} (v : Five α) (z : Fin 4) (a : α) : Five α :=
  match z with
  | 0 => { v with z1 := a }
  | 1 => { v with z2 := a }
  | 2 => { v with z3 := a }
  | 3 => { v with z4 := a }

/-- Combine two families consumer by consumer. -/
def zipWith {α β γ : Type} (f : α → β → γ) (v : Five α) (w : Five β) : Five γ :=
  ⟨f v.sb w.sb, f v.z1 w.z1, f v.z2 w.z2, f v.z3 w.z3, f v.z4 w.z4⟩

/-- The five values in priority order. -/
def toList {α : Type} (v : Five α) : List α := [v.sb, v.z1, v.z2, v.z3, v.z4]

/-- The sum over the five consumers. -/
def total (v : Five Nat) : Nat := v.sb + v.z1 + v.z2 + v.z3 + v.z4

end Five

/-- A table by number: pairs of a number and its entry, numbers strictly rising, absent numbers
unlisted (the class table, R9, and the pattern store, R14). -/
abbrev Table (α : Type) := List (Nat × α)

namespace Table

/-- The entry of number `n`, if there is one. -/
def get? {α : Type} : Table α → Nat → Option α
  | [], _ => none
  | (k, a) :: t, n => if k = n then some a else Table.get? t n

/-- Remove the entry of number `n`, if there is one. -/
def erase {α : Type} : Table α → Nat → Table α
  | [], _ => []
  | (k, a) :: t, n => if k = n then t else (k, a) :: Table.erase t n

/-- Write the entry of number `n`, in its place by number. -/
def insert {α : Type} : Table α → Nat → α → Table α
  | [], n, b => [(n, b)]
  | (k, a) :: t, n, b =>
    if n < k then (n, b) :: (k, a) :: t
    else if n = k then (n, b) :: t
    else (k, a) :: Table.insert t n b

/-- Every number of the table is above `k` and the numbers strictly rise. -/
def above {α : Type} : Nat → Table α → Bool
  | _, [] => true
  | k, (n, _) :: t => decide (k < n) && Table.above n t

/-- The canonical form: numbers strictly rising. -/
def wf {α : Type} : Table α → Bool
  | [] => true
  | (n, _) :: t => Table.above n t

end Table

end Sys2Proof
end

