-- ==== Sys2Proof/Syntax.lean ====
section
/-! DEFINITION. The commands of the block: one constructor of `Instr` for each row of
spec/opcode_table.json, with the operands the row's rule gives. A request's operands are the numbers
its body carries, before any of the rule's tests: a choice is still the byte that names it (R190), so
that a value outside its range can be sent and refused. -/

namespace Sys2Proof

/-- One step of a pattern as PAT-DEFINE carries it (R16); `form` is the choice byte of the form. -/
inductive PatStep where
  | pleat (count form sp dw dh : Nat) (locked : Bool)
  | flat (length : Nat)
deriving DecidableEq, Repr

/-- The seven fields of a defined class entry (R9, Table 1.3.1). -/
structure FabricClass where
  ecls : Nat
  tref : Nat
  tb : Nat
  tmax : Nat
  doseMin : Nat
  doseMax : Option Nat
  pitchTol : Nat
deriving DecidableEq, Repr, Inhabited

/-- Start and end of one zone, as distances along the conveyor (R4). -/
structure Span where
  start : Nat
  stop : Nat
deriving DecidableEq, Repr

/-- The thirteen line geometry settings (R4, Table 1.2.1). -/
structure Geometry where
  seamPath : Nat
  detectPath : Nat
  verifyDist : Nat
  zones : Four Span
  outletDist : Nat
  panelGap : Nat
deriving DecidableEq, Repr

/-- The nine fields ORDER-ADD carries (R50). The preference list is its count byte and its three
entry bytes (R190). -/
structure OrderBody where
  tag : Nat
  slot : Nat
  cls : Nat
  grade : Nat
  panels : Nat
  prefCount : Nat
  pref1 : Nat
  pref2 : Nat
  pref3 : Nat
  seamPolicy : Nat
  foldLimit : Nat
  verifyRequired : Bool
deriving DecidableEq, Repr

/-- The five fields SEG-STAGE carries, each present or absent (R80). -/
structure StageBody where
  engage : Option Bool
  depthTrim : Option Int
  feedTrim : Option Int
  tensionLimit : Option Nat
  verify : Option Bool
deriving DecidableEq, Repr

/-- The nine splice settings as SPLICE-SET carries them (R120, Table 7.3.1); mode, debounce, polarity
and confirm timeout are choice bytes. -/
structure SpliceBody where
  mode : Nat
  trigger : Nat
  clearance : Nat
  tailReserve : Nat
  ceiling : Nat
  debounce : Nat
  polarity : Nat
  confirm : Nat
  sbNeed : Nat
deriving DecidableEq, Repr

/-- The three settings a ZONE-SET write carries (R138). -/
structure ZoneBody where
  sp : Nat
  standby : Nat
  kp : Nat
deriving DecidableEq, Repr

/-- The six settings a STEAM-SET write carries (R144). -/
structure SteamBody where
  reservations : Five Nat
  stallLimit : Nat
deriving DecidableEq, Repr

/-- The outlet and capacity an OUTLET-SET write carries (R175). -/
structure OutletBody where
  outlet : Nat
  capacity : Nat
deriving DecidableEq, Repr

/-- The three items a VERIFY-SET write carries (R168). -/
structure VerifyBody where
  window : Nat
  action : Nat
  period : Nat
deriving DecidableEq, Repr

/-- A request with a body of the right size and shape (R188, R190): what a frame hands to the owning
block. An `Option` body is a query when absent and a write when present. -/
inductive Request where
  | patDefine (slot : Nat) (steps : List PatStep)
  | patDrop (slot : Nat)
  | patRead (slot : Nat)
  | classSet (cls : Nat) (fields : Option FabricClass)
  | classRead (cls : Nat)
  | orderAdd (order : OrderBody)
  | orderCancel (order mode : Nat)
  | orderList
  | segStage (mask : Nat) (fields : StageBody)
  | segApply (mask mode : Nat)
  | segClear (mask : Nat)
  | segRead (mask : Nat)
  | rollLoad (spindle rollId cls length : Nat)
  | rollRemove (spindle : Nat)
  | spliceSet (settings : Option SpliceBody)
  | spliceResolve (action : Nat)
  | lineRun
  | lineStop (mode : Nat)
  | lineHold
  | lineRelease
  | lineRate (rate : Nat)
  | lineGeometry (settings : Option Geometry)
  | lineReset
  | zoneSet (zone : Nat) (settings : Option ZoneBody)
  | steamSet (settings : Option SteamBody)
  | outletSet (settings : Option OutletBody)
  | outletUnload (outlet count : Nat)
  | verifySet (settings : Option VerifyBody)
  | readTrack (start : Nat)
  | readExits (start : Nat)
  | readCounters
  | readStatus
  | readFlags
  | maskSet (masks : Option (BitVec 48))
deriving DecidableEq, Repr

/-- The commands. Those of the 34 requests stand for the complete frame that carries the request
(log 6): `tag` is the frame's TAG. The others are the events on the line link, the pins, the field
ports and the timers. -/
inductive Instr where
  | powerOn (estopActive binFull seamLevel : Bool)
  | characterReceived (char : Byte) (broken : Bool)
  | characterGapTimeout
  | transmitFrameDone
  | patDefine (tag : Byte) (slot : Nat) (steps : List PatStep)
  | patDrop (tag : Byte) (slot : Nat)
  | patRead (tag : Byte) (slot : Nat)
  | classSet (tag : Byte) (cls : Nat) (fields : Option FabricClass)
  | classRead (tag : Byte) (cls : Nat)
  | orderAdd (tag : Byte) (order : OrderBody)
  | orderCancel (tag : Byte) (order mode : Nat)
  | orderList (tag : Byte)
  | segStage (tag : Byte) (mask : Nat) (fields : StageBody)
  | segApply (tag : Byte) (mask mode : Nat)
  | segClear (tag : Byte) (mask : Nat)
  | segRead (tag : Byte) (mask : Nat)
  | rollLoad (tag : Byte) (spindle rollId cls length : Nat)
  | rollRemove (tag : Byte) (spindle : Nat)
  | spliceSet (tag : Byte) (settings : Option SpliceBody)
  | spliceResolve (tag : Byte) (action : Nat)
  | lineRun (tag : Byte)
  | lineStop (tag : Byte) (mode : Nat)
  | lineHold (tag : Byte)
  | lineRelease (tag : Byte)
  | lineRate (tag : Byte) (rate : Nat)
  | lineGeometry (tag : Byte) (settings : Option Geometry)
  | lineReset (tag : Byte)
  | zoneSet (tag : Byte) (zone : Nat) (settings : Option ZoneBody)
  | steamSet (tag : Byte) (settings : Option SteamBody)
  | outletSet (tag : Byte) (settings : Option OutletBody)
  | outletUnload (tag : Byte) (outlet count : Nat)
  | verifySet (tag : Byte) (settings : Option VerifyBody)
  | readTrack (tag : Byte) (start : Nat)
  | readExits (tag : Byte) (start : Nat)
  | readCounters (tag : Byte)
  | readStatus (tag : Byte)
  | readFlags (tag : Byte)
  | maskSet (tag : Byte) (masks : Option (BitVec 48))
  | estopActive
  | estopInactive
  | paceTimerExpiry
  | feedDone (seg : Fin 6)
  | feedTimeout (seg : Fin 6)
  | strokeDone (seg : Fin 6)
  | strokeTimeout (seg : Fin 6)
  | tensionSample (seg : Fin 6) (value : Int)
  | jamReport (seg : Fin 6)
  | withdrawDone (seg : Fin 6)
  | withdrawTimeout (seg : Fin 6)
  | homeDone (seg : Fin 6)
  | homeTimeout (seg : Fin 6)
  | parkDone (seg : Fin 6)
  | parkTimeout (seg : Fin 6)
  | driveFault (seg : Fin 6)
  | zoneSample (zone : Fin 4) (temp : Int)
  | zoneSilenceTimeout (zone : Fin 4)
  | supplyReading (reading : Int)
  | supplyWatchTimeout
  | stallTimerExpiry
  | tailCutDone
  | tailTimerExpiry
  | spindleMatched
  | matchTimeout
  | sealed
  | confirmTimeout
  | seamDetectorChange (level : Bool)
  | debounceTimerExpiry
  | rejectBinInputChange (full : Bool)
  | foldEvent (seg : Fin 6)
  | snapshotTimerExpiry
deriving DecidableEq, Repr

end Sys2Proof
end

