-- ==== Sys2Proof/Config.lean ====
section
/-! DEFINITION. The constants the spec fixes for the part, and the free values: what the spec leaves
unstated, as constants without a body. -/

namespace Sys2Proof.Config

/-- R14: pattern slots and step entries of the pool. -/
def slots : Nat := 48
def poolEntries : Nat := 1024

/-- R31: records the web track holds at most. -/
def trackCapacity : Nat := 24

/-- R49: orders the order queue holds at most. -/
def orderCapacity : Nat := 16

/-- R132: records the seam list holds at most. -/
def seamCapacity : Nat := 3

/-- R181: exit records the exit list holds at most. -/
def exitCapacity : Nat := 16

/-- R191: entries of the transmit queue, and how many of them a notice may find taken. -/
def queueCapacity : Nat := 32
def noticeCapacity : Nat := 28

/-- R105, R106: what a carry is set to at its start, and the unit of the carry. -/
def carryStart : Nat := 50000
def carryUnit : Nat := 100000

/-- R108: the longest drive step. -/
def driveStepMax : Nat := 6000

/-- R60: the margin of the fit test. -/
def fitMargin : Nat := 2000

/-- R197: the revision byte of the part the manual describes. -/
def revision : Nat := 1

/-- R173: the capacity of REWIND, which cannot be changed. -/
def rewindCapacity : Nat := 65535

/-- FREE VALUE (log 11, DESIGN CHOICE): the old roll id of a seam record made by SPLICE-RESOLVE BREAK
when no roll is ACTIVE. R131 makes the record and names no id. Applied to `State.freeIndex`. -/
opaque oldRollId : Nat → Nat

/-- FREE VALUE (log 12, DESIGN CHOICE): what a block reads from an undefined class entry, by the
entry's number. R9: an undefined entry holds no field values; R11 keeps a class that is named from
being undefined, so this is read only in states no run reaches. -/
opaque undefinedClass : Nat → FabricClass

end Sys2Proof.Config
end

