-- ==== Sys2Proof/Machine/State.lean ====
section
/-! DEFINITION. Every piece of state the spec gives the PL640, as plain data, and the state right after
power-on with the three inputs inactive (log 1). INVENTORY.md, '## State', lists each field with the
rule that names it. -/

namespace Sys2Proof.Machine

/-- Why a step stops with a fault: never. The spec lets no command stop the part; a host's error is a
result code in a reply (R189), a line error a flag, a segment state or a hold requester. -/
inductive Fault where
deriving DecidableEq, Repr

/-- Why a step gives a command no meaning. -/
inductive Refusal where
  /-- Raised by `exec` alone, for a command without a meaning yet; safe, since nothing is claimed of
  it. No arm raises it: every row of the table has its meaning. -/
  | notModelled (mnemonic : String)
deriving DecidableEq, Repr

/-! ## Sequencer -/

/-- Line states (R54, Table 4.2.1). -/
inductive LineState where
  | idle | waiting | running | holding | held | draining | estop
deriving DecidableEq, Repr

/-- The state HOLDING returns to when the hold requester set empties (R56). -/
inductive Resume where
  | running | draining
deriving DecidableEq, Repr

/-- The stop pending indication (R54). -/
inductive StopPending where
  | none | now | endOfPanel
deriving DecidableEq, Repr

/-- The hold requester set (R56). -/
structure HoldSet where
  host : Bool
  splice : Bool
  rollOut : Bool
  fault : Bool
deriving DecidableEq, Repr

/-- The start inhibit set (R57a, Table 4.3.1). -/
structure Inhibits where
  noOrder : Bool
  classMismatch : Bool
  trackFull : Bool
  outletFull : Bool
  rejectFull : Bool
  engaging : Bool
  noSegment : Bool
  rollShort : Bool
deriving DecidableEq, Repr

/-- The pace timer (R63): stopped, running with its period in 0.1 ms, or expired while a step was in
progress. -/
inductive PaceTimer where
  | stopped
  | running (period : Nat)
  | expired
deriving DecidableEq, Repr

/-- The direction of a stroke (R17). -/
inductive Direction where
  | left | right
deriving DecidableEq, Repr

/-- Pleat forms (R17, Table 2.2.3). -/
inductive Form where
  | knifeL | knifeR | box | inverted
deriving DecidableEq, Repr

/-- The plan figures of one step of the pattern (R113): for a PLEAT run its stroke count, form, lock,
graded spacing, taper depths, planned depths of the segments engaged at the plan, and the need of one
stroke; for a FLAT run its length and need. -/
inductive PlanRun where
  | pleat (strokes : Nat) (form : Form) (locked : Bool) (spacing : Nat) (taper : Six Nat)
      (planned : Six (Option Nat)) (need : Nat)
  | flat (length need : Nat)
deriving DecidableEq, Repr

/-- The panel plan, kept from panel start until forming ends (R59, R61, R113), with the panel's place
in its pattern: the run being formed and the strokes of it delivered. -/
structure Plan where
  runs : List PlanRun
  run : Nat
  stroke : Nat
  cls : Nat
  ownNeed : Nat
  /-- the planned end b (R59) -/
  plannedEnd : Nat
  /-- the gap that follows the panel: PANEL_GAP, or the seam gap 2c (R61) -/
  gap : Nat
  /-- this panel's planned end was accepted as the splice slot (R61) -/
  slotFirm : Bool
deriving DecidableEq, Repr

/-- A pending gap and its gap class (R70, R106). -/
structure Gap where
  length : Nat
  cls : Nat
deriving DecidableEq, Repr

/-- What a step is (R64 to R67). -/
inductive StepKind where
  | stroke (dir : Direction)
  | flat
  | gap
deriving DecidableEq, Repr

/-- Where a step stands (R64, R65, R71, R74). -/
inductive Phase where
  /-- the feed phase -/
  | feed
  /-- a feed phase cut by a hold at once; drive steps already commanded run to their end -/
  | feedCut
  /-- the feed end of a cut feed phase is made; the step waits to be taken up -/
  | fed
  /-- the stroke phase -/
  | stroke
  /-- a backoff: the withdraws are in flight, or the tensions are awaited -/
  | backoff
  /-- a stroke phase or backoff cut by a hold at once; withdraws already commanded run to their end -/
  | strokeCut
deriving DecidableEq, Repr

/-- The step in progress or cut short: what it is, the conveyor advance of its delivery (R1), and where
it stands. -/
structure StepRec where
  kind : StepKind
  advance : Nat
  phase : Phase
deriving DecidableEq, Repr

/-- The sequencer (R54). -/
structure Seq where
  line : LineState
  holdingFrom : Resume
  hold : HoldSet
  stop : StopPending
  inhibits : Inhibits
  pace : PaceTimer
  baseRate : Nat
  plan : Option Plan
  gap : Option Gap
  /-- a gap delivery kept after an e-stop (R75, R76), its length -/
  kept : Option Nat
  step : Option StepRec
  /-- backoffs of the current stroke (R71) -/
  backoffs : Nat
deriving DecidableEq, Repr

/-! ## Orders and panels -/

/-- Stackers and rewind (R173). -/
inductive Outlet where
  | stackA | stackB | rewind
deriving DecidableEq, Repr

/-- Where a panel drops (R179). -/
inductive FinalOutlet where
  | good (outlet : Outlet)
  | reject
deriving DecidableEq, Repr

/-- An order's seam policy (R49). -/
inductive SeamPolicy where
  | skip | mark
deriving DecidableEq, Repr

/-- An order's pending cancel (R52). -/
inductive CancelPending where
  | none | afterPanel | abandon
deriving DecidableEq, Repr

/-- An order (R49, Table 4.1.1). -/
structure Order where
  tag : Nat
  slot : Nat
  cls : Nat
  grade : Nat
  panels : Nat
  prefs : List Outlet
  seamPolicy : SeamPolicy
  foldLimit : Nat
  verifyRequired : Bool
  started : Nat
  ended : Nat
  cancel : CancelPending
deriving DecidableEq, Repr

/-- A panel record's state (R32). -/
inductive PanelState where
  | forming | travelling
deriving DecidableEq, Repr

/-- A panel record's reasons (R34, R38). -/
structure Reasons where
  seamed : Bool
  scorched : Bool
  interrupted : Bool
  abandoned : Bool
  segmentLost : Bool
  coldZone : Bool
  unverifiedSeen : Bool
deriving DecidableEq, Repr

/-- A panel record (R34, Table 3.2.1), with the two order figures the outlet controller keeps with the
record's credit (R174). -/
structure Panel where
  number : Nat
  order : Nat
  slot : Nat
  grade : Nat
  cls : Nat
  rollId : Nat
  state : PanelState
  head : Nat
  tail : Option Nat
  strokes : Nat
  backoffs : Nat
  lead : Four Nat
  tailDose : Four Nat
  outOfTol : Nat
  missing : Nat
  extra : Nat
  verified : Six Bool
  reasons : Reasons
  depthClamped : Bool
  stalled : Bool
  outlet : Outlet
  foldLimit : Nat
  verifyRequired : Bool
deriving DecidableEq, Repr

/-- An exit record's reject causes (R178). -/
structure Causes where
  reason : Bool
  underdosed : Bool
  overdosed : Bool
  foldErrors : Bool
  unverified : Bool
deriving DecidableEq, Repr

/-- An exit record (R180); the order figures of the credit are in `panel`. -/
structure ExitRecord where
  number : Nat
  panel : Panel
  leadTotal : Nat
  tailTotal : Nat
  causes : Causes
  final : FinalOutlet
  binFull : Bool
  conv : Nat
deriving DecidableEq, Repr

/-! ## Segment controls and feed metering -/

/-- A setting set (R79, Table 5.1.1). -/
structure SegSettings where
  engage : Bool
  depthTrim : Int
  feedTrim : Int
  tensionLimit : Nat
  verify : Bool
deriving DecidableEq, Repr

/-- Segment states (R86, Table 5.3.1). -/
inductive SegState where
  | parked | engaging | ready | active | parking | faulted
deriving DecidableEq, Repr

/-- Config statuses (R82, Table 5.2.1). -/
inductive ConfigStatus where
  | none | pending | inProgress | done | rejFaulted | rejNotNow | rejLastSegment
deriving DecidableEq, Repr

/-- Which copy a PENDING status waits for (R83, R84). -/
inductive ApplyMode where
  | boundary | now
deriving DecidableEq, Repr

/-- Fault causes (R90, Table 5.4.1). -/
inductive FaultCause where
  | none | feedTimeout | strokeTimeout | withdrawTimeout | backoffLimit | homeTimeout | parkTimeout
  | driveFault
deriving DecidableEq, Repr

/-- The drive command outstanding on a segment, with what it commands. -/
inductive Drive where
  | none
  | feed (length : Nat)
  | stroke (depth : Nat) (dir : Direction)
  | withdraw
  | home
  | park
deriving DecidableEq, Repr

/-- One segment control (R79, R82, R86, R90, R92). -/
structure Segment where
  staged : SegSettings
  active : SegSettings
  state : SegState
  status : ConfigStatus
  waiting : Option ApplyMode
  cause : FaultCause
  retryNow : Nat
  retryTotal : Nat
  drive : Drive
deriving DecidableEq, Repr

/-- What the feed metering unit keeps for one segment (R96, R101, R109, R111). -/
structure FeedSeg where
  panelCarry : Nat
  gapCarry : Nat
  tension : Option Nat
  /-- engaged at the start of the step -/
  inStep : Bool
  /-- blade depth commanded in the step -/
  depth : Nat
  /-- drive steps not yet commanded -/
  left : List Nat
  /-- number of drive steps commanded -/
  commanded : Nat
  /-- completed feed -/
  completed : Nat
deriving DecidableEq, Repr

/-! ## Roll change -/

/-- A roll on a spindle (R114). -/
structure Roll where
  id : Nat
  cls : Nat
  loaded : Nat
  remaining : Nat
deriving DecidableEq, Repr

/-- A spindle record (R114). -/
inductive Spindle where
  | empty
  | standby (roll : Roll)
  | active (roll : Roll)
  | expiring (roll : Roll)
  | spent (roll : Roll)
deriving DecidableEq, Repr

/-- The spindles. -/
inductive SpindleName where
  | u1 | u2
deriving DecidableEq, Repr

/-- Splice mode (R120). -/
inductive SpliceMode where
  | flying | stopped
deriving DecidableEq, Repr

/-- The nine splice settings (R120, Table 7.3.1); debounce and confirm timeout in ms. -/
structure SpliceSettings where
  mode : SpliceMode
  trigger : Nat
  clearance : Nat
  tailReserve : Nat
  ceiling : Nat
  debounce : Nat
  rising : Bool
  confirm : Nat
  sbNeed : Nat
deriving DecidableEq, Repr

/-- Causes of MISSED (R130). -/
inductive MissCause where
  | noMatch | noConfirm | estop
deriving DecidableEq, Repr

/-- Splice states (R121, Figure 7.4.1). -/
inductive SpliceState where
  | idle | armed | preparing | slotted | pressing
  | missed (cause : MissCause)
deriving DecidableEq, Repr

/-- How a seam was confirmed (R132). -/
inductive ConfirmedBy where
  | detector | sealed | accept | break_
deriving DecidableEq, Repr

/-- A seam record (R132). -/
structure Seam where
  position : Nat
  oldId : Nat
  newId : Nat
  time : Nat
  by_ : ConfirmedBy
deriving DecidableEq, Repr

/-- The unconfirmed seam of a fired splice (R125, R133). -/
structure Unconfirmed where
  position : Nat
  oldId : Nat
  newId : Nat
  crossed : Bool
deriving DecidableEq, Repr

/-- A command to the splice bar: in FLYING mode the press and the knife together (R125), in STOPPED mode the press
(R126). -/
inductive PressCommand where
  | pressAndKnife | press
deriving DecidableEq, Repr

/-- The roll change controller (Chapter 7, Table 7.0.1). -/
structure RollChange where
  u1 : Spindle
  u2 : Spindle
  tailTimer : Bool
  settings : SpliceSettings
  splice : SpliceState
  slotRequest : Bool
  firePoint : Option Nat
  /-- STOPPED mode: the press is due (R126); the content says that its fire condition needs no grant -/
  pressDue : Option Bool
  unconfirmed : Option Unconfirmed
  detectPoint : Option Nat
  edgeSeen : Bool
  seams : List Seam
  /-- seam detector levels, high is true -/
  stable : Bool
  candidate : Option Bool
  /-- debounce timer, running with its period in ms -/
  debounce : Option Nat
  matchTimer : Bool
  /-- confirm timer, running with its period in ms -/
  confirmTimer : Option Nat
  standbyNeeded : Bool
  /-- the command standing on the standby spindle (R122) -/
  spindleCommand : Option SpliceMode
  /-- what the splice bar was last commanded to (R125, R126; log 30) -/
  pressCommand : Option PressCommand
deriving DecidableEq, Repr

/-! ## Steam -/

/-- One zone controller (R137). -/
structure Zone where
  sp : Nat
  standby : Nat
  kp : Nat
  temp : Option Int
  demand : Nat
  silenceTimer : Bool
  cold : Bool
deriving DecidableEq, Repr

/-- The steam allocator (R143, Table 8.1.1). The valves hold the grants (R148). -/
structure Steam where
  reservations : Five Nat
  /-- seconds -/
  stallLimit : Nat
  reading : Option Nat
  supplyTimer : Bool
  meterLost : Bool
  demands : Five Nat
  grants : Five Nat
  ceiling : Nat
  starved : Four Nat
  satisfied : Nat
  /-- the stall timer: stopped, or running with the ms since it was started (R151) -/
  stallTimer : Option Nat
  stalled : Bool
deriving DecidableEq, Repr

/-! ## Verifier -/

/-- An expected fold (R159). -/
structure ExpectedFold where
  panel : Nat
  spacing : Nat
  count : Nat
  first : Bool
  tol : Nat
deriving DecidableEq, Repr

/-- One checker (R158, Table 9.1.1). -/
structure Checker where
  queue : List ExpectedFold
  locked : Bool
  run : Nat
  /-- panel number and stamp of the last fold matched -/
  last : Option (Nat × Nat)
  matched : Nat
  outOfTol : Nat
  missing : Nat
  extra : Nat
deriving DecidableEq, Repr

/-- Snapshot periods (R168). -/
inductive SnapshotPeriod where
  | off | s1 | s5
deriving DecidableEq, Repr

/-- The verifier (R158). -/
structure Verifier where
  checkers : Six Checker
  window : Nat
  frozen : Bool
  period : SnapshotPeriod
  timer : Bool
deriving DecidableEq, Repr

/-! ## Outlets -/

/-- Counts of one good outlet (R173). -/
structure OutletCounts where
  capacity : Nat
  occupied : Nat
  reserved : Nat
deriving DecidableEq, Repr

/-- The outlet controller (R173, Table 10.1.1). -/
structure Outlets where
  stackA : OutletCounts
  stackB : OutletCounts
  rewind : OutletCounts
  binFull : Bool
  exits : List ExitRecord
  nextExit : Nat
  skipped : Nat
  /-- what the outlet port was last commanded to -/
  port : Option FinalOutlet
deriving DecidableEq, Repr

/-! ## Line link -/

/-- Receiver states (R187). -/
inductive RxState where
  | hunt | sync | length | content | check
deriving DecidableEq, Repr

/-- The receiver: its state, the LEN bytes, the receive frame buffer (KIND, TAG, BODY) and the CHECK
bytes collected so far (R187). -/
structure Receiver where
  state : RxState
  lenBytes : List Byte
  buffer : List Byte
  checkBytes : List Byte
deriving DecidableEq, Repr

/-- One checker's line of a COUNTER-SNAPSHOT (R193). -/
structure SnapshotLine where
  matched : Nat
  outOfTol : Nat
  missing : Nat
  extra : Nat
  locked : Bool
deriving DecidableEq, Repr

/-- The content of a COUNTER-SNAPSHOT (R169, R193). -/
structure Snapshot where
  lines : Six SnapshotLine
  conv : Nat
deriving DecidableEq, Repr

/-- An entry of the transmit queue (R191). `closes` marks the reply whose last byte ends its request's
processing (R188); a BUSY reply does not carry it. The content of a FLAG-NOTICE is `Link.notice`. -/
inductive TxEntry where
  | reply (kind tag : Byte) (body : List Byte) (closes : Bool)
  | flagNotice
  | panelOut (record : ExitRecord)
  | snapshot (content : Snapshot)
deriving DecidableEq, Repr

/-- The frame under transmission, byte for byte, and whether it ends a request's processing. -/
structure Sending where
  frame : List Byte
  closes : Bool
deriving DecidableEq, Repr

/-- The line link interface (Chapter 11). -/
structure Link where
  rx : Receiver
  /-- a request is being processed (R188) -/
  busy : Bool
  queue : List TxEntry
  /-- replies waiting at the tail of a full queue (R191) -/
  waitingReplies : List TxEntry
  sending : Option Sending
  notice : Option (BitVec 48)
  noticeQueued : Bool
  flags : BitVec 48
  masks : BitVec 48
  errors : Nat
deriving DecidableEq, Repr

/-! ## The whole block -/

/-- The state of the PL640, and the queue of the commands waiting. -/
structure State where
  pending : List Instr
  freeIndex : Nat
  clock : Nat
  web : Nat
  conv : Nat
  geometry : Geometry
  classes : Table FabricClass
  patterns : Table (List PatStep)
  orders : List Order
  nextPanel : Nat
  track : List Panel
  seq : Seq
  segs : Six Segment
  fmu : Six FeedSeg
  rcc : RollChange
  zones : Four Zone
  steam : Steam
  verify : Verifier
  outlets : Outlets
  link : Link
  estopInput : Bool
deriving DecidableEq, Repr

/-! ## Power-on values -/

/-- R54: the hold requester set is empty after power-on. -/
def HoldSet.empty : HoldSet := ⟨false, false, false, false⟩

/-- R54: the start inhibit set is empty after power-on. -/
def Inhibits.empty : Inhibits := ⟨false, false, false, false, false, false, false, false⟩

/-- R34: a new record has no reason. -/
def Reasons.empty : Reasons := ⟨false, false, false, false, false, false, false⟩

/-- R4, Table 1.2.1: the default geometry. -/
def Geometry.default : Geometry where
  seamPath := 800000
  detectPath := 200000
  verifyDist := 6000
  zones := ⟨⟨20000, 140000⟩, ⟨140000, 260000⟩, ⟨260000, 380000⟩, ⟨380000, 500000⟩⟩
  outletDist := 560000
  panelGap := 2000

/-- R79, Table 5.1.1: the default setting set. -/
def SegSettings.default : SegSettings := ⟨false, 0, 0, 4095, true⟩

/-- R79, R82, R86, R90, R92: a segment control after power-on. -/
def Segment.powerOn : Segment where
  staged := SegSettings.default
  active := SegSettings.default
  state := .parked
  status := .none
  waiting := none
  cause := .none
  retryNow := 0
  retryTotal := 0
  drive := .none

/-- R96, Table 6.1.2: the feed metering unit's items after power-on (step items: log 22). -/
def FeedSeg.powerOn : FeedSeg where
  panelCarry := 50000
  gapCarry := 50000
  tension := none
  inStep := false
  depth := 0
  left := []
  commanded := 0
  completed := 0

/-- R54: the sequencer after power-on with the e-stop input inactive. -/
def Seq.powerOn : Seq where
  line := .idle
  holdingFrom := .running
  hold := HoldSet.empty
  stop := .none
  inhibits := Inhibits.empty
  pace := .stopped
  baseRate := 60
  plan := none
  gap := none
  kept := none
  step := none
  backoffs := 0

/-- R120, Table 7.3.1: the default splice settings. -/
def SpliceSettings.default : SpliceSettings where
  mode := .flying
  trigger := 600000
  clearance := 10000
  tailReserve := 100000
  ceiling := 60
  debounce := 5
  rising := true
  confirm := 2000
  sbNeed := 200

/-- Table 7.0.1: the roll change controller after power-on, with the seam detector low. -/
def RollChange.powerOn : RollChange where
  u1 := .empty
  u2 := .empty
  tailTimer := false
  settings := SpliceSettings.default
  splice := .idle
  slotRequest := false
  firePoint := none
  pressDue := none
  unconfirmed := none
  detectPoint := none
  edgeSeen := false
  seams := []
  stable := false
  candidate := none
  debounce := none
  matchTimer := false
  confirmTimer := none
  standbyNeeded := false
  spindleCommand := none
  pressCommand := none

/-- Table 8.1.1: a zone controller after power-on. -/
def Zone.powerOn : Zone := ⟨0, 0, 0, none, 0, true, false⟩

/-- Table 8.1.1: the steam allocator after power-on (demands used: log 22). -/
def Steam.powerOn : Steam where
  reservations := Five.fill 0
  stallLimit := 30
  reading := none
  supplyTimer := true
  meterLost := false
  demands := Five.fill 0
  grants := Five.fill 0
  ceiling := 100
  starved := Four.fill 0
  satisfied := 0
  stallTimer := none
  stalled := false

/-- Table 9.1.2: a checker after power-on. -/
def Checker.powerOn : Checker := ⟨[], false, 0, none, 0, 0, 0, 0⟩

/-- Table 9.1.2: the verifier after power-on. -/
def Verifier.powerOn : Verifier := ⟨Six.fill Checker.powerOn, 500, false, .off, false⟩

/-- Table 10.1.1: the outlet controller after power-on, with the bin full input inactive. -/
def Outlets.powerOn : Outlets where
  stackA := ⟨50, 0, 0⟩
  stackB := ⟨50, 0, 0⟩
  rewind := ⟨65535, 0, 0⟩
  binFull := false
  exits := []
  nextExit := 1
  skipped := 0
  port := none

/-- R187: the receiver after power-on and after any frame or discard. -/
def Receiver.hunting : Receiver := ⟨.hunt, [], [], []⟩

/-- Chapter 11: the line link after power-on with no input active: RESET_DONE (flag 0) is set and stands
in the pending FLAG-NOTICE, the queue is empty and the transmitter idle (log 5). -/
def Link.powerOn : Link where
  rx := Receiver.hunting
  busy := false
  queue := []
  waitingReplies := []
  sending := none
  notice := some 1
  noticeQueued := false
  flags := 1
  masks := 0
  errors := 0

/-- The block right after power-on with the e-stop, bin full and seam detector inputs inactive (log 1),
no command waiting. -/
def State.reset : State where
  pending := []
  freeIndex := 0
  clock := 0
  web := 0
  conv := 0
  geometry := Geometry.default
  classes := []
  patterns := []
  orders := []
  nextPanel := 1
  track := []
  seq := Seq.powerOn
  segs := Six.fill Segment.powerOn
  fmu := Six.fill FeedSeg.powerOn
  rcc := RollChange.powerOn
  zones := Four.fill Zone.powerOn
  steam := Steam.powerOn
  verify := Verifier.powerOn
  outlets := Outlets.powerOn
  link := Link.powerOn
  estopInput := false

end Sys2Proof.Machine
end

