-- ==== Sys2Proof/Machine/Flags.lean ====
section
/-! DEFINITION. The 48 latched flags (R194, Table 11.4.5), how one is raised, and the pending
FLAG-NOTICE its number joins (R192). -/

namespace Sys2Proof.Machine

/-- The flags (Table 11.4.5). -/
inductive Flag where
  | resetDone | lineState | held | estop | orderDone | inhibit
  | segState (i : Fin 6) | segFault (i : Fin 6) | applyDone (i : Fin 6)
  | standbyNeeded | spliceDone | spliceMissed | rollOut | seamInPanel | ceilingChanged | zoneStarved
  | stall | zoneSensor (z : Fin 4) | steamMeter | scorch | lock (i : Fin 6)
  | stackFullA | stackFullB | rejectBinFull | exitReportSkipped
deriving DecidableEq, Repr

/-- A flag's number (Table 11.4.5). -/
def Flag.number : Flag → Nat
  | .resetDone => 0
  | .lineState => 1
  | .held => 2
  | .estop => 3
  | .orderDone => 4
  | .inhibit => 5
  | .segState i => 6 + i.val
  | .segFault i => 12 + i.val
  | .applyDone i => 18 + i.val
  | .standbyNeeded => 24
  | .spliceDone => 25
  | .spliceMissed => 26
  | .rollOut => 27
  | .seamInPanel => 28
  | .ceilingChanged => 29
  | .zoneStarved => 30
  | .stall => 31
  | .zoneSensor z => 32 + z.val
  | .steamMeter => 36
  | .scorch => 37
  | .lock i => 38 + i.val
  | .stackFullA => 44
  | .stackFullB => 45
  | .rejectBinFull => 46
  | .exitReportSkipped => 47

/-- The set holding flag number `n` alone. -/
def flagBit (n : Nat) : BitVec 48 := 1#48 <<< n

/-- R192: a number joins the pending FLAG-NOTICE; where none is pending a new one is formed, and enters
the queue at once when the queue has a free entry for a notice. -/
def Link.joinNotice (n : Nat) (l : Link) : Link :=
  match l.notice with
  | some c => { l with notice := some (c ||| flagBit n) }
  | none =>
    if l.queue.length < Config.noticeCapacity then
      { l with notice := some (flagBit n), noticeQueued := true, queue := l.queue ++ [.flagNotice] }
    else
      { l with notice := some (flagBit n), noticeQueued := false }

/-- R194: raising a clear flag sets it, and its number joins the pending FLAG-NOTICE when its mask bit
is clear; raising a set flag changes nothing. -/
def Link.raise (n : Nat) (l : Link) : Link :=
  if l.flags.getLsbD n then l
  else if l.masks.getLsbD n then { l with flags := l.flags ||| flagBit n }
  else Link.joinNotice n { l with flags := l.flags ||| flagBit n }

/-- R194: a block raises a flag. -/
def State.raise (f : Flag) (s : State) : State := { s with link := s.link.raise f.number }

/-- The flag is set. -/
def State.flagSet (f : Flag) (s : State) : Bool := s.link.flags.getLsbD f.number

end Sys2Proof.Machine
end

