-- ==== Sys2Proof/Machine/Operands.lean ====
section
/-! DEFINITION. The operand forms of R190: numbers as little-endian bytes, choices, masks, optional
items; and the choice bytes of the requests. -/

namespace Sys2Proof.Machine

/-- A number clamped to `lo..hi` (00_scope 1.6). -/
def clampNat (lo hi v : Nat) : Nat := if v < lo then lo else if hi < v then hi else v

/-- An integer clamped to `0..hi` (00_scope 1.6), as a number. -/
def clampInt (hi : Nat) (v : Int) : Nat := if v < 0 then 0 else if (hi : Int) < v then hi else v.toNat

/-- A count that stops at `top`. -/
def satAdd (top a b : Nat) : Nat := if top < a + b then top else a + b

/-- `v` lies in `lo..hi`. -/
def inRange (lo hi v : Nat) : Bool := decide (lo ≤ v) && decide (v ≤ hi)

/-- R190: a number of `n` bytes, least significant byte first (R185). -/
def leBytes : Nat → Nat → List Byte
  | 0, _ => []
  | n + 1, v => BitVec.ofNat 8 v :: leBytes n (v / 256)

def u8 (v : Nat) : List Byte := leBytes 1 v
def u16 (v : Nat) : List Byte := leBytes 2 v
def u32 (v : Nat) : List Byte := leBytes 4 v
def u64 (v : Nat) : List Byte := leBytes 8 v

/-- R190: a number whose range includes negative values, in two's complement of two bytes. -/
def s16 (v : Int) : List Byte := leBytes 2 (v % 65536).toNat

/-- R190: a yes/no item. -/
def yesNo (b : Bool) : List Byte := u8 (if b then 1 else 0)

/-- R190: an optional number of `n` bytes: a presence byte, then the item, zeros when absent. -/
def optNum (n : Nat) (v : Option Nat) : List Byte :=
  match v with
  | some x => u8 1 ++ leBytes n x
  | none => u8 0 ++ leBytes n 0

/-- R190: a set of up to eight members in one byte, bit 0 for the first. -/
def setByte (bs : List Bool) : Nat := bs.foldr (fun b acc => (if b then 1 else 0) + 2 * acc) 0

/-- The members of a segment mask, in order. -/
def maskSegs (mask : Nat) : List (Fin 6) := segIndices.filter (fun i => mask.testBit i.val)

/-- R190, R80: a segment mask that names a segment and has no bit beyond S5. -/
def maskOk (mask : Nat) : Bool := decide (mask ≠ 0) && decide (mask < 64)

/-- A segment mask byte from its members. -/
def segMask (v : Six Bool) : Nat := setByte v.toList

/-- R17, Table 2.2.3: the form a choice byte names. -/
def formOf? : Nat → Option Form
  | 0 => some .knifeL
  | 1 => some .knifeR
  | 2 => some .box
  | 3 => some .inverted
  | _ => none

/-- R173: the good outlet a choice byte names. -/
def outletOf? : Nat → Option Outlet
  | 0 => some .stackA
  | 1 => some .stackB
  | 2 => some .rewind
  | _ => none

def Outlet.byte : Outlet → Nat
  | .stackA => 0
  | .stackB => 1
  | .rewind => 2

def FinalOutlet.byte : FinalOutlet → Nat
  | .good o => o.byte
  | .reject => 3

/-- R49: the seam policy a choice byte names. -/
def seamPolicyOf? : Nat → Option SeamPolicy
  | 0 => some .skip
  | 1 => some .mark
  | _ => none

/-- R52: the cancel mode a choice byte names. -/
def cancelModeOf? : Nat → Option CancelPending
  | 0 => some .afterPanel
  | 1 => some .abandon
  | _ => none

/-- R81: the apply mode a choice byte names. -/
def applyModeOf? : Nat → Option ApplyMode
  | 0 => some .boundary
  | 1 => some .now
  | _ => none

/-- R114: the spindle a choice byte names. -/
def spindleOf? : Nat → Option SpindleName
  | 0 => some .u1
  | 1 => some .u2
  | _ => none

/-- R57: the stop mode a choice byte names. -/
def stopModeOf? : Nat → Option StopPending
  | 0 => some .now
  | 1 => some .endOfPanel
  | _ => none

/-- R138: the zone a choice byte names. -/
def zoneOf? : Nat → Option (Fin 4)
  | 0 => some 0
  | 1 => some 1
  | 2 => some 2
  | 3 => some 3
  | _ => none

/-- R120: the splice mode a choice byte names. -/
def spliceModeOf? : Nat → Option SpliceMode
  | 0 => some .flying
  | 1 => some .stopped
  | _ => none

/-- R120, Table 7.3.1: the debounce setting in ms a choice byte names. -/
def debounceOf? : Nat → Option Nat
  | 0 => some 2
  | 1 => some 5
  | 2 => some 10
  | 3 => some 20
  | _ => none

def debounceByte (ms : Nat) : Nat :=
  if ms = 2 then 0 else if ms = 5 then 1 else if ms = 10 then 2 else 3

/-- R120: whether a choice byte names RISING. -/
def polarityOf? : Nat → Option Bool
  | 0 => some true
  | 1 => some false
  | _ => none

/-- R120, Table 7.3.1: the confirm timeout in ms a choice byte names. -/
def confirmOf? : Nat → Option Nat
  | 0 => some 250
  | 1 => some 500
  | 2 => some 1000
  | 3 => some 2000
  | 4 => some 3000
  | 5 => some 5000
  | 6 => some 8000
  | 7 => some 12000
  | _ => none

def confirmByte (ms : Nat) : Nat :=
  if ms = 250 then 0 else if ms = 500 then 1 else if ms = 1000 then 2 else if ms = 2000 then 3
  else if ms = 3000 then 4 else if ms = 5000 then 5 else if ms = 8000 then 6 else 7

/-- R168: the counting actions. -/
inductive CountAction where
  | none | enable | freeze
deriving DecidableEq, Repr

def countActionOf? : Nat → Option CountAction
  | 0 => some .none
  | 1 => some .enable
  | 2 => some .freeze
  | _ => none

/-- R168: the snapshot period a choice byte names. -/
def periodOf? : Nat → Option SnapshotPeriod
  | 0 => some .off
  | 1 => some .s1
  | 2 => some .s5
  | _ => none

def SnapshotPeriod.byte : SnapshotPeriod → Nat
  | .off => 0
  | .s1 => 1
  | .s5 => 2

/-- Result codes (R189, Table 11.2.1). -/
inductive ResultCode where
  | ok | busy | unknown | format | range | state | noRoom | inUse | notFound | partial_
deriving DecidableEq, Repr

def ResultCode.byte : ResultCode → Nat
  | .ok => 0
  | .busy => 1
  | .unknown => 2
  | .format => 3
  | .range => 4
  | .state => 5
  | .noRoom => 6
  | .inUse => 7
  | .notFound => 8
  | .partial_ => 9

/-- A request's answer: its result code and the items that follow it (R189). -/
structure Answer where
  code : ResultCode
  items : List Byte
deriving DecidableEq, Repr

/-- R189: the body of a reply. -/
def Answer.body (a : Answer) : List Byte := u8 a.code.byte ++ a.items

end Sys2Proof.Machine
end

