-- ==== Sys2Proof/Machine/Ops.lean ====
section
/-! DEFINITION. The named operations over the block's registers: segments, orders, panel records,
spindles, tables, and the place where the sequencer's work stands. Every meaning goes through them. -/

namespace Sys2Proof.Machine

/-! ## Segments -/

/-- A segment is engaged when it is READY or ACTIVE (R79). -/
def SegState.engaged : SegState → Bool
  | .ready | .active => true
  | .parked | .engaging | .parking | .faulted => false

def Segment.engaged (g : Segment) : Bool := g.state.engaged

/-- Write segment `i`'s control. -/
def State.setSeg (i : Fin 6) (g : Segment) (s : State) : State := { s with segs := s.segs.set i g }

/-- Write what the feed metering unit keeps for segment `i`. -/
def State.setFmu (i : Fin 6) (f : FeedSeg) (s : State) : State := { s with fmu := s.fmu.set i f }

/-- Write the drive command outstanding on segment `i`. -/
def State.setDrive (i : Fin 6) (d : Drive) (s : State) : State :=
  s.setSeg i { s.segs.get i with drive := d }

/-- R86: change segment `i`'s state; SEG_STATE_i is raised on every change. -/
def State.setSegState (i : Fin 6) (st : SegState) (s : State) : State :=
  if (s.segs.get i).state = st then s
  else (s.setSeg i { s.segs.get i with state := st }).raise (.segState i)

/-- A copy is waiting or moving the segment: PENDING or IN_PROGRESS (R82). -/
def ConfigStatus.busy : ConfigStatus → Bool
  | .pending | .inProgress => true
  | .none | .done | .rejFaulted | .rejNotNow | .rejLastSegment => false

/-- R82: change segment `i`'s config status. A status other than PENDING waits for no copy; APPLY_DONE_i
is raised when the status leaves PENDING or IN_PROGRESS. -/
def State.setStatus (i : Fin 6) (st : ConfigStatus) (s : State) : State :=
  let g := s.segs.get i
  let s' := s.setSeg i { g with status := st, waiting := if st = .pending then g.waiting else none }
  if g.status.busy && !st.busy then s'.raise (.applyDone i) else s'

/-- R83, R84: segment `i`'s status becomes PENDING for a copy of the given mode. -/
def State.setWaiting (i : Fin 6) (m : ApplyMode) (s : State) : State :=
  s.setSeg i { s.segs.get i with status := .pending, waiting := some m }

/-- Some segment is READY or ACTIVE. -/
def State.someEngaged (s : State) : Bool := s.segs.any (·.engaged)

/-- Some segment is FAULTED. -/
def State.someFaulted (s : State) : Bool := s.segs.any (fun g => decide (g.state = .faulted))

/-- The drive outstanding is a feed step. -/
def Drive.isFeed : Drive → Bool
  | .feed _ => true
  | _ => false

/-- The drive outstanding is a stroke. -/
def Drive.isStroke : Drive → Bool
  | .stroke _ _ => true
  | _ => false

/-- The drive outstanding is a withdraw. -/
def Drive.isWithdraw : Drive → Bool
  | .withdraw => true
  | _ => false

/-- Some segment has a feed step outstanding. -/
def State.feedsOut (s : State) : Bool := s.segs.any (·.drive.isFeed)

/-- Some segment has a stroke outstanding. -/
def State.strokesOut (s : State) : Bool := s.segs.any (·.drive.isStroke)

/-- Some segment has a withdraw outstanding. -/
def State.withdrawsOut (s : State) : Bool := s.segs.any (·.drive.isWithdraw)

/-- The timeout in ms of an outstanding drive command (R64, R65, R71, R86). -/
def Drive.timeout : Drive → Option Nat
  | .none => Option.none
  | .feed _ => some 400
  | .stroke _ _ => some 600
  | .withdraw => some 300
  | .home => some 2000
  | .park => some 2000

/-- Command every engaged segment's drive, by segment index. -/
def State.commandEngaged (d : Fin 6 → Drive) (s : State) : State :=
  { s with segs := Six.tabulate fun i =>
      let g := s.segs.get i
      if g.engaged then { g with drive := d i } else g }

/-- Abandon every feed, stroke and withdraw outstanding. -/
def State.clearStepDrives (s : State) : State :=
  { s with segs := s.segs.map fun g =>
      if g.drive.isFeed || g.drive.isStroke || g.drive.isWithdraw then { g with drive := .none } else g }

/-! ## Tables -/

/-- R12: the fields of a class number in 0..15 that is defined. -/
def State.class? (n : Nat) (s : State) : Option FabricClass := s.classes.get? n

/-- R12: what a block of the line reads of a class it names; a free value for an undefined one, which a
class in use is not (R11, log 12). -/
def State.classFields (n : Nat) (s : State) : FabricClass :=
  (s.class? n).getD (Config.undefinedClass n)

/-- The pattern a slot holds (R14). -/
def State.pattern? (n : Nat) (s : State) : Option (List PatStep) := s.patterns.get? n

/-- The total number of steps held. -/
def stepsHeld (t : Table (List PatStep)) : Nat := (t.map (fun e => e.2.length)).sum

/-- R15: the pool's free count. -/
def State.freeEntries (s : State) : Nat := Config.poolEntries - stepsHeld s.patterns

/-! ## Spindles -/

/-- The ACTIVE roll of one spindle record. -/
def Spindle.active? : Spindle → Option Roll
  | .active r => some r
  | _ => none

/-- The STANDBY roll of one spindle record. -/
def Spindle.standby? : Spindle → Option Roll
  | .standby r => some r
  | _ => none

/-- The ACTIVE roll, if there is one (R114). -/
def RollChange.activeRoll (r : RollChange) : Option Roll := r.u1.active?.or r.u2.active?

/-- The STANDBY roll, if there is one (R114). -/
def RollChange.standbyRoll (r : RollChange) : Option Roll := r.u1.standby?.or r.u2.standby?

/-- Change both spindle records. -/
def RollChange.mapSpindles (f : Spindle → Spindle) (r : RollChange) : RollChange :=
  { r with u1 := f r.u1, u2 := f r.u2 }

/-- A spindle's record. -/
def RollChange.spindle (r : RollChange) : SpindleName → Spindle
  | .u1 => r.u1
  | .u2 => r.u2

/-- Write a spindle's record. -/
def RollChange.setSpindle (n : SpindleName) (x : Spindle) (r : RollChange) : RollChange :=
  match n with
  | .u1 => { r with u1 := x }
  | .u2 => { r with u2 := x }

/-- The roll of a record that is not EMPTY. -/
def Spindle.roll? : Spindle → Option Roll
  | .empty => none
  | .standby r | .active r | .expiring r | .spent r => some r

/-! ## Panel records -/

/-- The record is FORMING. -/
def Panel.forming (p : Panel) : Bool := decide (p.state = .forming)

/-- The FORMING record, if there is one (R31). -/
def State.forming? (s : State) : Option Panel := s.track.find? (·.forming)

/-- Change the FORMING record, if there is one. -/
def State.mapForming (f : Panel → Panel) (s : State) : State :=
  { s with track := s.track.map fun p => if p.forming then f p else p }

/-- R36: write into the record of a panel number, if it is in the track. -/
def State.writePanel (n : Nat) (f : Panel → Panel) (s : State) : State :=
  { s with track := s.track.map fun p => if p.number = n then f p else p }

/-- R2: the distance of a place, the conveyor count less its crossing count. -/
def State.distance (crossing : Nat) (s : State) : Nat := s.conv - crossing

/-- R5: a distance lies in the zone; the start is included and the end is not. -/
def Span.holds (z : Span) (d : Nat) : Bool := decide (z.start ≤ d) && decide (d < z.stop)

/-- R42: the record's lead probe is in zone `z`. -/
def State.leadIn (z : Fin 4) (p : Panel) (s : State) : Bool :=
  Span.holds (s.geometry.zones.get z) (s.distance p.head)

/-- R42: the record's tail probe, once it exists, is in zone `z`. -/
def State.tailIn (z : Fin 4) (p : Panel) (s : State) : Bool :=
  match p.tail with
  | some t => Span.holds (s.geometry.zones.get z) (s.distance t)
  | none => false

/-- A probe of the record is in zone `z`. -/
def State.probeIn (z : Fin 4) (p : Panel) (s : State) : Bool := s.leadIn z p || s.tailIn z p

/-- A probe of the record is in some zone. -/
def State.probeInTunnel (p : Panel) (s : State) : Bool := zoneIndices.any (fun z => s.probeIn z p)

/-! ## Plan and place -/

/-- R17: a BOX or INVERTED pleat has two strokes. -/
def Form.twoStroke : Form → Bool
  | .box | .inverted => true
  | .knifeL | .knifeR => false

/-- R17, Table 2.2.3: strokes of each pleat of the form. -/
def Form.strokesPerPleat (f : Form) : Nat := if f.twoStroke then 2 else 1

/-- R17, Table 2.2.3: the direction of the run's stroke number `k`, counted from 0. -/
def Form.direction (f : Form) (k : Nat) : Direction :=
  match f with
  | .knifeL => .left
  | .knifeR => .right
  | .box => if k % 2 = 0 then .left else .right
  | .inverted => if k % 2 = 0 then .right else .left

/-- R19, R20: the boundary after `k` strokes of a run of `n` is closed: a next stroke of the same locked
group follows. -/
def closedAfter (form : Form) (locked : Bool) (n k : Nat) : Bool :=
  decide (0 < k) && decide (k < n) && (locked || (form.twoStroke && decide (k % 2 = 1)))

/-- R20: the boundary at which the panel stands is closed. -/
def Plan.closed (p : Plan) : Bool :=
  match p.runs[p.run]? with
  | some (.pleat strokes form locked _ _ _ _) => closedAfter form locked strokes p.stroke
  | _ => false

/-- The panel's place after the delivery of its next step. -/
def Plan.advance (p : Plan) : Plan :=
  match p.runs[p.run]? with
  | some (.pleat strokes _ _ _ _ _ _) =>
    if p.stroke + 1 < strokes then { p with stroke := p.stroke + 1 }
    else { p with run := p.run + 1, stroke := 0 }
  | _ => { p with run := p.run + 1, stroke := 0 }

/-- Every step of the pattern is delivered. -/
def Plan.finished (p : Plan) : Bool := decide (p.runs.length ≤ p.run)

/-- Write the sequencer's part. -/
def State.setSeq (f : Seq → Seq) (s : State) : State := { s with seq := f s.seq }

/-- Write the roll change controller's part. -/
def State.setRcc (f : RollChange → RollChange) (s : State) : State := { s with rcc := f s.rcc }

/-- The boundary at which the work stands is closed (R20). -/
def State.boundaryClosed (s : State) : Bool :=
  match s.seq.plan with
  | some p => p.closed
  | none => false

/-- R54: the work stands at a panel boundary: no record FORMING and no step in progress or cut short. A
gap, or a gap delivery kept after an e-stop (R77, log 13), may be pending there. -/
def State.atPanelBoundary (s : State) : Bool := s.forming?.isNone && s.seq.step.isNone

/-- The work stands at a panel boundary with no gap pending. -/
def State.atPanelStart (s : State) : Bool :=
  s.atPanelBoundary && s.seq.gap.isNone && s.seq.kept.isNone

/-- The work stands at an open cycle boundary: no step in progress or cut short (R69). -/
def State.atOpenBoundary (s : State) : Bool := s.seq.step.isNone && !s.boundaryClosed

/-- The line makes or finishes steps: RUNNING, HOLDING or DRAINING (the pace timer's states, R54). -/
def LineState.moving : LineState → Bool
  | .running | .holding | .draining => true
  | .idle | .waiting | .held | .estop => false

/-- R56: the hold requester set holds a member. -/
def HoldSet.nonEmpty (h : HoldSet) : Bool := h.host || h.splice || h.rollOut || h.fault

/-- R57a: the start inhibit set holds an inhibit. -/
def Inhibits.nonEmpty (b : Inhibits) : Bool :=
  b.noOrder || b.classMismatch || b.trackFull || b.outletFull || b.rejectFull || b.engaging
    || b.noSegment || b.rollShort

/-! ## Rates -/

/-- R122: the splice ceiling handed to the sequencer. -/
def RollChange.spliceCeiling (r : RollChange) : Nat :=
  match r.settings.mode, r.splice with
  | .flying, .preparing | .flying, .slotted | .flying, .pressing => r.settings.ceiling
  | _, _ => 100

/-- R122: SB's demand handed to the steam allocator. -/
def RollChange.sbDemand (r : RollChange) : Nat :=
  match r.splice with
  | .preparing | .slotted | .pressing => r.settings.sbNeed
  | .idle | .armed | .missed _ => 0

/-- R62: the effective rate from a base rate and the two ceilings. -/
def effectiveRateOf (base heat splice : Nat) : Nat := max 20 (base * min heat splice / 100)

/-- R62: the effective rate as the ceilings stand. -/
def State.effectiveRate (s : State) : Nat :=
  effectiveRateOf s.seq.baseRate s.steam.ceiling s.rcc.spliceCeiling

/-- R63: the pace period in 0.1 ms. -/
def State.pacePeriod (s : State) : Nat := 600000 / s.effectiveRate

/-! ## Outlets -/

/-- The counts of an outlet. -/
def Outlets.counts (o : Outlets) : Outlet → OutletCounts
  | .stackA => o.stackA
  | .stackB => o.stackB
  | .rewind => o.rewind

/-- Write the counts of an outlet. -/
def Outlets.setCounts (n : Outlet) (c : OutletCounts) (o : Outlets) : Outlets :=
  match n with
  | .stackA => { o with stackA := c }
  | .stackB => { o with stackB := c }
  | .rewind => { o with rewind := c }

/-- Occupied plus reserved is below the capacity (R174). -/
def OutletCounts.hasRoom (c : OutletCounts) : Bool := decide (c.occupied + c.reserved < c.capacity)

/-- The outlet's full flag; REWIND has none (R174). -/
def Outlet.fullFlag : Outlet → Option Flag
  | .stackA => some .stackFullA
  | .stackB => some .stackFullB
  | .rewind => none

/-- Raise a flag where there is one. -/
def State.raise? (f : Option Flag) (s : State) : State :=
  match f with
  | some x => s.raise x
  | none => s

/-- The next free value is used up. -/
def State.takeFree (s : State) : State := { s with freeIndex := s.freeIndex + 1 }

end Sys2Proof.Machine
end

