-- ==== Sys2Proof/Machine/Frames.lean ====
section
/-! DEFINITION. Frames (R186, Table 11.6.1), the layouts of section 11.6, and the transmit queue
(R191 to R193). -/

namespace Sys2Proof.Machine

/-! ## CRC and frames -/

/-- R186: one bit of the CRC register, polynomial 1021H, most significant bit first. -/
def crcShift (r : BitVec 16) : BitVec 16 :=
  if r.msb then (r <<< 1) ^^^ 0x1021#16 else r <<< 1

/-- `n` shifts of the CRC register. -/
def crcShifts : Nat → BitVec 16 → BitVec 16
  | 0, r => r
  | n + 1, r => crcShifts n (crcShift r)

/-- R186: one byte into the CRC register. -/
def crcByte (r : BitVec 16) (b : Byte) : BitVec 16 := crcShifts 8 (r ^^^ (b.setWidth 16 <<< 8))

/-- R186: the CRC of a byte sequence, the register starting at FFFFH. -/
def crc (bs : List Byte) : BitVec 16 := bs.foldl crcByte 0xFFFF#16

/-- R186: the CRC of a frame is over LEN, KIND, TAG and BODY. -/
def frameCheck (lenBytes content : List Byte) : List Byte := u16 (crc (lenBytes ++ content)).toNat

/-- R186, Table 11.6.1: a whole frame. -/
def frameBytes (kind tag : Byte) (body : List Byte) : List Byte :=
  let content := kind :: tag :: body
  let lenBytes := u16 content.length
  [0xA5#8, 0x5A#8] ++ lenBytes ++ content ++ frameCheck lenBytes content

/-! ## Layouts -/

/-- Table 11.6.4: the six bytes of a flag set. -/
def flagBytes (f : BitVec 48) : List Byte := leBytes 6 f.toNat

def PanelState.byte : PanelState → Nat
  | .forming => 0
  | .travelling => 1

def Reasons.byte (r : Reasons) : Nat :=
  setByte [r.seamed, r.scorched, r.interrupted, r.abandoned, r.segmentLost, r.coldZone, r.unverifiedSeen]

def Causes.byte (c : Causes) : Nat :=
  setByte [c.reason, c.underdosed, c.overdosed, c.foldErrors, c.unverified]

/-- The four dose fields of a probe, four bytes each. -/
def doseBytes (d : Four Nat) : List Byte := d.toList.flatMap u32

/-- Table 11.6.3, offsets 4 to 80: a panel record, 77 bytes; an absent tail position reads 0. -/
def panelBytes (p : Panel) : List Byte :=
  u32 p.number ++ u16 p.order ++ u8 p.slot ++ u16 p.grade ++ u8 p.cls ++ u32 p.rollId ++ u8 p.state.byte
    ++ u64 p.head ++ u64 (p.tail.getD 0) ++ u16 p.strokes ++ u16 p.backoffs ++ doseBytes p.lead
    ++ doseBytes p.tailDose ++ u16 p.outOfTol ++ u16 p.missing ++ u16 p.extra ++ u8 (segMask p.verified)
    ++ u8 p.reasons.byte ++ u8 (setByte [p.depthClamped, p.stalled]) ++ u8 p.outlet.byte

/-- R178: the disposition is REJECT when the set of reject causes holds any. -/
def Causes.reject (c : Causes) : Bool :=
  c.reason || c.underdosed || c.overdosed || c.foldErrors || c.unverified

/-- Table 11.6.3: an exit record, 112 bytes. -/
def exitBytes (x : ExitRecord) : List Byte :=
  u32 x.number ++ panelBytes x.panel ++ u64 x.leadTotal ++ u64 x.tailTotal ++ yesNo x.causes.reject
    ++ u8 x.causes.byte ++ u8 x.final.byte ++ u16 x.panel.foldLimit ++ yesNo x.panel.verifyRequired
    ++ yesNo x.binFull ++ u64 x.conv

/-- R193: the body of a COUNTER-SNAPSHOT, 110 bytes. -/
def snapshotBytes (n : Snapshot) : List Byte :=
  n.lines.toList.flatMap (fun k =>
    u32 k.matched ++ u32 k.outOfTol ++ u32 k.missing ++ u32 k.extra ++ yesNo k.locked) ++ u64 n.conv

/-! ## The transmit queue -/

/-- The frame an entry is sent as, and whether it ends a request's processing (R188, R191). -/
def TxEntry.sending (notice : Option (BitVec 48)) : TxEntry → Sending
  | .reply kind tag body closes => ⟨frameBytes kind tag body, closes⟩
  | .flagNotice => ⟨frameBytes 0xC0#8 0#8 (flagBytes (notice.getD 0)), false⟩
  | .panelOut x => ⟨frameBytes 0xC1#8 0#8 (exitBytes x), false⟩
  | .snapshot n => ⟨frameBytes 0xC2#8 0#8 (snapshotBytes n), false⟩

/-- R191: a waiting reply enters the queue when there is room. -/
def Link.admitReply (l : Link) : Link :=
  match l.waitingReplies with
  | r :: rest =>
    if l.queue.length < Config.queueCapacity then { l with queue := l.queue ++ [r], waitingReplies := rest }
    else l
  | [] => l

/-- R192: a FLAG-NOTICE waiting outside the queue enters it when there is a free entry for a notice. -/
def Link.admitNotice (l : Link) : Link :=
  if l.notice.isSome && !l.noticeQueued && decide (l.queue.length < Config.noticeCapacity) then
    { l with queue := l.queue ++ [.flagNotice], noticeQueued := true }
  else l

/-- R191, R192: what waits outside the queue enters it where there is room. -/
def Link.letIn (l : Link) : Link := l.admitReply.admitNotice

/-- R191: when the transmitter is idle and the queue holds an entry, the oldest leaves it and its frame
is sent; a FLAG-NOTICE then is no longer pending (R192). -/
def Link.start (l : Link) : Link :=
  match l.sending, l.queue with
  | none, e :: rest =>
    let l' := { l with sending := some (e.sending l.notice), queue := rest }
    Link.letIn (if e = .flagNotice then { l' with notice := none, noticeQueued := false } else l')
  | _, _ => l

/-- The link's own work at the end of a command (log 4). -/
def Link.service (l : Link) : Link := l.letIn.start

/-- R191: a reply enters the queue, or waits at its tail when the queue is full. -/
def Link.pushReply (e : TxEntry) (l : Link) : Link :=
  let l := l.letIn
  if l.queue.length < Config.queueCapacity then { l with queue := l.queue ++ [e] }
  else { l with waitingReplies := l.waitingReplies ++ [e] }

/-- The entry is a COUNTER-SNAPSHOT. -/
def TxEntry.isSnapshot : TxEntry → Bool
  | .snapshot _ => true
  | _ => false

/-- R193: a snapshot replaces one in the queue, or enters at the tail, or is discarded. -/
def Link.pushSnapshot (n : Snapshot) (l : Link) : Link :=
  if l.queue.any (·.isSnapshot) then
    { l with queue := l.queue.map fun e => if e.isSnapshot then .snapshot n else e }
  else if l.queue.length < Config.noticeCapacity then { l with queue := l.queue ++ [.snapshot n] }
  else l

/-- R187: one more link error, saturating. -/
def Link.countError (l : Link) : Link := { l with errors := satAdd 65535 l.errors 1 }

/-- R191: the last byte of the frame under transmission has been sent; the reply of a request ends its
processing (R188). -/
def Link.frameDone (l : Link) : Link :=
  match l.sending with
  | some f => { l with sending := none, busy := if f.closes then false else l.busy }
  | none => l

/-- Write the line link's part. -/
def State.setLink (f : Link → Link) (s : State) : State := { s with link := f s.link }

end Sys2Proof.Machine
end

