-- ==== Sys2Proof/Machine/Tunnel.lean ====
section
/-! DEFINITION. The steam tunnel (Chapter 8): zone samples, dose and scorch, allocation rounds, the heat
ceiling and the stall. -/

namespace Sys2Proof.Machine

/-- Write zone `z`'s controller. -/
def State.setZone (z : Fin 4) (x : Zone) (s : State) : State := { s with zones := s.zones.set z x }

/-- Write the steam allocator's part. -/
def State.setSteam (f : Steam → Steam) (s : State) : State := { s with steam := f s.steam }

/-! ## Zones -/

/-- R139: a sample temperature clamped to −400..3000. -/
def clampTemp (t : Int) : Int := if t < -400 then -400 else if 3000 < t then 3000 else t

/-- R139: the effective setpoint SPeff. A stall over, it is SP at once, before the zone's next sample (R153, R156;
log 29). -/
def Zone.setpoint (z : Zone) (stalled : Bool) : Nat := if stalled then z.standby else z.sp

/-- R139: a zone's demand at a clamped temperature; the division truncates toward zero. -/
def Zone.demandAt (z : Zone) (stalled : Bool) (t : Int) : Nat :=
  clampInt 1000 (((z.kp : Int) * ((z.setpoint stalled : Int) - t)).tdiv 16)

/-- R140: the excess of a temperature over a class's Tb, when positive. -/
def excess (t : Int) (tb : Nat) : Nat := (t - tb).toNat

/-- R43: a dose field grows and stops at its limit. -/
def addDose (z : Fin 4) (e : Nat) (d : Four Nat) : Four Nat := d.set z (satAdd 4294967295 (d.get z) e)

/-- R140: a record's dose from a sample of zone `z`. -/
def State.accrue (z : Fin 4) (t : Int) (s : State) (p : Panel) : Panel :=
  let e := excess t (s.classFields p.cls).tb
  let p' := if s.leadIn z p then { p with lead := addDose z e p.lead } else p
  if s.tailIn z p then { p' with tailDose := addDose z e p'.tailDose } else p'

/-- R141: the sample scorches the record. -/
def State.scorches (z : Fin 4) (t : Int) (s : State) (p : Panel) : Bool :=
  s.probeIn z p && decide (((s.classFields p.cls).tmax : Int) < t)

/-- R141: SCORCHED is added to the records the sample scorches. -/
def State.scorch (z : Fin 4) (t : Int) (s : State) : State :=
  let hit := s.track.any (s.scorches z t)
  let s' := { s with track := s.track.map (fun p =>
    if s.scorches z t p then { p with reasons := { p.reasons with scorched := true } } else p) }
  if hit then s'.raise .scorch else s'

/-- R139: a zone sample. -/
def State.zoneSample (z : Fin 4) (t : Int) (s : State) : State :=
  let t := clampTemp t
  let x := s.zones.get z
  let s := s.setZone z { x with
    temp := some t, silenceTimer := true, cold := false, demand := x.demandAt s.steam.stalled t }
  State.scorch z t { s with track := s.track.map (s.accrue z t) }

/-- R142: a zone's silence timer expires and the zone becomes cold. -/
def State.zoneSilent (z : Fin 4) (s : State) : State :=
  let x := s.zones.get z
  if x.silenceTimer then
    let s := s.setZone z { x with demand := 0, cold := true, silenceTimer := false }
    let s := s.setSteam fun a => { a with grants := a.grants.setZone z 0 }
    let s := s.raise (.zoneSensor z)
    { s with track := s.track.map (fun p =>
      if s.probeIn z p then { p with reasons := { p.reasons with coldZone := true } } else p) }
  else s

/-! ## Rounds -/

/-- R146: the first grants of a round with supply `c`, consumers in priority order. -/
def firstGrants (c : Nat) (demand reserve : Five Nat) : Five Nat :=
  let g0 := min demand.sb (min reserve.sb c)
  let g1 := min demand.z1 (min reserve.z1 (c - g0))
  let g2 := min demand.z2 (min reserve.z2 (c - g0 - g1))
  let g3 := min demand.z3 (min reserve.z3 (c - g0 - g1 - g2))
  let g4 := min demand.z4 (min reserve.z4 (c - g0 - g1 - g2 - g3))
  ⟨g0, g1, g2, g3, g4⟩

/-- R147: one of `left` undistributed units goes to a consumer whose share is less than its unmet amount.
Answers the share and the units still left. -/
def extraUnit (left share unmet : Nat) : Nat × Nat :=
  if 0 < left ∧ share < unmet then (share + 1, left - 1) else (share, left)

/-- R147: the shares when the unmet amounts exceed the leftover. -/
def dividedShares (leftover : Nat) (unmet : Five Nat) : Five Nat :=
  let u := unmet.total
  let share : Five Nat := ⟨leftover * unmet.sb / u, leftover * unmet.z1 / u, leftover * unmet.z2 / u,
    leftover * unmet.z3 / u, leftover * unmet.z4 / u⟩
  let r0 := extraUnit (leftover - share.total) share.sb unmet.sb
  let r1 := extraUnit r0.2 share.z1 unmet.z1
  let r2 := extraUnit r1.2 share.z2 unmet.z2
  let r3 := extraUnit r2.2 share.z3 unmet.z3
  let r4 := extraUnit r3.2 share.z4 unmet.z4
  ⟨r0.1, r1.1, r2.1, r3.1, r4.1⟩

/-- R147: the shared pass. -/
def sharedPass (leftover : Nat) (unmet : Five Nat) : Five Nat :=
  if unmet.total ≤ leftover then unmet else dividedShares leftover unmet

/-- R146, R147: the grants of a round. -/
def roundGrants (c : Nat) (demand reserve : Five Nat) : Five Nat :=
  let first := firstGrants c demand reserve
  let unmet := Five.zipWith (· - ·) demand first
  Five.zipWith (· + ·) first (sharedPass (c - first.total) unmet)

/-- R149: a zone is starved when it receives less than nine tenths of what it wants. -/
def starvedBy (grant demand : Nat) : Bool := decide (10 * grant < 9 * demand)

/-- R145: the demands as they stand. -/
def State.roundDemands (s : State) : Five Nat :=
  ⟨s.rcc.sbDemand, s.zones.z1.demand, s.zones.z2.demand, s.zones.z3.demand, s.zones.z4.demand⟩

/-- R149: the counting at the end of a round. -/
def Steam.countStarved (a : Steam) : Steam :=
  let st : Four Bool := ⟨starvedBy a.grants.z1 a.demands.z1, starvedBy a.grants.z2 a.demands.z2,
    starvedBy a.grants.z3 a.demands.z3, starvedBy a.grants.z4 a.demands.z4⟩
  let bump (b : Bool) (n : Nat) : Nat := if b then n + 1 else 0
  { a with
    starved := ⟨bump st.z1 a.starved.z1, bump st.z2 a.starved.z2, bump st.z3 a.starved.z3,
      bump st.z4 a.starved.z4⟩
    satisfied := if st.any (·) then 0 else a.satisfied + 1 }

/-- R150: the ceiling one step lower, held at 40. -/
def lowerCeiling (c : Nat) : Nat := max 40 (c - 10)

/-- R150: the ceiling one step higher, held at 100. -/
def raiseCeiling (c : Nat) : Nat := min 100 (c + 10)

/-- R150: set the heat ceiling; CEILING_CHANGED is raised when it takes a new value. -/
def State.setCeiling (c : Nat) (s : State) : State :=
  let s' := s.setSteam fun a => { a with ceiling := c }
  if c = s.steam.ceiling then s' else s'.raise .ceilingChanged

/-- R150: the ceiling changes after the counting. -/
def State.actCeiling (s : State) : State :=
  let a := s.steam
  if a.starved.any (fun n => decide (3 ≤ n)) then
    let s := s.setSteam fun a => { a with starved := a.starved.map fun n => if 3 ≤ n then 0 else n }
    (s.setCeiling (lowerCeiling a.ceiling)).raise .zoneStarved
  else if 4 ≤ a.satisfied then
    (s.setSteam fun a => { a with satisfied := 0 }).setCeiling (raiseCeiling a.ceiling)
  else s

/-- R146 to R150, R155: an allocation round with supply `c`; in ESTOP every grant is 0 and nothing is
counted. The fire tests that follow (R148) are the roll change controller's. -/
def State.round (c : Nat) (s : State) : State :=
  let d := s.roundDemands
  if s.seq.line = .estop then s.setSteam fun a => { a with demands := d, grants := Five.fill 0 }
  else
    State.actCeiling (s.setSteam fun a =>
      Steam.countStarved { a with demands := d, grants := roundGrants c d a.reservations })

/-! ## Stall -/

/-- R152: the tunnel stalls. -/
def State.stallNow (s : State) : State :=
  let s := s.setSteam fun a => { a with stalled := true, stallTimer := none }
  let s := s.raise .stall
  { s with track := s.track.map (fun p => if s.probeInTunnel p then { p with stalled := true } else p) }

/-- R151, R153: a delivery ends a stall and starts the stall timer afresh, or stops it. -/
def State.stallAfterDelivery (s : State) : State :=
  let inTunnel := s.track.any (fun p => s.probeInTunnel p)
  s.setSteam fun a => { a with stalled := false, stallTimer := if inTunnel then some 0 else none }

/-- R151: the time measured has reached the stall limit. -/
def Steam.stallDue (a : Steam) : Bool :=
  match a.stallTimer with
  | some ms => decide (a.stallLimit * 1000 ≤ ms)
  | none => false

end Sys2Proof.Machine
end

