-- ==== Sys2Proof/Machine/Reports.lean ====
section
/-! DEFINITION. The items replies carry, encoded as R190 says; what R190 leaves open is in log 7. -/

namespace Sys2Proof.Machine

/-! ## Choice bytes -/

def LineState.byte : LineState → Nat
  | .idle => 0
  | .waiting => 1
  | .running => 2
  | .holding => 3
  | .held => 4
  | .draining => 5
  | .estop => 6

def StopPending.byte : StopPending → Nat
  | .none => 0
  | .now => 1
  | .endOfPanel => 2

def CancelPending.byte : CancelPending → Nat
  | .none => 0
  | .afterPanel => 1
  | .abandon => 2

def SeamPolicy.byte : SeamPolicy → Nat
  | .skip => 0
  | .mark => 1

def SegState.byte : SegState → Nat
  | .parked => 0
  | .engaging => 1
  | .ready => 2
  | .active => 3
  | .parking => 4
  | .faulted => 5

def ConfigStatus.byte : ConfigStatus → Nat
  | .none => 0
  | .pending => 1
  | .inProgress => 2
  | .done => 3
  | .rejFaulted => 4
  | .rejNotNow => 5
  | .rejLastSegment => 6

/-- R90, R190: the recorded fault cause. Table 5.4.1 lists the causes and not NONE, the value after power-on; the
model places NONE first (log 7). -/
def FaultCause.byte : FaultCause → Nat
  | .none => 0
  | .feedTimeout => 1
  | .strokeTimeout => 2
  | .withdrawTimeout => 3
  | .backoffLimit => 4
  | .homeTimeout => 5
  | .parkTimeout => 6
  | .driveFault => 7

def Spindle.byte : Spindle → Nat
  | .empty => 0
  | .standby _ => 1
  | .active _ => 2
  | .expiring _ => 3
  | .spent _ => 4

def SpliceMode.byte : SpliceMode → Nat
  | .flying => 0
  | .stopped => 1

def SpliceState.byte : SpliceState → Nat
  | .idle => 0
  | .armed => 1
  | .preparing => 2
  | .slotted => 3
  | .pressing => 4
  | .missed _ => 5

def MissCause.byte : MissCause → Nat
  | .noMatch => 0
  | .noConfirm => 1
  | .estop => 2

def ConfirmedBy.byte : ConfirmedBy → Nat
  | .detector => 0
  | .sealed => 1
  | .accept => 2
  | .break_ => 3

/-! ## Sets -/

/-- R54: the hold requester set, HOST first (Table 1.6.2). -/
def HoldSet.byte (h : HoldSet) : Nat := setByte [h.host, h.splice, h.rollOut, h.fault]

/-- R57a: the start inhibit set, in the order of Table 4.3.1. -/
def Inhibits.byte (b : Inhibits) : Nat :=
  setByte [b.noOrder, b.classMismatch, b.trackFull, b.outletFull, b.rejectFull, b.engaging, b.noSegment,
    b.rollShort]

/-! ## Lists -/

/-- R190: a list of varying length: a count byte and the largest number of entries, zeros beyond the
count. `size` is the size of one entry. -/
def listItem {α : Type} (cap size : Nat) (enc : α → List Byte) (xs : List α) : List Byte :=
  u8 xs.length ++ xs.flatMap enc ++ List.replicate ((cap - xs.length) * size) 0#8

/-- R190: a list with one entry for each segment of a mask, S0 first: six entries at most (log 7). -/
def segmentList (size : Nat) (enc : Fin 6 → List Byte) (mask : Nat) : List Byte := listItem 6 size enc (maskSegs mask)

/-- R190: a list that carries only the entries counted. -/
def shortList {α : Type} (enc : α → List Byte) (xs : List α) : List Byte :=
  u8 xs.length ++ xs.flatMap enc

/-- R190: an optional signed number of two bytes. -/
def optSigned (v : Option Int) : List Byte :=
  match v with
  | some x => u8 1 ++ s16 x
  | none => u8 0 ++ u16 0

/-! ## Items -/

/-- R7: the thirteen settings, 48 bytes. -/
def geometryItems (g : Geometry) : List Byte :=
  u32 g.seamPath ++ u32 g.detectPath ++ u16 g.verifyDist
    ++ g.zones.toList.flatMap (fun z => u32 z.start ++ u32 z.stop) ++ u32 g.outletDist ++ u16 g.panelGap

/-- R10, R13: the seven fields of a class entry, 19 bytes. -/
def classItems (c : FabricClass) : List Byte :=
  u16 c.ecls ++ u16 c.tref ++ u16 c.tb ++ u16 c.tmax ++ u32 c.doseMin ++ optNum 4 c.doseMax ++ u16 c.pitchTol

/-- R29: a step of a pattern, with its kind and fields as defined. -/
def patStepItems : PatStep → List Byte
  | .pleat count form sp dw dh locked =>
    u8 0 ++ u16 count ++ u8 form ++ u16 sp ++ u16 dw ++ u16 dh ++ yesNo locked
  | .flat length => u8 1 ++ u32 length

/-- R53: an order with all the fields of Table 4.1.1, 21 bytes. -/
def orderItems (o : Order) : List Byte :=
  u16 o.tag ++ u8 o.slot ++ u8 o.cls ++ u16 o.grade ++ u16 o.panels
    ++ listItem 3 1 (fun n : Outlet => u8 n.byte) o.prefs ++ u8 o.seamPolicy.byte ++ u16 o.foldLimit
    ++ yesNo o.verifyRequired ++ u16 o.started ++ u16 o.ended ++ u8 o.cancel.byte

/-- R80, R93: a setting set, 8 bytes. -/
def settingItems (g : SegSettings) : List Byte :=
  yesNo g.engage ++ s16 g.depthTrim ++ s16 g.feedTrim ++ u16 g.tensionLimit ++ yesNo g.verify

/-- R93: what SEG-READ answers for one segment, 25 bytes. -/
def segmentItems (s : State) (i : Fin 6) : List Byte :=
  let g := s.segs.get i
  settingItems g.staged ++ settingItems g.active ++ u8 g.state.byte ++ u8 g.status.byte ++ u8 g.cause.byte
    ++ u8 g.retryNow ++ u16 g.retryTotal ++ optNum 2 (s.fmu.get i).tension

/-- R114: one spindle record, 14 bytes; zeros where it is EMPTY. -/
def spindleItems (x : Spindle) : List Byte :=
  u8 x.byte ++ (match x.roll? with
    | some r => u32 r.id ++ u8 r.cls ++ u32 r.loaded ++ u32 r.remaining
    | none => List.replicate 13 0#8)

/-- R115: both spindle records. -/
def spindlesItems (s : State) : List Byte := spindleItems s.rcc.u1 ++ spindleItems s.rcc.u2

/-- R120: the nine splice settings, 19 bytes. -/
def spliceItems (x : SpliceSettings) : List Byte :=
  u8 x.mode.byte ++ u32 x.trigger ++ u32 x.clearance ++ u32 x.tailReserve ++ u8 x.ceiling
    ++ u8 (debounceByte x.debounce) ++ u8 (if x.rising then 0 else 1) ++ u8 (confirmByte x.confirm)
    ++ u16 x.sbNeed

/-- R132: the seam list, 3 entries of 25 bytes after its count. -/
def seamItems (xs : List Seam) : List Byte :=
  listItem Config.seamCapacity 25
    (fun x : Seam => u64 x.position ++ u32 x.oldId ++ u32 x.newId ++ u64 x.time ++ u8 x.by_.byte) xs

/-- R138: the items of a ZONE-SET reply. SPeff is shown as R139 defines it, also before the zone's next sample
(log 29). -/
def zoneItems (z : Fin 4) (s : State) : List Byte :=
  let x := s.zones.get z
  u16 x.sp ++ u16 x.standby ++ u8 x.kp ++ optSigned x.temp ++ u16 x.demand ++ yesNo x.cold
    ++ u16 (x.setpoint s.steam.stalled)

/-- Five numbers of two bytes, in priority order. -/
def fiveItems (v : Five Nat) : List Byte := v.toList.flatMap u16

/-- R144, Table 8.2.1: the items of a STEAM-SET reply. -/
def steamItems (s : State) : List Byte :=
  let a := s.steam
  fiveItems a.reservations ++ u8 a.stallLimit ++ optNum 2 a.reading ++ yesNo a.meterLost
    ++ fiveItems a.demands ++ fiveItems a.grants ++ u8 a.ceiling ++ a.starved.toList.flatMap u8
    ++ u8 a.satisfied ++ yesNo a.stalled ++ optNum 4 a.stallTimer

/-- R173, R190: the three counts of an outlet, each of `size` bytes: one byte holds a stacker's (0..200), REWIND's
need two (0..65535). -/
def countItems (size : Nat) (c : OutletCounts) : List Byte :=
  leBytes size c.capacity ++ leBytes size c.occupied ++ leBytes size c.reserved

/-- R175: the items of an OUTLET-SET query, outlet by outlet (log 7). -/
def outletItems (s : State) : List Byte :=
  countItems 1 s.outlets.stackA ++ countItems 1 s.outlets.stackB ++ countItems 2 s.outlets.rewind
    ++ yesNo s.outlets.binFull

/-- R168: the items of a VERIFY-SET query. -/
def verifyItems (s : State) : List Byte :=
  u16 s.verify.window ++ u8 (if s.verify.frozen then 1 else 0) ++ u8 s.verify.period.byte
    ++ u16 s.geometry.verifyDist

/-- R170: what READ-COUNTERS answers for one checker. -/
def checkerItems (k : Checker) : List Byte :=
  u32 k.matched ++ u32 k.outOfTol ++ u32 k.missing ++ u32 k.extra ++ yesNo k.locked ++ u8 k.run
    ++ u8 k.queue.length ++ (match k.queue with
      | e :: _ => u8 1 ++ u32 e.panel ++ u64 e.count
      | [] => List.replicate 13 0#8)

/-- R170: the items of a READ-COUNTERS reply. -/
def counterItems (s : State) : List Byte :=
  s.verify.checkers.toList.flatMap checkerItems ++ verifyItems s ++ u64 s.conv

/-- R130: the cause of MISSED, or none. -/
def SpliceState.cause? : SpliceState → Option MissCause
  | .missed c => some c
  | _ => none

/-- R197, Table 11.5.1: the items of the READ-STATUS reply. -/
def statusItems (s : State) : List Byte :=
  [0x4C#8, 0x5A#8] ++ u16 640 ++ u8 Config.revision
    ++ u8 s.seq.line.byte ++ u8 s.seq.stop.byte ++ u8 s.seq.hold.byte ++ u8 s.seq.inhibits.byte
    ++ u8 s.seq.baseRate ++ u8 s.effectiveRate ++ u8 s.steam.ceiling ++ u8 s.rcc.spliceCeiling
    ++ u64 s.web ++ u64 s.conv
    ++ spindlesItems s ++ yesNo s.rcc.standbyNeeded
    ++ u8 s.rcc.splice.byte ++ optNum 1 (s.rcc.splice.cause?.map MissCause.byte)
    ++ optNum 8 s.rcc.firePoint ++ seamItems s.rcc.seams
    ++ optNum 2 s.steam.reading ++ yesNo s.steam.meterLost ++ fiveItems s.steam.demands
    ++ fiveItems s.steam.grants ++ s.zones.toList.flatMap (fun z => yesNo z.cold) ++ yesNo s.steam.stalled
    ++ outletItems s
    ++ u16 s.link.errors ++ u8 s.link.queue.length

end Sys2Proof.Machine
end

