-- ==== Sys2Proof/Machine/Request.lean ====
section
/-! DEFINITION. How a complete frame is taken as a request (R188, R189), whatever block owns it. -/

namespace Sys2Proof.Machine

/-- A request's own rule: what it does, and its answer. -/
abbrev Handler := State → State × Answer

/-- R188: the KIND of a reply: the request's plus 80H, in one byte (log 24). The UNKNOWN reply to a KIND outside
01H..3FH carries FFH. -/
def replyKind (code : ResultCode) (kind : Byte) : Byte :=
  if code = .unknown ∧ ¬ (1 ≤ kind.toNat ∧ kind.toNat ≤ 0x3F) then 0xFF#8 else kind + 0x80#8

/-- A reply as an entry of the transmit queue; `closes` marks the reply that ends its processing. -/
def replyEntry (kind tag : Byte) (a : Answer) (closes : Bool) : TxEntry :=
  .reply (replyKind a.code kind) tag a.body closes

/-- R188, R189: BUSY, UNKNOWN and FORMAT carry no items. -/
def Answer.bare (c : ResultCode) : Answer := ⟨c, []⟩

/-- A request that is answered without being handed to a block. -/
def refuseWith (c : ResultCode) : Handler := fun s => (s, Answer.bare c)

/-- R188 test 3: TAG 0 is answered FORMAT. -/
def tagTested (tag : Byte) (h : Handler) : Handler := if tag = 0#8 then refuseWith .format else h

/-- R188: the request is processed and its reply enters the queue, or waits for it. -/
def State.process (kind tag : Byte) (h : Handler) (s : State) : State :=
  let r := h (s.setLink fun l => { l with busy := true })
  r.1.setLink (Link.pushReply (replyEntry kind tag r.2 true))

/-- R188: a complete frame is taken: overrun, BUSY, TAG 0, and what `h` makes of the rest. The BUSY reply carries the
request's TAG, be it 0 (log 32). -/
def State.takeRequest (kind tag : Byte) (h : Handler) (s : State) : State :=
  if Config.queueCapacity ≤ s.link.queue.length then s.setLink Link.countError
  else if s.link.busy then
    s.setLink (Link.pushReply (replyEntry kind tag (Answer.bare .busy) false))
  else s.process kind tag (tagTested tag h)

/-- The end of every command: the transmitter, when idle, begins the oldest entry (R191, log 4). -/
def State.finish (s : State) : Host.Outcome State Fault Refusal := .next (s.setLink Link.service)

/-- A refused request changes nothing: its answer is a bare code. -/
def refused (c : ResultCode) (s : State) : State × Answer := (s, Answer.bare c)

/-- An answer with items computed from the state after the request. -/
def answered (c : ResultCode) (items : State → List Byte) (s : State) : State × Answer := (s, ⟨c, items s⟩)

end Sys2Proof.Machine
end

