-- ==== Sys2Proof/Machine/Feed.lean ====
section
/-! DEFINITION. Feed metering (Chapter 6): grading, taper, depth, stretch, feed and carry, drive steps,
and the plan figures of a panel (R59, R113). -/

namespace Sys2Proof.Machine

/-- R99: the graded spacing. -/
def gradedSpacing (sp grade : Nat) : Nat := clampNat 200 8000 ((sp * grade + 500) / 1000)

/-- R100: the taper depth of segment index `i`. -/
def taperDepth (dw dh i : Nat) : Nat :=
  if dw ≤ dh then dw + ((dh - dw) * i + 2) / 5 else dw - ((dw - dh) * i + 2) / 5

/-- R101: the blade depth. -/
def bladeDepth (taper : Nat) (trim : Int) : Nat := clampInt 4500 ((taper : Int) + trim)

/-- R102: the depth clamp acts. -/
def depthClampActs (taper : Nat) (trim : Int) : Bool :=
  decide ((taper : Int) + trim < 0) || decide (4500 < (taper : Int) + trim)

/-- R104: the stretch at tension `tm`. -/
def stretch (c : FabricClass) (tm : Nat) (trim : Int) : Nat :=
  clampInt 20000 (((c.ecls * tm / c.tref : Nat) : Int) + trim)

/-- R59: the stretch at the reference tension. -/
def referenceStretch (c : FabricClass) (trim : Int) : Nat := clampInt 20000 ((c.ecls : Int) + trim)

/-- R105: P, the exact stretched length in carry units plus the carry. -/
def feedP (length e carry : Nat) : Nat := length * (Config.carryUnit + e) + carry

/-- R105: the commanded feed. -/
def feedOf (length e carry : Nat) : Nat := feedP length e carry / Config.carryUnit

/-- R105: the carry after the feed. -/
def carryOf (length e carry : Nat) : Nat := feedP length e carry % Config.carryUnit

/-- R108: the drive steps of a feed, longer ones first. -/
def driveSteps (f : Nat) : List Nat :=
  let k := (f + (Config.driveStepMax - 1)) / Config.driveStepMax
  List.replicate (f % k) (f / k + 1) ++ List.replicate (k - f % k) (f / k)

/-- R98: the tension a segment's stretch uses: its held sample, or the class's Tref. -/
def FeedSeg.tensionFor (f : FeedSeg) (c : FabricClass) : Nat := f.tension.getD c.tref

/-! ## Plan figures -/

/-- R59: a relaxed length and its stretch as one step's need, rounded up. -/
def needOf (length e : Nat) : Nat := (length * (100000 + e) + 99999) / 100000

/-- R59: of the engaged segments' (relaxed length, stretch) pairs, the one with the largest length, and
among ties the greatest stretch. -/
def hungriest : List (Nat × Nat) → Option (Nat × Nat)
  | [] => none
  | x :: rest =>
    match hungriest rest with
    | none => some x
    | some y => if x.1 < y.1 || (x.1 = y.1 && x.2 < y.2) then some y else some x

/-- R59: the need of one step from the engaged segments' relaxed lengths and stretches. -/
def stepNeed (xs : List (Nat × Nat)) : Nat :=
  match hungriest xs with
  | some (l, e) => needOf l e
  | none => 0

/-- The segments engaged. -/
def State.engagedSegs (s : State) : List (Fin 6) := segIndices.filter (fun i => (s.segs.get i).engaged)

/-- R113: the plan figures of one step of the pattern. -/
def State.planRun (grade : Nat) (c : FabricClass) (s : State) : PatStep → PlanRun
  | .flat length =>
    .flat length (stepNeed (s.engagedSegs.map fun i =>
      (length, referenceStretch c (s.segs.get i).active.feedTrim)))
  | .pleat count form sp dw dh locked =>
    let f := (formOf? form).getD .knifeL
    let spacing := gradedSpacing sp grade
    let taper := Six.tabulate fun i => taperDepth dw dh i.val
    let planned := Six.tabulate fun i =>
      let g := s.segs.get i
      if g.engaged then some (bladeDepth (taper.get i) g.active.depthTrim) else none
    let need := stepNeed (s.engagedSegs.map fun i =>
      let g := s.segs.get i
      (spacing + 2 * bladeDepth (taper.get i) g.active.depthTrim,
        referenceStretch c g.active.feedTrim))
    .pleat (count * f.strokesPerPleat) f locked spacing taper planned need

/-- R59: a run's need. -/
def PlanRun.totalNeed : PlanRun → Nat
  | .pleat strokes _ _ _ _ _ need => strokes * need
  | .flat _ need => need

/-- R102: the depth clamp acts for an engaged segment in the plan. -/
def State.planClamps (runs : List PlanRun) (s : State) : Bool :=
  runs.any fun r =>
    match r with
    | .pleat _ _ _ _ taper _ _ =>
      s.engagedSegs.any fun i => depthClampActs (taper.get i) (s.segs.get i).active.depthTrim
    | .flat _ _ => false

/-! ## A step's feeds -/

/-- The figures of a step for segment `i`: relaxed length and blade depth (R103). -/
structure StepFigures where
  length : Nat
  depth : Nat
deriving DecidableEq, Repr

/-- R105, R106, R108, R111: what the feed metering unit keeps for an engaged segment once a step is
computed: its first drive step is commanded, the others are left. A gap step starts its own carry. -/
def FeedSeg.startStep (f : FeedSeg) (isGap : Bool) (c : FabricClass) (trim : Int) (x : StepFigures) :
    FeedSeg × Drive :=
  let e := stretch c (f.tensionFor c) trim
  let carry := if isGap then Config.carryStart else f.panelCarry
  let after := carryOf x.length e carry
  let steps := driveSteps (feedOf x.length e carry)
  let f := { f with inStep := true, depth := x.depth, left := steps.drop 1,
                    commanded := min 1 steps.length, completed := 0 }
  let f := if isGap then { f with gapCarry := after } else { f with panelCarry := after }
  (f, match steps with
    | [] => .none
    | len :: _ => .feed len)

/-- R111: what is kept for a segment that is not engaged at the step start. -/
def FeedSeg.outOfStep (f : FeedSeg) : FeedSeg :=
  { f with inStep := false, left := [], commanded := 0, completed := 0 }

/-- R112: every engaged segment's feed is computed, split and handed to its control. -/
def State.startFeeds (isGap : Bool) (c : FabricClass) (figures : Fin 6 → StepFigures) (s : State) : State :=
  segIndices.foldl (fun s i =>
    let g := s.segs.get i
    if g.engaged then
      let r := (s.fmu.get i).startStep isGap c g.active.feedTrim (figures i)
      (s.setFmu i r.1).setDrive i r.2
    else s.setFmu i (s.fmu.get i).outOfStep) s

/-- R111: the web advance, the largest completed feed of the segments engaged at the step start. -/
def State.webAdvance (s : State) : Nat :=
  s.fmu.toList.foldl (fun w f => if f.inStep then max w f.completed else w) 0

/-- R58: every segment's panel carry is set to 50000 at a panel start. -/
def State.startCarries (s : State) : State :=
  { s with fmu := s.fmu.map fun f => { f with panelCarry := Config.carryStart } }

end Sys2Proof.Machine
end

