-- ==== Sys2Proof/Machine/Outlet.lean ====
section
/-! DEFINITION. The outlet controller (Chapter 10): credits, the disposition at exit, the exit record
and its report; and the web track's exit test (R44, R45). -/

namespace Sys2Proof.Machine

/-- R174: the first outlet of a preference list with room. -/
def Outlets.firstRoom (o : Outlets) (prefs : List Outlet) : Option Outlet :=
  prefs.find? (fun n => (o.counts n).hasRoom)

/-- R174: a credit is reserved at an outlet; its full flag is raised when occupied plus reserved reaches
the capacity. -/
def State.reserve (n : Outlet) (s : State) : State :=
  let c := s.outlets.counts n
  let c' := { c with reserved := c.reserved + 1 }
  let s := { s with outlets := s.outlets.setCounts n c' }
  if c'.occupied + c'.reserved = c'.capacity then s.raise? n.fullFlag else s

/-- R178: a probe's dose total, formed in full. -/
def doseTotal (d : Four Nat) : Nat := d.z1 + d.z2 + d.z3 + d.z4

/-- R178, Table 10.2.1: some reason other than UNVERIFIED_SEEN. -/
def Reasons.rejects (r : Reasons) : Bool :=
  r.seamed || r.scorched || r.interrupted || r.abandoned || r.segmentLost || r.coldZone

/-- R178, Table 10.2.1: a total is above the class's dose maximum, where it has one. -/
def overMax (limit : Option Nat) (total : Nat) : Bool :=
  match limit with
  | some m => decide (m < total)
  | none => false

/-- R178, Table 10.2.1: the reject causes of a record handed over. -/
def rejectCauses (c : FabricClass) (p : Panel) : Causes where
  reason := p.reasons.rejects
  underdosed := decide (doseTotal p.lead < c.doseMin) || decide (doseTotal p.tailDose < c.doseMin)
  overdosed := overMax c.doseMax (doseTotal p.lead) || overMax c.doseMax (doseTotal p.tailDose)
  foldErrors := decide (p.foldLimit < p.outOfTol + p.missing + p.extra)
  unverified := p.reasons.unverifiedSeen && p.verifyRequired

/-- R179: the credit at the reserved outlet is settled. -/
def OutletCounts.settle (reject : Bool) (c : OutletCounts) : OutletCounts :=
  if reject then { c with reserved := c.reserved - 1 }
  else { c with reserved := c.reserved - 1, occupied := c.occupied + 1 }

/-- R180: the exit record of a record handed over. -/
def State.exitRecord (p : Panel) (s : State) : ExitRecord :=
  let causes := rejectCauses (s.classFields p.cls) p
  { number := s.outlets.nextExit
    panel := p
    leadTotal := doseTotal p.lead
    tailTotal := doseTotal p.tailDose
    causes := causes
    final := if causes.reject then .reject else .good p.outlet
    binFull := causes.reject && s.outlets.binFull
    conv := s.conv }

/-- R181: the exit list keeps the sixteen most recent exits. -/
def appendExit (x : ExitRecord) (xs : List ExitRecord) : List ExitRecord :=
  if xs.length < Config.exitCapacity then xs ++ [x] else xs.drop 1 ++ [x]

/-- R182: the PANEL-OUT notice is queued, or skipped with EXIT_REPORT_SKIPPED. -/
def State.reportExit (x : ExitRecord) (s : State) : State :=
  if s.link.queue.length < Config.noticeCapacity then
    s.setLink fun l => { l with queue := l.queue ++ [.panelOut x] }
  else
    State.raise .exitReportSkipped
      { s with outlets := { s.outlets with skipped := satAdd 65535 s.outlets.skipped 1 } }

/-- R178 to R182: a record handed over at exit. -/
def State.handOver (p : Panel) (s : State) : State :=
  let x := s.exitRecord p
  let o := s.outlets
  let o := o.setCounts p.outlet ((o.counts p.outlet).settle x.causes.reject)
  let o := { o with port := some x.final, exits := appendExit x o.exits, nextExit := o.nextExit + 1 }
  State.reportExit x { s with outlets := o }

/-- R44: the record is TRAVELLING and its tail distance has reached OUTLET_DIST. -/
def State.atOutlet (p : Panel) (s : State) : Bool :=
  match p.state, p.tail with
  | .travelling, some t => decide (s.geometry.outletDist ≤ s.distance t)
  | _, _ => false

/-- R44, R45: the oldest records that have reached the outlet leave one at a time. -/
def State.exitFrom : List Panel → State → State
  | [], s => s
  | p :: rest, s =>
    if s.atOutlet p then State.exitFrom rest (State.handOver p { s with track := rest }) else s

/-- R44: the exit test after a delivery. -/
def State.exitTest (s : State) : State := s.exitFrom s.track

end Sys2Proof.Machine
end

