-- ==== Sys2Proof/Machine/Segments.lean ====
section
/-! DEFINITION. The segment controls (Chapter 5): copies of the staged set, movement, and a segment's
part of a fault. What a fault does to the line is in Sequencer.lean. -/

namespace Sys2Proof.Machine

/-- R83: the three now-capable fields are taken from the staged set. -/
def SegSettings.takeNow (active staged : SegSettings) : SegSettings :=
  { active with depthTrim := staged.depthTrim, feedTrim := staged.feedTrim,
                tensionLimit := staged.tensionLimit }

/-- R83: a NOW copy of segment `i` is carried out. -/
def State.nowCopy (i : Fin 6) (s : State) : State :=
  let g := s.segs.get i
  (s.setSeg i { g with active := g.active.takeNow g.staged }).setStatus i .done

/-- The segment waits for a copy of the given mode. -/
def Segment.waitsFor (g : Segment) (m : ApplyMode) : Bool := decide (g.waiting = some m)

/-- R64, R83: the NOW copies waiting are carried out at a step start. -/
def State.nowCopies (s : State) : State :=
  segIndices.foldl (fun s i => if (s.segs.get i).waitsFor .now then s.nowCopy i else s) s

/-- R85: a copy would turn ENGAGE from on to off. -/
def Segment.turnsOff (g : Segment) : Bool := g.active.engage && !g.staged.engage

/-- R85: with every copy of `is` carried out, some segment has active ENGAGE on. -/
def State.engageAfter (is : List (Fin 6)) (s : State) : Bool :=
  segIndices.any fun i =>
    let g := s.segs.get i
    if i ∈ is then g.staged.engage else g.active.engage

/-- R85: one boundary copy is carried out: it replaces the active set and, where it changes ENGAGE,
moves the segment (R87, R88). -/
def State.boundaryCopy (i : Fin 6) (s : State) : State :=
  let g := s.segs.get i
  let s' := s.setSeg i { g with active := g.staged }
  if g.active.engage = g.staged.engage then s'.setStatus i .done
  else if g.staged.engage then ((s'.setSegState i .engaging).setDrive i .home).setStatus i .inProgress
  else ((s'.setSegState i .parking).setDrive i .park).setStatus i .inProgress

/-- R85: one of the boundary copies carried out together; `refuse` says that the joint test failed. -/
def State.jointCopy (refuse : Bool) (s : State) (i : Fin 6) : State :=
  if refuse && (s.segs.get i).turnsOff then s.setStatus i .rejLastSegment else s.boundaryCopy i

/-- R85: the boundary copies of the segments `is` are carried out together. In IDLE, the panel start of a LINE-RUN
among it (log 31), no joint test is made. -/
def State.boundaryCopies (is : List (Fin 6)) (s : State) : State :=
  let refuse := decide (s.seq.line ≠ .idle) && !s.engageAfter is
  is.foldl (State.jointCopy refuse) s

/-- R84: the segments whose BOUNDARY copy is pending. -/
def State.boundaryWaiting (s : State) : List (Fin 6) :=
  segIndices.filter (fun i => (s.segs.get i).waitsFor .boundary)

/-- R90: a segment's own part of entering FAULTED. -/
def State.faultSeg (i : Fin 6) (c : FaultCause) (s : State) : State :=
  let g := s.segs.get i
  let s := s.setSeg i { g with drive := .none, cause := c, active := { g.active with engage := false } }
  let s := if g.status.busy then s.setStatus i .rejFaulted else s
  (s.setSegState i .faulted).raise (.segFault i)

/-- R89: every ACTIVE segment enters READY. -/
def State.standReady (s : State) : State :=
  segIndices.foldl (fun s i => if (s.segs.get i).state = .active then s.setSegState i .ready else s) s

/-- R89: every READY segment enters ACTIVE at the start of a stroke cycle. -/
def State.goActive (s : State) : State :=
  segIndices.foldl (fun s i => if (s.segs.get i).state = .ready then s.setSegState i .active else s) s

/-- R71, R92: the current-stroke counts of every retry record and of the sequencer are set to 0. -/
def State.clearRetries (s : State) : State :=
  { s with segs := s.segs.map (fun g => { g with retryNow := 0 }), seq := { s.seq with backoffs := 0 } }

/-- R94: a segment at an emergency stop. -/
def State.estopSeg (s : State) (i : Fin 6) : State :=
  let g := s.segs.get i
  let s := s.setSeg i { g with
    drive := .none, active := { g.active with engage := false }, retryNow := 0 }
  let s := if g.status.busy then s.setStatus i .none else s
  s.setSegState i .parked

/-- R95: a segment at LINE-RESET. The status becomes NONE without APPLY_DONE. -/
def State.resetSeg (s : State) (i : Fin 6) : State :=
  let g := s.segs.get i
  let s := s.setSeg i { g with status := .none, waiting := none, retryNow := 0 }
  match g.state with
  | .engaging | .ready | .active =>
    let g := s.segs.get i
    (s.setSeg i { g with drive := .park, active := { g.active with engage := false } }).setSegState i
      .parking
  | .parked | .parking | .faulted => s

end Sys2Proof.Machine
end

