-- ==== Sys2Proof/Machine/Splice.lean ====
section
/-! DEFINITION. The roll change controller's own part (Chapter 7): debit, seams, firing, confirm, the
standby warning and the trigger test. What a hold or a roll-out does to the line is in Sequencer.lean. -/

namespace Sys2Proof.Machine

/-- R117 step 1: the ACTIVE roll is debited, clamped at 0. -/
def Spindle.debit (w : Nat) : Spindle → Spindle
  | .active r => .active { r with remaining := r.remaining - w }
  | x => x

/-- R114, R136: an EXPIRING record becomes SPENT. -/
def Spindle.spend : Spindle → Spindle
  | .expiring r => .spent r
  | x => x

/-- R119: the standby-needed condition. -/
def RollChange.needsStandby (r : RollChange) : Bool :=
  match r.activeRoll with
  | some a => decide (a.remaining ≤ r.settings.trigger) && r.standbyRoll.isNone
  | none => false

/-- R119: the standby-needed condition is evaluated; STANDBY_NEEDED is raised when it becomes true. -/
def State.evalStandby (s : State) : State :=
  let now := s.rcc.needsStandby
  let s' := s.setRcc fun r => { r with standbyNeeded := now }
  if now && !s.rcc.standbyNeeded then s'.raise .standbyNeeded else s'

/-- R121: the trigger test passes. -/
def RollChange.triggered (r : RollChange) : Bool :=
  match r.activeRoll with
  | some a => decide (a.remaining ≤ r.settings.trigger)
  | none => false

/-- R121, R122: the trigger test of an ARMED splice; a passing test enters PREPARING, commands the
standby spindle and starts the match timer. -/
def State.triggerTest (s : State) : State :=
  if s.rcc.splice = .armed && decide (s.seq.line ≠ .estop) && s.rcc.triggered then
    s.setRcc fun r => { r with
      splice := .preparing, matchTimer := true, spindleCommand := some r.settings.mode }
  else s

/-- R129, R131: where a splice goes once confirmed or resolved. -/
def RollChange.rest (r : RollChange) : SpliceState :=
  if r.standbyRoll.isSome then .armed else .idle

/-- R118, R134: a splice in PREPARING or SLOTTED is taken back to ARMED. -/
def RollChange.takeBack (r : RollChange) : RollChange :=
  { r with splice := .armed, matchTimer := false, spindleCommand := none, slotRequest := false,
           firePoint := none, pressDue := none }

/-! ## Seams -/

/-- R132: a new record takes its place in order of position; of equal positions the older stands first. -/
def insertSeam (x : Seam) : List Seam → List Seam
  | [] => [x]
  | y :: ys => if y.position ≤ x.position then y :: insertSeam x ys else x :: y :: ys

/-- R132, R133: the FORMING record, if there is one, gets SEAMED, and SEAM_IN_PANEL is raised. -/
def State.seamInPanel (s : State) : State :=
  match s.forming? with
  | some _ =>
    (s.mapForming fun p => { p with reasons := { p.reasons with seamed := true } }).raise .seamInPanel
  | none => s

/-- R132: the seam list is tested for crossing. -/
def State.crossSeams (s : State) : State :=
  let w := s.web
  let hit := s.rcc.seams.any (fun x => decide (x.position ≤ w))
  let s' := s.setRcc fun r => { r with seams := r.seams.filter (fun x => decide (w < x.position)) }
  if hit then s'.seamInPanel else s'

/-- R133: the unconfirmed seam is tested for crossing. -/
def State.crossUnconfirmed (s : State) : State :=
  match s.rcc.unconfirmed with
  | some u =>
    if !u.crossed && decide (u.position ≤ s.web) then
      (s.setRcc fun r => { r with unconfirmed := some { u with crossed := true } }).seamInPanel
    else s
  | none => s

/-! ## Firing -/

/-- R125: what a fire does to a spindle record. -/
def Spindle.fired : Spindle → Spindle
  | .standby r => .active r
  | .active r => .expiring r
  | x => x

/-- R125: the roll ids of a fire. -/
def RollChange.fireIds (r : RollChange) : Option (Nat × Nat) :=
  match r.activeRoll, r.standbyRoll with
  | some a, some b => some (a.id, b.id)
  | _, _ => none

/-- R125, R126: the splice fires, and the press is commanded. In FLYING mode the detect point is set; in STOPPED mode
the confirm timer is started. A slot request still standing and the standby spindle's command end with it (log 28). -/
def State.fire (s : State) : State :=
  match s.rcc.fireIds with
  | some (old, new) =>
    let s := s.setRcc fun r =>
      { r.mapSpindles Spindle.fired with
        tailTimer := true
        firePoint := none
        slotRequest := false
        pressDue := none
        spindleCommand := none
        pressCommand := match r.settings.mode with
          | .flying => some .pressAndKnife
          | .stopped => some .press
        unconfirmed := some ⟨s.web + s.geometry.seamPath, old, new, false⟩
        splice := .pressing
        detectPoint := match r.settings.mode with
          | .flying => some (s.web + s.geometry.detectPath)
          | .stopped => none
        confirmTimer := match r.settings.mode with
          | .flying => none
          | .stopped => some r.settings.confirm }
    s.evalStandby
  | none => s

/-- R124: SB's grant in the last allocation round is at or above SB_NEED. -/
def State.grantOk (s : State) : Bool := decide (s.rcc.settings.sbNeed ≤ s.steam.grants.sb)

/-- R124: the tail conditions, which need no grant. -/
def State.tailShort (s : State) : Bool :=
  match s.rcc.activeRoll with
  | none => false
  | some a =>
    match s.rcc.firePoint with
    | some f => decide ((a.remaining : Int) - ((f : Int) - s.web) < s.rcc.settings.tailReserve)
    | none => decide (a.remaining < s.rcc.settings.tailReserve)

/-- R124: the seam policy of the FORMING panel's order, or of the head order, is MARK. The FORMING
panel's order is the head order (R51). -/
def State.markPolicy (s : State) : Bool :=
  match s.orders with
  | o :: _ => decide (o.seamPolicy = .mark)
  | [] => false

/-- R124: the conditions that need the grant. -/
def State.grantCondition (s : State) : Bool :=
  (match s.rcc.firePoint with
    | some f => decide (f ≤ s.web)
    | none => false) || s.markPolicy

/-- R124: a fire condition holds, the seam list has room and the grant test passes. -/
def State.fireReady (s : State) : Bool :=
  decide (s.rcc.seams.length < Config.seamCapacity) &&
    (s.tailShort || (s.grantCondition && s.grantOk))

/-- R126: a STOPPED-mode splice with its press due fires once the line is HELD or IDLE and the grant test
passes. A tail condition passes without a grant, the one that made the press due and one that comes to hold only
later; the feed end of a cut step tests it in HELD too (log 17). -/
def State.pressTest (s : State) : State :=
  match s.rcc.pressDue with
  | some noGrant =>
    if s.rcc.splice = .slotted && (decide (s.seq.line = .held) || decide (s.seq.line = .idle))
        && (noGrant || s.tailShort || s.grantOk) then s.fire
    else s
  | none => s

/-! ## Confirm -/

/-- R129: the unconfirmed seam becomes a seam record, unless it has already crossed, and is cleared. -/
def State.recordSeam (how : ConfirmedBy) (s : State) : State :=
  match s.rcc.unconfirmed with
  | some u =>
    let x : Seam := ⟨u.position, u.oldId, u.newId, s.clock, how⟩
    s.setRcc fun r => { r with
      seams := if u.crossed then r.seams else insertSeam x r.seams, unconfirmed := none }
  | none => s

/-- R129: a splice is confirmed: the seam is recorded, the detect point and confirm timer are cleared,
SPLICE_DONE is raised, and the splice enters ARMED or IDLE. -/
def State.confirmSplice (how : ConfirmedBy) (s : State) : State :=
  let s := s.recordSeam how
  (s.setRcc fun r => { r with
    detectPoint := none, confirmTimer := none, splice := r.rest }).raise .spliceDone

/-- R128: at a feed end, the crossing of the detect point by a FLYING splice in PRESSING. -/
def State.detectTest (s : State) : State :=
  if s.rcc.splice = .pressing && decide (s.rcc.settings.mode = .flying) && s.rcc.confirmTimer.isNone then
    match s.rcc.detectPoint with
    | some d =>
      if d ≤ s.web then
        if s.rcc.edgeSeen then s.confirmSplice .detector
        else s.setRcc fun r => { r with confirmTimer := some r.settings.confirm }
      else s
    | none => s
  else s

/-! ## Slots -/

/-- R123: an offer of planned end `b` is accepted. -/
def State.slotAccepts (b : Nat) (s : State) : Bool :=
  decide (s.rcc.splice = .slotted) && s.rcc.slotRequest &&
    decide (s.web + s.geometry.seamPath ≤ b + s.rcc.settings.clearance)

/-- R123: the slot becomes firm at a planned end. -/
def State.firmSlot (b : Nat) (s : State) : State :=
  s.setRcc fun r => { r with
    firePoint := some (b + r.settings.clearance - s.geometry.seamPath), slotRequest := false }

/-- R61, R123: the FORMING panel's planned end is offered at once; accepted, it replaces that panel's
gap by the seam gap. -/
def State.offerForming (s : State) : State :=
  match s.forming?, s.seq.plan with
  | some _, some p =>
    if s.slotAccepts p.plannedEnd then
      (s.firmSlot p.plannedEnd).setSeq fun q =>
        { q with plan := some { p with gap := 2 * s.rcc.settings.clearance, slotFirm := true } }
    else s
  | _, _ => s

end Sys2Proof.Machine
end

