-- ==== Sys2Proof/Machine/Verify.lean ====
section
/-! DEFINITION. The pleat verifier (Chapter 9): outcomes and what they write, the missing sweep, the
push of expected folds, and fold events. -/

namespace Sys2Proof.Machine

/-- What becomes of an expected fold or a fold event (R162). -/
inductive FoldOutcome where
  | matched (inTolerance : Bool)
  | missing
  | extra
deriving DecidableEq, Repr

/-- R165: MATCHED is a hit; MISSING and EXTRA are faults. -/
def FoldOutcome.hit : FoldOutcome → Bool
  | .matched _ => true
  | .missing | .extra => false

/-- R164, R166: what an outcome writes into its panel's record; `unlocked` is the lock state before the
outcome. -/
def FoldOutcome.write (o : FoldOutcome) (unlocked : Bool) (p : Panel) : Panel :=
  let p := { p with reasons :=
    { p.reasons with unverifiedSeen := p.reasons.unverifiedSeen || unlocked } }
  match o with
  | .matched true => p
  | .matched false => { p with outOfTol := satAdd 65535 p.outOfTol 1 }
  | .missing => { p with missing := satAdd 65535 p.missing 1 }
  | .extra => { p with extra := satAdd 65535 p.extra 1 }

/-- R167: what an outcome adds to a checker's running counters. -/
def FoldOutcome.count (o : FoldOutcome) (k : Checker) : Checker :=
  let top := 4294967295
  match o with
  | .matched true => { k with matched := satAdd top k.matched 1 }
  | .matched false =>
    { k with matched := satAdd top k.matched 1, outOfTol := satAdd top k.outOfTol 1 }
  | .missing => { k with missing := satAdd top k.missing 1 }
  | .extra => { k with extra := satAdd top k.extra 1 }

/-- R165: lock state and run count after an outcome. -/
def FoldOutcome.lock (o : FoldOutcome) (k : Checker) : Checker :=
  match k.locked, o.hit with
  | false, true => if k.run + 1 = 8 then { k with locked := true, run := 0 } else { k with run := k.run + 1 }
  | false, false => { k with run := 0 }
  | true, true => { k with run := 0 }
  | true, false => if k.run + 1 = 4 then { k with locked := false, run := 0 } else { k with run := k.run + 1 }

/-- Write segment `i`'s checker. -/
def State.setChecker (i : Fin 6) (k : Checker) (s : State) : State :=
  { s with verify := { s.verify with checkers := s.verify.checkers.set i k } }

/-- An outcome is recorded in the panel record, the running counters and the lock state, in turn (9.4). -/
def State.recordOutcome (i : Fin 6) (o : FoldOutcome) (panel : Option Nat) (s : State) : State :=
  let k := s.verify.checkers.get i
  let s := match panel with
    | some n => s.writePanel n (o.write (!k.locked))
    | none => s
  let k1 := if s.verify.frozen then k else o.count k
  let k2 := o.lock k1
  let s := s.setChecker i k2
  if k2.locked = k.locked then s else s.raise (.lock i)

/-- R160: the entries of checker `i`'s queue are worked from the front; every overdue one is popped as
MISSING, which makes the last match absent (R163). -/
def State.sweepFrom (i : Fin 6) (c : Nat) : List ExpectedFold → State → State
  | [], s => s
  | e :: rest, s =>
    if e.count + s.verify.window < c then
      let s := s.setChecker i { s.verify.checkers.get i with queue := rest, last := none }
      State.sweepFrom i c rest (s.recordOutcome i .missing (some e.panel))
    else s

/-- R160: the missing sweep of checker `i` at a conveyor count. -/
def State.sweep (i : Fin 6) (c : Nat) (s : State) : State :=
  s.sweepFrom i c (s.verify.checkers.get i).queue

/-- R160: every checker makes its sweep. -/
def State.sweepAll (c : Nat) (s : State) : State := segIndices.foldl (fun s i => s.sweep i c) s

/-- R159: segment `i`, when engaged with VERIFY on, has an expected fold pushed, and joins the panel's
verified segments (R40). -/
def State.pushFold (e : ExpectedFold) (s : State) (i : Fin 6) : State :=
  let g := s.segs.get i
  if g.engaged && g.active.verify then
    let k := s.verify.checkers.get i
    (s.setChecker i { k with queue := k.queue ++ [e] }).writePanel e.panel
      fun p => { p with verified := p.verified.set i true }
  else s

/-- R159: the pushes of a stroke's delivery of graded spacing `spacing`, made before the stroke is
counted: its panel's first stroke is the one delivered with none counted. -/
def State.pushFolds (spacing : Nat) (s : State) : State :=
  match s.forming? with
  | none => s
  | some p =>
    let e : ExpectedFold :=
      { panel := p.number, spacing := spacing, count := s.conv + s.geometry.verifyDist,
        first := decide (p.strokes = 0), tol := (s.classFields p.cls).pitchTol }
    segIndices.foldl (State.pushFold e) s

/-- The distance between two counts. -/
def absDiff (a b : Nat) : Nat := (a - b) + (b - a)

/-- R163: a matched fold is within tolerance. -/
def pitchWithin (k : Checker) (e : ExpectedFold) (x : Nat) : Bool :=
  if e.first then true
  else match k.last with
    | some (n, stamp) =>
      if n = e.panel then decide (e.spacing ≤ (x - stamp) + e.tol) && decide (x - stamp ≤ e.spacing + e.tol)
      else true
    | none => true

/-- R162: the match of a fold event stamped `x`, after the sweep. -/
def State.matchFold (i : Fin 6) (x : Nat) (s : State) : State :=
  let k := s.verify.checkers.get i
  match k.queue with
  | [] => s.recordOutcome i .extra none
  | e :: rest =>
    if absDiff x e.count ≤ s.verify.window then
      let within := pitchWithin k e x
      (s.setChecker i { k with queue := rest, last := some (e.panel, x) }).recordOutcome i
        (.matched within) (some e.panel)
    else s.recordOutcome i .extra (some e.panel)

/-- R161: a checker is watching. -/
def State.watching (i : Fin 6) (s : State) : Bool :=
  !(s.verify.checkers.get i).queue.isEmpty ||
    ((s.segs.get i).engaged && (s.segs.get i).active.verify)

/-- R161: a fold event reaches checker `i`. -/
def State.foldEvent (i : Fin 6) (s : State) : State :=
  if s.watching i then (s.sweep i s.conv).matchFold i s.conv else s

/-- R171: the expected-fold queues are emptied, uncounted, and the last matches made absent. -/
def State.emptyFolds (s : State) : State :=
  { s with verify := { s.verify with
      checkers := s.verify.checkers.map (fun k => { k with queue := [], last := none }) } }

/-- R169: the snapshot timer runs in COUNTING mode with a period. -/
def Verifier.timerRuns (v : Verifier) : Bool := !v.frozen && decide (v.period ≠ .off)

/-- R169, R193: the content of a COUNTER-SNAPSHOT. -/
def State.snapshot (s : State) : Snapshot where
  lines := s.verify.checkers.map fun k => ⟨k.matched, k.outOfTol, k.missing, k.extra, k.locked⟩
  conv := s.conv

end Sys2Proof.Machine
end

