-- ==== Sys2Proof/Machine/Sequencer.lean ====
section
/-! DEFINITION. The sequencer (Chapter 4): line states, holds, panel start, the stroke cycle, delivery,
backoff, cut steps and their taking up; with the parts of the roll change that hold the line. -/

namespace Sys2Proof.Machine

/-! ## Line states -/

/-- R54, R57a, R63: what the sequencer's own items become on entry into a line state. -/
def Seq.enterLine (l : LineState) (q : Seq) : Seq :=
  let q := { q with line := l }
  match l with
  | .idle | .estop => { q with pace := .stopped, stop := .none, inhibits := Inhibits.empty }
  | .waiting | .held => { q with pace := .stopped }
  | .running | .holding | .draining => q

/-- R54: the flag raised by each entry into a line state, beside LINE_STATE. -/
def LineState.entryFlag : LineState → Option Flag
  | .held => some .held
  | .estop => some .estop
  | .waiting => some .inhibit
  | .idle | .running | .holding | .draining => none

/-- R54, R89: the line enters a state. Entering the state it is in changes nothing. On entry into IDLE or
HELD every ACTIVE segment enters READY. -/
def State.enter (l : LineState) (s : State) : State :=
  if s.seq.line = l then s
  else
    let s := ((s.setSeq (Seq.enterLine l)).raise .lineState).raise? l.entryFlag
    match l with
    | .idle | .held => s.standReady
    | .waiting | .running | .holding | .draining | .estop => s

/-- The line enters HELD, and a press due is tested (R126). -/
def State.enterHeld (s : State) : State := (s.enter .held).pressTest

/-- The line enters IDLE, and a press due is tested (R126). -/
def State.enterIdle (s : State) : State := (s.enter .idle).pressTest

/-- R69 test 2: a line that is HOLDING and stands at an open boundary stops there (log 8). -/
def State.stopAtBoundary (s : State) : State :=
  if s.seq.line = .holding && s.atOpenBoundary then
    if s.seq.stop = .now then s.enterIdle else s.enterHeld
  else s

/-- R56: RUNNING or DRAINING enters HOLDING, which remembers which of the two it was. -/
def State.enterHolding (s : State) : State :=
  match s.seq.line with
  | .running => ((s.setSeq fun q => { q with holdingFrom := .running }).enter .holding).stopAtBoundary
  | .draining => ((s.setSeq fun q => { q with holdingFrom := .draining }).enter .holding).stopAtBoundary
  | _ => s

/-- R56: a hold requester that takes effect at the first open boundary joins the set. -/
def State.addHold (f : HoldSet → HoldSet) (s : State) : State :=
  let s := s.setSeq fun q => { q with hold := f q.hold }
  match s.seq.line with
  | .running | .draining => s.enterHolding
  | .waiting => s.enterHeld
  | .idle | .holding | .held | .estop => s

/-- R56, R72, R73: a hold requester that takes effect at once joins the set. -/
def State.addHoldAtOnce (f : HoldSet → HoldSet) (s : State) : State :=
  let s := s.setSeq fun q => { q with hold := f q.hold }
  match s.seq.line with
  | .running | .draining | .holding | .waiting => s.enterHeld
  | .idle | .held | .estop => s

/-- R124, R126: the fire tests of a SLOTTED splice. In STOPPED mode a passing test makes the press due and
adds SPLICE to the hold requester set. -/
def State.fireTests (s : State) : State :=
  if s.rcc.splice = .slotted then
    if s.rcc.pressDue.isSome then s.pressTest
    else if s.fireReady then
      match s.rcc.settings.mode with
      | .flying => s.fire
      | .stopped =>
        ((s.setRcc fun r => { r with pressDue := some s.tailShort }).addHold
          fun h => { h with splice := true }).pressTest
    else s
  else s

/-! ## End of forming -/

/-- R51: the head order's panels-ended count grows; the order leaves the queue when it has ended its
panels or has a cancel pending (R52). -/
def State.endHeadPanel (s : State) : State :=
  match s.orders with
  | [] => s
  | o :: rest =>
    let o := { o with ended := o.ended + 1 }
    if o.ended = o.panels || decide (o.cancel ≠ .none) then { s with orders := rest }.raise .orderDone
    else { s with orders := o :: rest }

/-- R123: a panel with an accepted slot ended early, before the web count reaches the fire point,
withdraws the slot, and the request stands again. -/
def State.withdrawSlot (p : Plan) (s : State) : State :=
  match s.rcc.firePoint with
  | some f =>
    if p.slotFirm && decide (s.web < f) then
      s.setRcc fun r => { r with firePoint := none, slotRequest := true }
    else s
  | none => s

/-- R41, R51, R70: the FORMING panel's forming ends with its tail at the conveyor count; the gap planned
after it becomes pending with its class; the plan is discarded. -/
def State.endForming (early : Bool) (f : Reasons → Reasons) (s : State) : State :=
  match s.forming? with
  | none => s
  | some _ =>
    let conv := s.conv
    let s := s.mapForming fun p =>
      { p with state := .travelling, tail := some conv, reasons := f p.reasons }
    let s := match s.seq.plan with
      | some p =>
        let s := if early then s.withdrawSlot p else s
        s.setSeq fun q =>
          { q with plan := none, gap := if p.gap = 0 then none else some ⟨p.gap, p.cls⟩ }
      | none => s
    s.endHeadPanel

/-- A step that belongs to a panel is dropped, and what it has outstanding abandoned (R73, R74, log 10);
a gap step stays. -/
def State.dropPanelStep (s : State) : State :=
  match s.seq.step with
  | some x => if x.kind = .gap then s else (s.setSeq fun q => { q with step := none }).clearStepDrives
  | none => s

def Reasons.addInterrupted (r : Reasons) : Reasons := { r with interrupted := true }
def Reasons.addAbandoned (r : Reasons) : Reasons := { r with abandoned := true }
def Reasons.addSegmentLost (r : Reasons) : Reasons := { r with segmentLost := true }

/-! ## Step start -/

/-- R63: the pace timer is restarted. -/
def State.restartPace (s : State) : State :=
  s.setSeq fun q => { q with pace := .running s.pacePeriod }

/-- R64, R112, R128: a step starts: the NOW copies are carried out, a stroke cycle makes READY segments
ACTIVE, the pace timer is restarted, the feeds are computed and the first drive steps commanded. -/
def State.beginStep (kind : StepKind) (advance cls : Nat) (figures : State → Fin 6 → StepFigures)
    (s : State) : State :=
  let s := s.nowCopies
  let s := match kind with
    | .stroke _ => s.goActive.clearRetries
    | .flat | .gap => s
  let s := s.restartPace
  let s := s.setRcc fun r => { r with edgeSeen := false }
  let s := s.setSeq fun q => { q with step := some ⟨kind, advance, .feed⟩ }
  s.startFeeds (decide (kind = .gap)) (s.classFields cls) (figures s)

/-- R101, R103: the figures of a stroke of spacing `spacing`, with the trims as they stand. -/
def strokeFigures (spacing : Nat) (taper : Six Nat) (s : State) (i : Fin 6) : StepFigures :=
  let d := bladeDepth (taper.get i) (s.segs.get i).active.depthTrim
  ⟨spacing + 2 * d, d⟩

/-- R103: the figures of a flat or gap step. -/
def flatFigures (length : Nat) (_ : State) (_ : Fin 6) : StepFigures := ⟨length, 0⟩

/-- R102: DEPTH_CLAMPED is added to the FORMING record where the clamp acts at a stroke start. -/
def State.markClamped (taper : Six Nat) (s : State) : State :=
  if s.engagedSegs.any (fun i => depthClampActs (taper.get i) (s.segs.get i).active.depthTrim) then
    s.mapForming fun p => { p with depthClamped := true }
  else s

/-- The next step starts: the pending gap step, or the panel's next step. -/
def State.nextStep (s : State) : State :=
  match s.seq.gap with
  | some g =>
    (s.setSeq fun q => { q with gap := none }).beginStep .gap g.length g.cls (flatFigures g.length)
  | none =>
    match s.seq.plan with
    | some p =>
      match p.runs[p.run]? with
      | some (.pleat _ form _ spacing taper _ _) =>
        (s.beginStep (.stroke (form.direction p.stroke)) spacing p.cls
          (strokeFigures spacing taper)).markClamped taper
      | some (.flat length _) => s.beginStep .flat length p.cls (flatFigures length)
      | none => s
    | none => s

/-- R63: the next step starts at once where the pace timer has expired or does not run; otherwise at its
expiry. -/
def State.pacedNext (s : State) : State :=
  match s.seq.pace with
  | .running _ => s
  | .expired | .stopped => s.nextStep

/-! ## Panel start -/

/-- R57a: the inhibits tested together, all but ROLL_SHORT. -/
def State.inhibitsNow (s : State) : Inhibits where
  noOrder := s.orders.isEmpty
  classMismatch := match s.rcc.activeRoll, s.orders with
    | none, _ => true
    | some r, o :: _ => decide (o.cls ≠ r.cls)
    | some _, [] => false
  trackFull := decide (Config.trackCapacity ≤ s.track.length)
  outletFull := match s.orders with
    | o :: _ => (s.outlets.firstRoom o.prefs).isNone
    | [] => false
  rejectFull := s.outlets.binFull
  engaging := s.segs.any (fun g => decide (g.state = .engaging) || decide (g.state = .parking))
  noSegment := !s.someEngaged
  rollShort := false

/-- R59, R61: the panel plan of an order, and whether its planned end is accepted as the slot. -/
def State.makePlan (o : Order) (s : State) : Plan :=
  let c := s.classFields o.cls
  let runs := ((s.pattern? o.slot).getD []).map (s.planRun o.grade c)
  let own := (runs.map PlanRun.totalNeed).sum
  let b := s.web + own
  let firm := s.slotAccepts b
  { runs := runs, run := 0, stroke := 0, cls := o.cls, ownNeed := own, plannedEnd := b,
    gap := if firm then 2 * s.rcc.settings.clearance else s.geometry.panelGap, slotFirm := firm }

/-- R60: the fit test. -/
def State.fits (o : Order) (r : Roll) (p : Plan) (s : State) : Bool :=
  decide (p.ownNeed + p.gap + Config.fitMargin ≤ r.remaining) ||
    (match s.rcc.standbyRoll with
      | some x => decide (x.cls = o.cls)
      | none => false)

/-- R34, R35: the record of a new panel. -/
def State.newPanel (o : Order) (r : Roll) (out : Outlet) (p : Plan) (s : State) : Panel where
  number := s.nextPanel
  order := o.tag
  slot := o.slot
  grade := o.grade
  cls := o.cls
  rollId := r.id
  state := .forming
  head := s.conv
  tail := none
  strokes := 0
  backoffs := 0
  lead := Four.fill 0
  tailDose := Four.fill 0
  outOfTol := 0
  missing := 0
  extra := 0
  verified := Six.fill false
  reasons := Reasons.empty
  depthClamped := s.planClamps p.runs
  stalled := false
  outlet := out
  foldLimit := o.foldLimit
  verifyRequired := o.verifyRequired

/-- R57a: the inhibits found set stand in the set, and the line enters or stays in WAITING. -/
def State.waitWith (b : Inhibits) (s : State) : State :=
  (s.setSeq fun q => { q with inhibits := b }).enter .waiting

/-- R58 steps 5 to 7: the credit, the record, the firm slot, the counts; the line is RUNNING and the
first step starts. -/
def State.startPanel (o : Order) (rest : List Order) (r : Roll) (out : Outlet) (p : Plan) (s : State) :
    State :=
  let s := s.reserve out
  let s := { s with track := s.track ++ [s.newPanel o r out p], nextPanel := s.nextPanel + 1 }
  let s := if p.slotFirm then s.firmSlot p.plannedEnd else s
  let s := { s with orders := { o with started := o.started + 1 } :: rest }
  let s := s.setSeq fun q => { q with plan := some p, inhibits := Inhibits.empty }
  ((s.startCarries).enter .running).nextStep

/-- R58: an attempt at a panel start, steps 1 to 7, without the fire tests made at it. -/
def State.startAttempt (s : State) : State :=
  let s := s.boundaryCopies s.boundaryWaiting
  let b := s.inhibitsNow
  if b.nonEmpty then s.waitWith b
  else
    match s.orders, s.rcc.activeRoll with
    | o :: rest, some r =>
      match s.outlets.firstRoom o.prefs with
      | some out =>
        let p := s.makePlan o
        if s.fits o r p then s.startPanel o rest r out p
        else s.waitWith { Inhibits.empty with rollShort := true }
      | none => s.waitWith b
    | _, _ => s.waitWith b

/-- R57a, R124: the fire tests; a fire while the line is WAITING evaluates the inhibits again. -/
def State.fireTestsAgain (s : State) : State :=
  let t := s.fireTests
  if s.rcc.splice = .slotted && decide (t.rcc.splice = .pressing) && decide (t.seq.line = .waiting) then
    t.startAttempt
  else t

/-- R58, R124: a panel start, with the fire tests made at it (log 16). -/
def State.panelStart (s : State) : State := s.startAttempt.fireTestsAgain

/-- R57a: while the line is WAITING the start inhibits are evaluated again. -/
def State.reevaluate (s : State) : State := if s.seq.line = .waiting then s.panelStart else s

/-! ## Boundary and delivery -/

/-- R69 test 1: at an open boundary a pending ABANDON ends the panel. -/
def State.abandonTest (s : State) : State :=
  match s.orders with
  | o :: _ =>
    if o.cancel = .abandon && s.forming?.isSome then s.endForming true Reasons.addAbandoned else s
  | [] => s

/-- R69: what the line does at an open cycle boundary, after test 1. -/
def State.openBoundary (s : State) : State :=
  match s.seq.line with
  | .holding => s.stopAtBoundary
  | .draining => if s.atPanelBoundary then s.enterIdle else s.pacedNext
  | .running => if s.atPanelStart then s.panelStart else s.pacedNext
  | .idle | .waiting | .held | .estop => s

/-- R68, R69: the work stands at the cycle boundary after a step, or at one reached otherwise. -/
def State.boundary (s : State) : State :=
  if s.boundaryClosed then (if s.seq.line.moving then s.pacedNext else s) else s.abandonTest.openBoundary

/-- R44, R66, R151: the conveyor count advances, with what follows every delivery. -/
def State.exitsAndStall (s : State) : State := s.exitTest.stallAfterDelivery

/-- R66: the delivery of the step; the work then stands at the boundary after it. -/
def State.deliver (s : State) : State :=
  match s.seq.step with
  | none => s
  | some x =>
    let s := { s with conv := s.conv + x.advance }
    let s := match x.kind with
      | .stroke _ =>
        ((s.sweepAll s.conv).pushFolds x.advance).mapForming
          fun p => { p with strokes := satAdd 2000 p.strokes 1 }
      | .flat | .gap => s
    let s := s.setSeq fun q => { q with step := none }
    let s := match x.kind, s.seq.plan with
      | .gap, _ => s
      | _, some p =>
        let p := p.advance
        let s := s.setSeq fun q => { q with plan := some p }
        if p.finished then s.endForming false id else s
      | _, none => s
    s.exitsAndStall

/-- R66, R69: the delivery, and what the line does at the boundary. -/
def State.deliverAndGo (s : State) : State := s.deliver.boundary

/-- R75: a gap delivery kept is made first. -/
def State.deliverKept (len : Nat) (s : State) : State :=
  State.boundary (State.exitsAndStall
    ({ s with conv := s.conv + len }.setSeq fun q => { q with kept := none }))

/-! ## Phases -/

/-- Set the phase of the step in progress. -/
def State.setPhase (ph : Phase) (s : State) : State :=
  s.setSeq fun q => { q with step := q.step.map fun x => { x with phase := ph } }

/-- R65: the stroke phase begins: every engaged blade is commanded with its depth and the direction. -/
def State.beginStroke (dir : Direction) (s : State) : State :=
  (s.commandEngaged fun i => .stroke (s.fmu.get i).depth dir).setPhase .stroke

/-- R74: a stroke taken up: its stroke phase begins at once with the pace timer, and the backoff counts
start again at 0. -/
def State.takeUpStroke (dir : Direction) (s : State) : State :=
  s.clearRetries.restartPace.beginStroke dir

/-- R74: a step whose point of cut is reached is taken up when the line runs: its first phase taken up, the stroke
phase or the delivery, starts at once with the pace timer. -/
def State.takeUp (s : State) : State :=
  match s.seq.step with
  | some x =>
    match x.phase, x.kind with
    | .fed, .stroke dir => s.takeUpStroke dir
    | .fed, _ => s.restartPace.deliverAndGo
    | .strokeCut, .stroke dir => if s.withdrawsOut then s else s.takeUpStroke dir
    | _, _ => s
  | none => s

/-- R55, R56, R63, R74, R75: the line has entered RUNNING or DRAINING from IDLE or HELD: a kept gap
delivery is made, a cut step taken up, or the next step starts at once. -/
def State.resume (s : State) : State :=
  match s.seq.kept with
  | some len => s.deliverKept len
  | none => if s.seq.step.isSome then s.takeUp else s.nextStep

/-- R118: the roll-out test. -/
def State.rollOutTest (s : State) : State :=
  match s.rcc.activeRoll with
  | none => s
  | some a =>
    if a.remaining = 0 then
      let pressDue := s.rcc.pressDue.isSome
      let s := s.setRcc (RollChange.mapSpindles fun x =>
        match x with
        | .active r => .spent r
        | y => y)
      let s := s.raise .rollOut
      let s := if s.rcc.splice = .preparing ∨ s.rcc.splice = .slotted then s.setRcc RollChange.takeBack else s
      let s := if pressDue then s.setSeq fun q => { q with hold := { q.hold with splice := false } } else s
      let s := if s.forming?.isSome then (s.endForming true Reasons.addInterrupted).dropPanelStep else s
      s.addHoldAtOnce fun h => { h with rollOut := true }
    else s

/-- R64, R117: the feed end: the web count advances and the roll change controller does its part. -/
def State.feedEndRcc (s : State) : State :=
  let w := s.webAdvance
  let s := { s with web := s.web + w }
  let s := s.setRcc (RollChange.mapSpindles (Spindle.debit w))
  let s := s.crossSeams.crossUnconfirmed
  let s := s.fireTests.detectTest
  s.rollOutTest.evalStandby.triggerTest

/-- R64: what follows the feed end of a phase that was not cut. -/
def State.afterFeed (s : State) : State :=
  match s.seq.step with
  | some x =>
    if s.seq.line.moving then
      match x.kind with
      | .stroke dir => s.beginStroke dir
      | .flat | .gap => s.deliverAndGo
    else s.setPhase .fed
  | none => s

/-- The feed end of a phase in which every list is complete. -/
def State.feedEnd (s : State) : State := s.feedEndRcc.afterFeed

/-- R74: the feed end of a cut phase; where the line runs again, the step is taken up at once. -/
def State.feedEndCut (s : State) : State :=
  let s := s.feedEndRcc.setPhase .fed
  if s.seq.line.moving then s.takeUp else s

/-- R74: the point of cut of a cut step, where it is reached. -/
def State.cutPoint (s : State) : State :=
  match s.seq.step with
  | some x =>
    match x.phase with
    | .feedCut => if s.feedsOut then s else s.feedEndCut
    | .strokeCut => if s.seq.line.moving then s.takeUp else s
    | _ => s
  | none => s

/-! ## Leaving holds -/

/-- R56: the line leaves HELD with no segment READY or ACTIVE: the FORMING panel, if there is one, is
ended, its cut step dropped, and the line enters IDLE. -/
def State.leaveLost (s : State) : State :=
  let s := if s.forming?.isSome then (s.endForming true Reasons.addSegmentLost).dropPanelStep else s
  s.enterIdle

/-- R56: the line leaves HELD. -/
def State.leaveHeld (s : State) : State :=
  match s.seq.stop with
  | .now => s.enterIdle
  | .endOfPanel =>
    if s.atPanelBoundary then s.enterIdle
    else if s.someEngaged then (s.enter .draining).resume else s.leaveLost
  | .none =>
    if !s.someEngaged then s.leaveLost
    else if s.atPanelStart then s.panelStart
    else (s.enter .running).resume

/-- R56: the state HOLDING returns to; a stop pending END_OF_PANEL counts as DRAINING. -/
def Seq.resumeState (q : Seq) : LineState :=
  if q.stop = .endOfPanel then .draining
  else match q.holdingFrom with
    | .running => .running
    | .draining => .draining

/-- R56: members leave the hold requester set; when it becomes empty the line leaves HOLDING or HELD. -/
def State.releaseHold (f : HoldSet → HoldSet) (s : State) : State :=
  let before := s.seq.hold
  let s := s.setSeq fun q => { q with hold := f q.hold }
  if before.nonEmpty && !s.seq.hold.nonEmpty then
    match s.seq.line with
    | .holding => if s.seq.stop = .now then s else s.enter s.seq.resumeState
    | .held => s.leaveHeld
    | .idle | .waiting | .running | .draining | .estop => s
  else s

/-! ## Faults and backoff -/

/-- R72: a hold at once cuts the step in progress. In a stroke phase the engaged blades are commanded to
withdraw. -/
def State.cutStep (s : State) : State :=
  match s.seq.step with
  | some x =>
    match x.phase with
    | .feed => s.setPhase .feedCut
    | .stroke => (s.commandEngaged fun _ => .withdraw).setPhase .strokeCut
    | .backoff => s.setPhase .strokeCut
    | .feedCut | .fed | .strokeCut => s
  | none => s

/-- R72, R90: segment `i` becomes FAULTED; FAULT joins the hold requester set and holds the line at once;
a FORMING panel it was engaged in gets SEGMENT_LOST. -/
def State.segmentFault (i : Fin 6) (c : FaultCause) (s : State) : State :=
  if (s.segs.get i).state = .faulted then s
  else
    let engaged := (s.segs.get i).engaged
    let s := s.faultSeg i c
    let s := if engaged then s.mapForming fun p => { p with reasons := p.reasons.addSegmentLost } else s
    let s := s.addHoldAtOnce fun h => { h with fault := true }
    s.cutStep.cutPoint

/-- R37, R71, R92: the counts of a backoff with offending segment `i`. -/
def State.countBackoff (i : Fin 6) (s : State) : State :=
  let s := s.mapForming fun p => { p with backoffs := satAdd 65535 p.backoffs 1 }
  let s := s.setSeq fun q => { q with backoffs := q.backoffs + 1 }
  let g := s.segs.get i
  s.setSeg i { g with retryNow := satAdd 4 g.retryNow 1, retryTotal := satAdd 65535 g.retryTotal 1 }

/-- R71: a backoff begins; at the fourth of a stroke the offending segment becomes FAULTED. -/
def State.beginBackoff (i : Fin 6) (s : State) : State :=
  let s := ((s.commandEngaged fun _ => .withdraw).countBackoff i).setPhase .backoff
  if 4 ≤ s.seq.backoffs then s.segmentFault i .backoffLimit else s

/-- R71, R97: every engaged segment's held sample is at or below its limit; an absent one counts so. -/
def State.tensionsOk (s : State) : Bool :=
  segIndices.all fun i =>
    let g := s.segs.get i
    !g.engaged || (match (s.fmu.get i).tension with
      | some v => decide (v ≤ g.active.tensionLimit)
      | none => true)

/-- R71: a backoff whose withdraws are done retries the stroke once every tension is within its limit. -/
def State.retryTest (s : State) : State :=
  match s.seq.step with
  | some ⟨.stroke dir, _, .backoff⟩ =>
    if !s.withdrawsOut && s.tensionsOk then s.beginStroke dir else s
  | _ => s

/-- The phase of the step in progress or cut. -/
def State.phase? (s : State) : Option Phase := s.seq.step.map (·.phase)

end Sys2Proof.Machine
end

