-- ==== Sys2Proof/Machine/Orders.lean ====
section
/-! DEFINITION. The order queue's requests (R49 to R53). -/

namespace Sys2Proof.Machine

/-- R57a: a line that was WAITING when an event arrived evaluates the start inhibits again after it. -/
def State.reevaluateSince (before s : State) : State :=
  if before.seq.line = .waiting then s.reevaluate else s

/-- R50: the preference list's entries, `count` of its three bytes; none where one is no good outlet. The bytes beyond
the count are not looked at (log 7). -/
def prefList (b : OrderBody) : Option (List Outlet) :=
  match b.prefCount with
  | 1 => [b.pref1].mapM outletOf?
  | 2 => [b.pref1, b.pref2].mapM outletOf?
  | 3 => [b.pref1, b.pref2, b.pref3].mapM outletOf?
  | _ => none

/-- R49, R50: the order a body makes, when every field lies in its range and the preference list holds 1..3
different good outlets. -/
def orderOf? (b : OrderBody) : Option Order :=
  match prefList b, seamPolicyOf? b.seamPolicy with
  | some prefs, some policy =>
    if inRange 1 65535 b.tag && inRange 1 Config.slots b.slot && decide (b.cls < 16)
        && inRange 800 1250 b.grade && inRange 1 9999 b.panels && decide (b.foldLimit ≤ 65535)
        && decide prefs.Nodup then
      some { tag := b.tag, slot := b.slot, cls := b.cls, grade := b.grade, panels := b.panels,
             prefs := prefs, seamPolicy := policy, foldLimit := b.foldLimit,
             verifyRequired := b.verifyRequired, started := 0, ended := 0, cancel := .none }
    else none
  | _, _ => none

/-- R50: the number of orders in the queue. -/
def orderCount (s : State) : List Byte := u8 s.orders.length

/-- R50: ORDER-ADD. -/
def State.reqOrderAdd (b : OrderBody) (s : State) : State × Answer :=
  match orderOf? b with
  | none => answered .range orderCount s
  | some o =>
    if (s.class? o.cls).isNone then answered .range orderCount s
    else if (s.pattern? o.slot).isNone then answered .notFound orderCount s
    else if s.orders.any (fun x => decide (x.tag = o.tag)) then answered .inUse orderCount s
    else if Config.orderCapacity ≤ s.orders.length then answered .noRoom orderCount s
    else answered .ok orderCount
      (State.reevaluateSince s { s with orders := s.orders ++ [o] })

/-- R52: a cancel pending after a further cancel; ABANDON stays. -/
def CancelPending.join (old new : CancelPending) : CancelPending :=
  match old with
  | .abandon => .abandon
  | .none | .afterPanel => new

/-- R52: an order removed at once. -/
def State.removeOrder (tag : Nat) (s : State) : State :=
  State.raise .orderDone { s with orders := s.orders.filter (fun o => decide (o.tag ≠ tag)) }

/-- R52: the cancel of the head order while it has a FORMING panel. An ABANDON at an open boundary takes
effect at once (log 8). -/
def State.cancelForming (o : Order) (rest : List Order) (m : CancelPending) (s : State) : State :=
  let s := { s with orders := { o with cancel := o.cancel.join m } :: rest }
  if o.cancel.join m = .abandon && s.atOpenBoundary then s.boundary else s

/-- R52: the order with the tag is the head order and has the FORMING panel. -/
def State.formingHead? (tag : Nat) (s : State) : Option (Order × List Order) :=
  match s.orders with
  | o :: rest => if o.tag = tag && s.forming?.isSome then some (o, rest) else none
  | [] => none

/-- R52: what a cancel of an order of the queue does. -/
def State.cancelOrder (tag : Nat) (m : CancelPending) (s : State) : State :=
  match s.formingHead? tag with
  | some (o, rest) => s.cancelForming o rest m
  | none => s.removeOrder tag

/-- R52: whether the order was removed at once (0) or is pending (1). -/
def cancelItems (tag : Nat) (s : State) : List Byte :=
  u8 (if s.orders.any (fun o => decide (o.tag = tag)) then 1 else 0)

/-- R52: ORDER-CANCEL. -/
def State.reqOrderCancel (tag mode : Nat) (s : State) : State × Answer :=
  match cancelModeOf? mode with
  | none => refused .range s
  | some m =>
    if s.orders.any (fun o => decide (o.tag = tag)) then
      answered .ok (cancelItems tag) (State.reevaluateSince s (s.cancelOrder tag m))
    else refused .notFound s

/-- R53: ORDER-LIST. -/
def State.reqOrderList (s : State) : State × Answer :=
  answered .ok (fun s => listItem Config.orderCapacity 21 orderItems s.orders) s

/-! ## The commands -/

/-- ORDER-ADD, kind 08H. -/
def execOrderAdd (tag : Byte) (order : OrderBody) (s : State) : Host.Outcome State Fault Refusal :=
  (s.takeRequest 0x08#8 tag (State.reqOrderAdd order)).finish

/-- ORDER-CANCEL, kind 09H. -/
def execOrderCancel (tag : Byte) (order mode : Nat) (s : State) : Host.Outcome State Fault Refusal :=
  (s.takeRequest 0x09#8 tag (State.reqOrderCancel order mode)).finish

/-- ORDER-LIST, kind 0AH. -/
def execOrderList (tag : Byte) (s : State) : Host.Outcome State Fault Refusal :=
  (s.takeRequest 0x0A#8 tag State.reqOrderList).finish

end Sys2Proof.Machine
end

