-- ==== Sys2Proof/Machine/Cycle.lean ====
section
/-! DEFINITION. The events of the stroke cycle and of segment movement (R63 to R65, R71, R72, R87, R88, R90,
R97, R109). -/

namespace Sys2Proof.Machine

/-! ## Pace -/

/-- R63: the pace timer expires: during a step it is remembered, at a boundary the next step starts. -/
def State.paceExpires (s : State) : State :=
  match s.seq.pace with
  | .running _ =>
    let t := s.setSeq fun q => { q with pace := .expired }
    if s.seq.step.isNone && s.seq.line.moving then t.nextStep else t
  | .stopped | .expired => s

/-- PACE_TIMER_EXPIRY. -/
def execPaceTimerExpiry (s : State) : Host.Outcome State Fault Refusal := s.paceExpires.finish

/-! ## Feed -/

/-- R109: the feed step outstanding on segment `i` is done: it counts in the completed feed, and the next is
commanded, unless the phase is cut. -/
def State.feedStepDone (i : Fin 6) (len : Nat) (s : State) : State :=
  let f := s.fmu.get i
  let f := { f with completed := f.completed + len }
  match s.phase?, f.left with
  | some .feed, next :: rest =>
    (s.setFmu i { f with left := rest, commanded := f.commanded + 1 }).setDrive i (.feed next)
  | _, _ => (s.setFmu i f).setDrive i .none

/-- R64, R74: the feed end, where no drive step is outstanding any more. -/
def State.feedEndTest (s : State) : State :=
  if s.feedsOut then s
  else match s.phase? with
    | some .feed => s.feedEnd
    | some .feedCut => s.cutPoint
    | _ => s

/-- R64, R109: "feed done"; without a drive step outstanding on an engaged segment it is discarded. -/
def State.feedIsDone (i : Fin 6) (s : State) : State :=
  let g := s.segs.get i
  match g.drive, g.engaged with
  | .feed len, true => (s.feedStepDone i len).feedEndTest
  | _, _ => s

/-- FEED_DONE. -/
def execFeedDone (seg : Fin 6) (s : State) : Host.Outcome State Fault Refusal := (s.feedIsDone seg).finish

/-- A timeout reaches a segment whose outstanding drive passes the test: the segment becomes FAULTED. -/
def State.driveTimeout (i : Fin 6) (p : Drive → Bool) (c : FaultCause) (s : State) : State :=
  if p (s.segs.get i).drive then s.segmentFault i c else s

/-- FEED_TIMEOUT: 400 ms (R64, R109). -/
def execFeedTimeout (seg : Fin 6) (s : State) : Host.Outcome State Fault Refusal :=
  (s.driveTimeout seg Drive.isFeed .feedTimeout).finish

/-! ## Stroke -/

/-- R65, R66: the stroke phase ends when no stroke is outstanding. -/
def State.strokeEndTest (s : State) : State :=
  if s.phase? = some .stroke && !s.strokesOut then s.deliverAndGo else s

/-- R65: "stroke done"; without a stroke outstanding it is discarded. -/
def State.strokeIsDone (i : Fin 6) (s : State) : State :=
  if (s.segs.get i).drive.isStroke then (s.setDrive i .none).strokeEndTest else s

/-- STROKE_DONE. -/
def execStrokeDone (seg : Fin 6) (s : State) : Host.Outcome State Fault Refusal := (s.strokeIsDone seg).finish

/-- STROKE_TIMEOUT: 600 ms (R65). -/
def execStrokeTimeout (seg : Fin 6) (s : State) : Host.Outcome State Fault Refusal :=
  (s.driveTimeout seg Drive.isStroke .strokeTimeout).finish

/-! ## Tension and jam -/

/-- R97: a tension value clamped to 0..4095 is held. -/
def State.holdSample (i : Fin 6) (v : Int) (s : State) : State :=
  s.setFmu i { s.fmu.get i with tension := some (clampInt 4095 v) }

/-- R71: an event of segment `i` that offends starts a backoff, in a stroke phase. -/
def State.offend (i : Fin 6) (s : State) : State :=
  if s.phase? = some .stroke && (s.segs.get i).engaged then s.beginBackoff i else s

/-- R71, R97: a tension sample. -/
def State.tensionArrives (i : Fin 6) (v : Int) (s : State) : State :=
  let t := s.holdSample i v
  (if (s.segs.get i).active.tensionLimit < clampInt 4095 v then t.offend i else t).retryTest

/-- TENSION_SAMPLE. -/
def execTensionSample (seg : Fin 6) (value : Int) (s : State) : Host.Outcome State Fault Refusal :=
  (s.tensionArrives seg value).finish

/-- JAM_REPORT (R71). -/
def execJamReport (seg : Fin 6) (s : State) : Host.Outcome State Fault Refusal := (s.offend seg).finish

/-! ## Withdraw -/

/-- R71, R74: "withdraw done"; without a withdraw outstanding it is discarded. -/
def State.withdrawIsDone (i : Fin 6) (s : State) : State :=
  if (s.segs.get i).drive.isWithdraw then (s.setDrive i .none).retryTest.cutPoint else s

/-- WITHDRAW_DONE. -/
def execWithdrawDone (seg : Fin 6) (s : State) : Host.Outcome State Fault Refusal :=
  (s.withdrawIsDone seg).finish

/-- WITHDRAW_TIMEOUT: 300 ms (R71). -/
def execWithdrawTimeout (seg : Fin 6) (s : State) : Host.Outcome State Fault Refusal :=
  (s.driveTimeout seg Drive.isWithdraw .withdrawTimeout).finish

/-! ## Movement -/

/-- The drive outstanding is home. -/
def Drive.isHome : Drive → Bool
  | .home => true
  | _ => false

/-- The drive outstanding is park. -/
def Drive.isPark : Drive → Bool
  | .park => true
  | _ => false

/-- R87, R88: a movement ends in a state, and a status IN_PROGRESS becomes DONE. -/
def State.moveDone (i : Fin 6) (st : SegState) (s : State) : State :=
  let t := (s.setDrive i .none).setSegState i st
  if (t.segs.get i).status = .inProgress then t.setStatus i .done else t

/-- R87: "home done". -/
def State.homeIsDone (i : Fin 6) (s : State) : State :=
  if (s.segs.get i).drive.isHome then State.reevaluateSince s (s.moveDone i .ready) else s

/-- HOME_DONE. -/
def execHomeDone (seg : Fin 6) (s : State) : Host.Outcome State Fault Refusal := (s.homeIsDone seg).finish

/-- HOME_TIMEOUT: 2000 ms (R87). -/
def execHomeTimeout (seg : Fin 6) (s : State) : Host.Outcome State Fault Refusal :=
  (s.driveTimeout seg Drive.isHome .homeTimeout).finish

/-- R88: "park done". -/
def State.parkIsDone (i : Fin 6) (s : State) : State :=
  if (s.segs.get i).drive.isPark then State.reevaluateSince s (s.moveDone i .parked) else s

/-- PARK_DONE. -/
def execParkDone (seg : Fin 6) (s : State) : Host.Outcome State Fault Refusal := (s.parkIsDone seg).finish

/-- PARK_TIMEOUT: 2000 ms (R88). -/
def execParkTimeout (seg : Fin 6) (s : State) : Host.Outcome State Fault Refusal :=
  (s.driveTimeout seg Drive.isPark .parkTimeout).finish

/-- DRIVE_FAULT: a fault report reaches a segment in any state other than FAULTED (R90). -/
def execDriveFault (seg : Fin 6) (s : State) : Host.Outcome State Fault Refusal :=
  (s.segmentFault seg .driveFault).finish

end Sys2Proof.Machine
end

