-- ==== Sys2Proof/Machine/Stops.lean ====
section
/-! DEFINITION. Power-on and the emergency stop (R54, R76, R77, R94, R134, R135, R154). -/

namespace Sys2Proof.Machine

/-! ## Power-on -/

/-- R194: the flags raised during power-on, which the first FLAG-NOTICE carries. -/
def powerOnFlags (estopActive binFull : Bool) : BitVec 48 :=
  flagBit Flag.resetDone.number
    ||| (if estopActive then flagBit Flag.estop.number else 0#48)
    ||| (if binFull then flagBit Flag.rejectBinFull.number else 0#48)

/-- The state right after power-on with the three inputs at the given levels. -/
def State.poweredOn (estopActive binFull seamLevel : Bool) : State :=
  { State.reset with
    estopInput := estopActive
    seq := { Seq.powerOn with line := if estopActive then .estop else .idle }
    outlets := { Outlets.powerOn with binFull := binFull }
    rcc := { RollChange.powerOn with stable := seamLevel }
    link := { Link.powerOn with
      notice := some (powerOnFlags estopActive binFull), flags := powerOnFlags estopActive binFull } }

/-- POWER_ON. The commands waiting and the model's own counter are no part of the block. Transmission
begins after it (log 5). -/
def execPowerOn (estopActive binFull seamLevel : Bool) (s : State) : Host.Outcome State Fault Refusal :=
  .next { State.poweredOn estopActive binFull seamLevel with pending := s.pending, freeIndex := s.freeIndex }

/-! ## Splice -/

/-- R130: a splice enters MISSED: every timer and request of it is stopped, SPLICE_MISSED is raised. -/
def State.missSplice (c : MissCause) (s : State) : State :=
  State.raise .spliceMissed (s.setRcc fun r => { r with
    splice := .missed c
    matchTimer := false
    spindleCommand := none
    slotRequest := false
    firePoint := none
    pressDue := none
    confirmTimer := none
    detectPoint := none })

/-- R130: a splice enters MISSED, and SPLICE joins the hold requester set. -/
def State.enterMissed (c : MissCause) (s : State) : State :=
  (s.missSplice c).addHold fun h => { h with splice := true }

/-- R134: the splice at an emergency stop. -/
def State.estopSplice (s : State) : State :=
  match s.rcc.splice with
  | .preparing | .slotted =>
    let due := s.rcc.pressDue.isSome
    (s.setRcc RollChange.takeBack).setSeq fun q =>
      { q with hold := { q.hold with splice := q.hold.splice && !due } }
  | .pressing => s.enterMissed .estop
  | .idle | .armed | .missed _ => s

/-! ## E-stop active -/

/-- A feed phase is in flight: its feed end is not made yet. -/
def Phase.feeding : Phase → Bool
  | .feed | .feedCut => true
  | .fed | .stroke | .backoff | .strokeCut => false

/-- R76, R117: the feed end made by an emergency stop: steps 1, 2 and 4. -/
def State.feedEndEstop (s : State) : State :=
  let w := s.webAdvance
  let s := { s with web := s.web + w }
  let s := s.setRcc (RollChange.mapSpindles (Spindle.debit w))
  s.crossSeams.crossUnconfirmed.rollOutTest

/-- R76: the feed end of a feed phase in flight. -/
def State.estopFeed (s : State) : State :=
  match s.seq.step with
  | some x => if x.phase.feeding then s.feedEndEstop else s
  | none => s

/-- R75, R76: a panel's step is dropped; a gap step keeps its delivery. -/
def State.estopStep (s : State) : State :=
  match s.seq.step with
  | some x =>
    s.setSeq fun q => { q with step := none, kept := if x.kind = .gap then some x.advance else q.kept }
  | none => s

/-- R47: INTERRUPTED is added to every record in the web track. -/
def State.interruptAll (s : State) : State :=
  { s with track := s.track.map fun p => { p with reasons := p.reasons.addInterrupted } }

/-- R94: every segment is PARKED, and FAULT leaves the hold requester set. -/
def State.estopSegs (s : State) : State :=
  (segIndices.foldl State.estopSeg s).setSeq fun q => { q with hold := { q.hold with fault := false } }

/-- Table 6.1.2: the held tension samples are absent after an emergency stop; every list is dropped. -/
def State.estopFeeds (s : State) : State :=
  { s with fmu := s.fmu.map fun f => { f.outOfStep with tension := none } }

/-- R154: every grant becomes 0. -/
def State.estopGrants (s : State) : State := s.setSteam fun a => { a with grants := Five.fill 0 }

/-- R76, R47, R94, R134, R154: the e-stop input has gone active. -/
def State.estop (s : State) : State :=
  let s := ({ s with estopInput := true }.enter .estop).estopFeed
  let s := s.endForming true Reasons.addInterrupted
  let s := s.interruptAll.estopStep.estopSplice
  let s := s.estopSegs.estopFeeds.estopGrants
  s.setSeq fun q => { q with backoffs := 0 }

/-- ESTOP_ACTIVE: the input's change to active (log 14). -/
def execEstopActive (s : State) : Host.Outcome State Fault Refusal :=
  (if s.estopInput then s else s.estop).finish

/-! ## E-stop inactive -/

/-- R77: what the hold requester set keeps. -/
def HoldSet.afterEstop (h : HoldSet) : HoldSet := ⟨false, false, h.rollOut, h.fault⟩

/-- R135: a splice still in MISSED adds SPLICE again. -/
def State.missedHolds (s : State) : State :=
  match s.rcc.splice with
  | .missed _ => s.addHold fun h => { h with splice := true }
  | .idle | .armed | .preparing | .slotted | .pressing => s

/-- R77, R135: the e-stop input has gone inactive. -/
def State.estopReleased (s : State) : State :=
  let s := { s with estopInput := false }.setSeq fun q => { q with hold := q.hold.afterEstop }
  s.enterIdle.missedHolds

/-- ESTOP_INACTIVE: the input's change to inactive (log 14). -/
def execEstopInactive (s : State) : Host.Outcome State Fault Refusal :=
  (if s.estopInput then s.estopReleased else s).finish

end Sys2Proof.Machine
end

