-- ==== Sys2Proof/Machine/FieldEvents.lean ====
section
/-! DEFINITION. The events of the tunnel, the roll change, the outlet and the verifier (R114, R122, R126 to
R130, R139, R142, R145, R152, R161, R169, R177). -/

namespace Sys2Proof.Machine

/-! ## Tunnel -/

/-- ZONE_SAMPLE (R139). -/
def execZoneSample (zone : Fin 4) (temp : Int) (s : State) : Host.Outcome State Fault Refusal :=
  (s.zoneSample zone temp).finish

/-- ZONE_SILENCE_TIMEOUT: 1000 ms (R142). -/
def execZoneSilenceTimeout (zone : Fin 4) (s : State) : Host.Outcome State Fault Refusal :=
  (s.zoneSilent zone).finish

/-- R145, R148: a reading, its round, and the fire tests after it. -/
def State.readSupply (v : Int) (s : State) : State :=
  let c := clampInt 8000 v
  let t := s.setSteam fun a => { a with reading := some c, supplyTimer := true, meterLost := false }
  (t.round c).fireTestsAgain

/-- SUPPLY_READING. -/
def execSupplyReading (reading : Int) (s : State) : Host.Outcome State Fault Refusal :=
  (s.readSupply reading).finish

/-- R145: the meter is found lost; STEAM_METER is raised when the indication is set. -/
def State.loseMeter (s : State) : State :=
  let t := s.setSteam fun a => { a with meterLost := true, supplyTimer := true }
  if s.steam.meterLost then t else t.raise .steamMeter

/-- R145: the supply watch timer expires: a round with C = 0. -/
def State.supplySilent (s : State) : State :=
  if s.steam.supplyTimer then (s.loseMeter.round 0).fireTestsAgain else s

/-- SUPPLY_WATCH_TIMEOUT: 2000 ms. -/
def execSupplyWatchTimeout (s : State) : Host.Outcome State Fault Refusal := s.supplySilent.finish

/-- STALL_TIMER_EXPIRY (R151, R152). -/
def execStallTimerExpiry (s : State) : Host.Outcome State Fault Refusal :=
  (if s.steam.stallTimer.isSome then s.stallNow else s).finish

/-! ## Roll change -/

/-- R114: an EXPIRING record. -/
def Spindle.expiring? : Spindle → Bool
  | .expiring _ => true
  | _ => false

/-- R114: an EXPIRING record becomes SPENT, and the tail timer stops. -/
def State.spendTail (s : State) : State :=
  s.setRcc fun r => { r.mapSpindles Spindle.spend with tailTimer := false }

/-- TAIL_CUT_DONE (R114): discarded when no record is EXPIRING. -/
def execTailCutDone (s : State) : Host.Outcome State Fault Refusal :=
  (if s.rcc.u1.expiring? || s.rcc.u2.expiring? then s.spendTail else s).finish

/-- TAIL_TIMER_EXPIRY: 2000 ms after the record became EXPIRING (R114). -/
def execTailTimerExpiry (s : State) : Host.Outcome State Fault Refusal :=
  (if s.rcc.tailTimer then s.spendTail else s).finish

/-- R122, R123, R124: the splice enters SLOTTED, asks for a slot, is offered the FORMING panel's planned end,
and makes its fire tests. -/
def State.enterSlotted (s : State) : State :=
  let t := s.setRcc fun r => { r with splice := .slotted, matchTimer := false, slotRequest := true }
  t.offerForming.fireTestsAgain

/-- SPINDLE_MATCHED (R122): discarded in any other state than PREPARING. -/
def execSpindleMatched (s : State) : Host.Outcome State Fault Refusal :=
  (if s.rcc.splice = .preparing then s.enterSlotted else s).finish

/-- MATCH_TIMEOUT: 20 s (R122). -/
def execMatchTimeout (s : State) : Host.Outcome State Fault Refusal :=
  (if s.rcc.matchTimer then s.enterMissed .noMatch else s).finish

/-- R126: the splice of a STOPPED-mode press is confirmed and SPLICE leaves the hold requester set. -/
def State.sealDone (s : State) : State :=
  (s.confirmSplice .sealed).releaseHold fun h => { h with splice := false }

/-- SEALED (R126): discarded in any other state than PRESSING, and in FLYING mode. -/
def execSealed (s : State) : Host.Outcome State Fault Refusal :=
  (if s.rcc.splice = .pressing && decide (s.rcc.settings.mode = .stopped) then s.sealDone else s).finish

/-- CONFIRM_TIMEOUT (R126, R128). -/
def execConfirmTimeout (s : State) : Host.Outcome State Fault Refusal :=
  (if s.rcc.confirmTimer.isSome && decide (s.rcc.splice = .pressing) then s.enterMissed .noConfirm else s).finish

/-- SEAM_DETECTOR_CHANGE (R127). -/
def execSeamDetectorChange (level : Bool) (s : State) : Host.Outcome State Fault Refusal :=
  (s.setRcc fun r =>
    if level = r.stable then { r with candidate := none, debounce := none }
    else { r with candidate := some level, debounce := some r.settings.debounce }).finish

/-- R128: a debounced edge accepted in PRESSING sets the edge-seen indication; while the confirm timer runs, it
confirms a FLYING splice. -/
def State.acceptEdge (s : State) : State :=
  if s.rcc.splice = .pressing then
    let t := s.setRcc fun r => { r with edgeSeen := true }
    if s.rcc.settings.mode = .flying && s.rcc.confirmTimer.isSome then t.confirmSplice .detector else t
  else s

/-- R127: the debounce timer expires: the candidate becomes the stable level. -/
def State.debounced (s : State) : State :=
  match s.rcc.candidate, s.rcc.debounce with
  | some level, some _ =>
    let t := s.setRcc fun r => { r with stable := level, candidate := none, debounce := none }
    if level = s.rcc.settings.rising then t.acceptEdge else t
  | _, _ => s

/-- DEBOUNCE_TIMER_EXPIRY (R127, R128). -/
def execDebounceTimerExpiry (s : State) : Host.Outcome State Fault Refusal := s.debounced.finish

/-! ## Outlet and verifier -/

/-- R177: the reject bin full input changes its level. -/
def State.binLevel (full : Bool) (s : State) : State :=
  if full = s.outlets.binFull then s
  else
    let t := { s with outlets := { s.outlets with binFull := full } }
    State.reevaluateSince s (if full then t.raise .rejectBinFull else t)

/-- REJECT_BIN_INPUT_CHANGE. -/
def execRejectBinInputChange (full : Bool) (s : State) : Host.Outcome State Fault Refusal :=
  (s.binLevel full).finish

/-- FOLD_EVENT (R161). -/
def execFoldEvent (seg : Fin 6) (s : State) : Host.Outcome State Fault Refusal := (s.foldEvent seg).finish

/-- SNAPSHOT_TIMER_EXPIRY (R169): the timer is restarted with the same period. -/
def execSnapshotTimerExpiry (s : State) : Host.Outcome State Fault Refusal :=
  (if s.verify.timer then s.setLink (Link.pushSnapshot s.snapshot) else s).finish

end Sys2Proof.Machine
end

