-- ==== Sys2Proof/Decode.lean ====
section
/-! DEFINITION. What the bodies of request frames mean (R188, R190, Table 11.6.2), with the encoder beside
it; and the table's words, of which there are none. -/

namespace Sys2Proof

/-- No row of spec/opcode_table.json gives bits, so no word spells a command. -/
def decodeTableWord (_nbits _w : Nat) : Option Instr := none

/-! ## Fields -/

/-- R185: a field's number, least significant byte first. -/
def fieldValue : List Byte → Nat
  | [] => 0
  | b :: bs => b.toNat + 256 * fieldValue bs

/-- R190: the numbers of a body of fields of the given sizes; none where the body has another size. -/
def readFields : List Nat → List Byte → Option (List Nat)
  | [], [] => some []
  | [], _ :: _ => none
  | w :: ws, bs =>
    if bs.length < w then none
    else (readFields ws (bs.drop w)).map (fun vs => fieldValue (bs.take w) :: vs)

/-- R190: a number of `n` bytes. -/
def writeField : Nat → Nat → List Byte
  | 0, _ => []
  | n + 1, v => BitVec.ofNat 8 v :: writeField n (v / 256)

/-- A body of (size, number) fields. -/
def writeFields : List (Nat × Nat) → List Byte
  | [] => []
  | (w, v) :: fs => writeField w v ++ writeFields fs

/-- R190: a presence, yes/no or on/off byte. -/
def flag? : Nat → Option Bool
  | 0 => some false
  | 1 => some true
  | _ => none

def flagNumber (b : Bool) : Nat := if b then 1 else 0

/-- R190: an item after its presence byte. -/
def present {α : Type} (p : Bool) (x : α) : Option α := if p then some x else none

/-- R190: a number of two bytes in two's complement. -/
def signed16 (v : Nat) : Int := if v < 32768 then v else (v : Int) - 65536

def unsigned16 (v : Int) : Nat := (v % 65536).toNat

/-! ## Kinds -/

/-- Table 11.6.2: the KIND of a request. -/
def Request.kind : Request → Byte
  | .patDefine _ _ => 0x01#8
  | .patDrop _ => 0x02#8
  | .patRead _ => 0x03#8
  | .classSet _ _ => 0x04#8
  | .classRead _ => 0x05#8
  | .orderAdd _ => 0x08#8
  | .orderCancel _ _ => 0x09#8
  | .orderList => 0x0A#8
  | .segStage _ _ => 0x10#8
  | .segApply _ _ => 0x11#8
  | .segClear _ => 0x12#8
  | .segRead _ => 0x13#8
  | .rollLoad _ _ _ _ => 0x18#8
  | .rollRemove _ => 0x19#8
  | .spliceSet _ => 0x1A#8
  | .spliceResolve _ => 0x1B#8
  | .lineRun => 0x20#8
  | .lineStop _ => 0x21#8
  | .lineHold => 0x22#8
  | .lineRelease => 0x23#8
  | .lineRate _ => 0x24#8
  | .lineGeometry _ => 0x25#8
  | .lineReset => 0x26#8
  | .zoneSet _ _ => 0x28#8
  | .steamSet _ => 0x29#8
  | .outletSet _ => 0x2A#8
  | .outletUnload _ _ => 0x2B#8
  | .verifySet _ => 0x2C#8
  | .readTrack _ => 0x30#8
  | .readExits _ => 0x31#8
  | .readCounters => 0x32#8
  | .readStatus => 0x33#8
  | .readFlags => 0x34#8
  | .maskSet _ => 0x38#8

/-! ## Bodies -/

/-- R16: the fields of a PLEAT run after its kind byte. -/
def pleatWidths : List Nat := [2, 1, 2, 2, 2, 1]

/-- R25: `n` steps, each with a kind byte; the body ends with the last. -/
def decodeSteps : Nat → List Byte → Option (List PatStep)
  | 0, [] => some []
  | 0, _ :: _ => none
  | _ + 1, [] => none
  | n + 1, k :: bs =>
    if k = 0#8 then
      match readFields pleatWidths (bs.take 10), decodeSteps n (bs.drop 10) with
      | some [count, form, sp, dw, dh, lock], some rest =>
        (flag? lock).map fun b => .pleat count form sp dw dh b :: rest
      | _, _ => none
    else if k = 1#8 then
      match readFields [4] (bs.take 4), decodeSteps n (bs.drop 4) with
      | some [length], some rest => some (.flat length :: rest)
      | _, _ => none
    else none

/-- R25: the body of PAT-DEFINE. -/
def decodePattern : List Byte → Option Request
  | slot :: n :: bs => (decodeSteps n.toNat bs).map fun steps => .patDefine slot.toNat steps
  | _ => none

/-- R10: the body of CLASS-SET that defines. -/
def classWidths : List Nat := [1, 1, 2, 2, 2, 2, 4, 1, 4, 2]

def decodeClassSet (body : List Byte) : Option Request :=
  match readFields [1, 1] body with
  | some [cls, 0] => some (.classSet cls none)
  | _ =>
    match readFields classWidths body with
    | some [cls, 1, ecls, tref, tb, tmax, doseMin, hasMax, doseMax, pitchTol] =>
      (flag? hasMax).map fun p =>
        .classSet cls (some { ecls := ecls, tref := tref, tb := tb, tmax := tmax, doseMin := doseMin,
                              doseMax := present p doseMax, pitchTol := pitchTol })
    | _ => none

/-- R50: the body of ORDER-ADD. -/
def orderWidths : List Nat := [2, 1, 1, 2, 2, 1, 1, 1, 1, 1, 2, 1]

def decodeOrderAdd (body : List Byte) : Option Request :=
  match readFields orderWidths body with
  | some [tag, slot, cls, grade, panels, prefCount, pref1, pref2, pref3, policy, foldLimit, verify] =>
    (flag? verify).map fun v =>
      .orderAdd { tag := tag, slot := slot, cls := cls, grade := grade, panels := panels,
                  prefCount := prefCount, pref1 := pref1, pref2 := pref2, pref3 := pref3,
                  seamPolicy := policy, foldLimit := foldLimit, verifyRequired := v }
  | _ => none

/-- R80: the body of SEG-STAGE. -/
def stageWidths : List Nat := [1, 1, 1, 1, 2, 1, 2, 1, 2, 1, 1]

def decodeSegStage (body : List Byte) : Option Request :=
  match readFields stageWidths body with
  | some [mask, p1, engage, p2, depth, p3, feed, p4, tension, p5, verify] =>
    match flag? p1, flag? engage, flag? p2, flag? p3, flag? p4, flag? p5, flag? verify with
    | some h1, some e, some h2, some h3, some h4, some h5, some v =>
      some (.segStage mask { engage := present h1 e, depthTrim := present h2 (signed16 depth),
                             feedTrim := present h3 (signed16 feed), tensionLimit := present h4 tension,
                             verify := present h5 v })
    | _, _, _, _, _, _, _ => none
  | _ => none

/-- R120: the body of a SPLICE-SET write. -/
def spliceWidths : List Nat := [1, 4, 4, 4, 1, 1, 1, 1, 2]

def decodeSpliceSet (body : List Byte) : Option Request :=
  match readFields spliceWidths body with
  | some [mode, trigger, clearance, tailReserve, ceiling, debounce, polarity, confirm, sbNeed] =>
    some (.spliceSet (some { mode := mode, trigger := trigger, clearance := clearance,
                             tailReserve := tailReserve, ceiling := ceiling, debounce := debounce,
                             polarity := polarity, confirm := confirm, sbNeed := sbNeed }))
  | _ => if body = [] then some (.spliceSet none) else none

/-- R7: the body of a LINE-GEOMETRY write. -/
def geometryWidths : List Nat := [4, 4, 2, 4, 4, 4, 4, 4, 4, 4, 4, 4, 2]

def decodeGeometry (body : List Byte) : Option Request :=
  match readFields geometryWidths body with
  | some [seamPath, detectPath, verifyDist, a1, b1, a2, b2, a3, b3, a4, b4, outletDist, panelGap] =>
    some (.lineGeometry (some { seamPath := seamPath, detectPath := detectPath, verifyDist := verifyDist,
                                zones := ⟨⟨a1, b1⟩, ⟨a2, b2⟩, ⟨a3, b3⟩, ⟨a4, b4⟩⟩,
                                outletDist := outletDist, panelGap := panelGap }))
  | _ => if body = [] then some (.lineGeometry none) else none

/-- R138: the body of ZONE-SET. -/
def decodeZoneSet (body : List Byte) : Option Request :=
  match readFields [1] body, readFields [1, 2, 2, 1] body with
  | some [zone], _ => some (.zoneSet zone none)
  | _, some [zone, sp, standby, kp] =>
    some (.zoneSet zone (some { sp := sp, standby := standby, kp := kp }))
  | _, _ => none

/-- R144: the body of STEAM-SET. -/
def decodeSteamSet (body : List Byte) : Option Request :=
  match readFields [2, 2, 2, 2, 2, 1] body with
  | some [sb, z1, z2, z3, z4, limit] =>
    some (.steamSet (some { reservations := ⟨sb, z1, z2, z3, z4⟩, stallLimit := limit }))
  | _ => if body = [] then some (.steamSet none) else none

/-- R175: the body of OUTLET-SET. -/
def decodeOutletSet (body : List Byte) : Option Request :=
  match readFields [1, 1] body with
  | some [outlet, capacity] => some (.outletSet (some { outlet := outlet, capacity := capacity }))
  | _ => if body = [] then some (.outletSet none) else none

/-- R168: the body of VERIFY-SET. -/
def decodeVerifySet (body : List Byte) : Option Request :=
  match readFields [2, 1, 1] body with
  | some [window, action, period] =>
    some (.verifySet (some { window := window, action := action, period := period }))
  | _ => if body = [] then some (.verifySet none) else none

/-- R196: the body of MASK-SET. -/
def decodeMaskSet (body : List Byte) : Option Request :=
  match readFields [6] body with
  | some [m] => some (.maskSet (some (BitVec.ofNat 48 m)))
  | _ => if body = [] then some (.maskSet none) else none

/-- R115: the body of ROLL-LOAD. -/
def decodeRollLoad (body : List Byte) : Option Request :=
  match readFields [1, 4, 1, 4] body with
  | some [spindle, rollId, cls, length] => some (.rollLoad spindle rollId cls length)
  | _ => none

/-- A body of one number of `w` bytes. -/
def decodeOne (w : Nat) (f : Nat → Request) (body : List Byte) : Option Request :=
  match readFields [w] body with
  | some [a] => some (f a)
  | _ => none

/-- A body of two numbers. -/
def decodeTwo (w v : Nat) (f : Nat → Nat → Request) (body : List Byte) : Option Request :=
  match readFields [w, v] body with
  | some [a, b] => some (f a b)
  | _ => none

/-- An empty body. -/
def decodeEmpty (r : Request) (body : List Byte) : Option Request := if body = [] then some r else none

/-- What a KIND and a BODY ask for (R188 tests 4 and 5). -/
inductive Asked where
  | unknown
  | misshapen
  | request (r : Request)
deriving DecidableEq, Repr

/-- R188, R190: a body of the right size and shape, or FORMAT. -/
def Asked.ofBody : Option Request → Asked
  | some r => .request r
  | none => .misshapen

/-- R188: what a frame's KIND and BODY ask for. -/
def decodeRequest (kind : Byte) (body : List Byte) : Asked :=
  match kind.toNat with
  | 0x01 => .ofBody (decodePattern body)
  | 0x02 => .ofBody (decodeOne 1 .patDrop body)
  | 0x03 => .ofBody (decodeOne 1 .patRead body)
  | 0x04 => .ofBody (decodeClassSet body)
  | 0x05 => .ofBody (decodeOne 1 .classRead body)
  | 0x08 => .ofBody (decodeOrderAdd body)
  | 0x09 => .ofBody (decodeTwo 2 1 .orderCancel body)
  | 0x0A => .ofBody (decodeEmpty .orderList body)
  | 0x10 => .ofBody (decodeSegStage body)
  | 0x11 => .ofBody (decodeTwo 1 1 .segApply body)
  | 0x12 => .ofBody (decodeOne 1 .segClear body)
  | 0x13 => .ofBody (decodeOne 1 .segRead body)
  | 0x18 => .ofBody (decodeRollLoad body)
  | 0x19 => .ofBody (decodeOne 1 .rollRemove body)
  | 0x1A => .ofBody (decodeSpliceSet body)
  | 0x1B => .ofBody (decodeOne 1 .spliceResolve body)
  | 0x20 => .ofBody (decodeEmpty .lineRun body)
  | 0x21 => .ofBody (decodeOne 1 .lineStop body)
  | 0x22 => .ofBody (decodeEmpty .lineHold body)
  | 0x23 => .ofBody (decodeEmpty .lineRelease body)
  | 0x24 => .ofBody (decodeOne 1 .lineRate body)
  | 0x25 => .ofBody (decodeGeometry body)
  | 0x26 => .ofBody (decodeEmpty .lineReset body)
  | 0x28 => .ofBody (decodeZoneSet body)
  | 0x29 => .ofBody (decodeSteamSet body)
  | 0x2A => .ofBody (decodeOutletSet body)
  | 0x2B => .ofBody (decodeTwo 1 2 .outletUnload body)
  | 0x2C => .ofBody (decodeVerifySet body)
  | 0x30 => .ofBody (decodeOne 4 .readTrack body)
  | 0x31 => .ofBody (decodeOne 4 .readExits body)
  | 0x32 => .ofBody (decodeEmpty .readCounters body)
  | 0x33 => .ofBody (decodeEmpty .readStatus body)
  | 0x34 => .ofBody (decodeEmpty .readFlags body)
  | 0x38 => .ofBody (decodeMaskSet body)
  | _ => .unknown

/-! ## The encoder -/

def encodeStep : PatStep → List Byte
  | .pleat count form sp dw dh locked =>
    0#8 :: writeFields [(2, count), (1, form), (2, sp), (2, dw), (2, dh), (1, flagNumber locked)]
  | .flat length => 1#8 :: writeFields [(4, length)]

/-- The fields of an optional item of `w` bytes. -/
def optionFields (w : Nat) (v : Option Nat) : List (Nat × Nat) :=
  [(1, flagNumber v.isSome), (w, v.getD 0)]

def encodeClass (c : FabricClass) : List (Nat × Nat) :=
  [(2, c.ecls), (2, c.tref), (2, c.tb), (2, c.tmax), (4, c.doseMin)] ++ optionFields 4 c.doseMax
    ++ [(2, c.pitchTol)]

def encodeOrder (o : OrderBody) : List (Nat × Nat) :=
  [(2, o.tag), (1, o.slot), (1, o.cls), (2, o.grade), (2, o.panels), (1, o.prefCount), (1, o.pref1),
    (1, o.pref2), (1, o.pref3), (1, o.seamPolicy), (2, o.foldLimit), (1, flagNumber o.verifyRequired)]

def encodeStage (b : StageBody) : List (Nat × Nat) :=
  optionFields 1 (b.engage.map flagNumber) ++ optionFields 2 (b.depthTrim.map unsigned16)
    ++ optionFields 2 (b.feedTrim.map unsigned16) ++ optionFields 2 b.tensionLimit
    ++ optionFields 1 (b.verify.map flagNumber)

def encodeSplice (b : SpliceBody) : List (Nat × Nat) :=
  [(1, b.mode), (4, b.trigger), (4, b.clearance), (4, b.tailReserve), (1, b.ceiling), (1, b.debounce),
    (1, b.polarity), (1, b.confirm), (2, b.sbNeed)]

def encodeSpan (z : Span) : List (Nat × Nat) := [(4, z.start), (4, z.stop)]

def encodeGeometry (g : Geometry) : List (Nat × Nat) :=
  [(4, g.seamPath), (4, g.detectPath), (2, g.verifyDist)] ++ encodeSpan g.zones.z1 ++ encodeSpan g.zones.z2
    ++ encodeSpan g.zones.z3 ++ encodeSpan g.zones.z4 ++ [(4, g.outletDist), (2, g.panelGap)]

/-- R190: the BODY of a request. -/
def Request.body : Request → List Byte
  | .patDefine slot steps =>
    writeFields [(1, slot), (1, steps.length)] ++ steps.flatMap encodeStep
  | .patDrop slot => writeFields [(1, slot)]
  | .patRead slot => writeFields [(1, slot)]
  | .classSet cls none => writeFields [(1, cls), (1, 0)]
  | .classSet cls (some c) => writeFields ([(1, cls), (1, 1)] ++ encodeClass c)
  | .classRead cls => writeFields [(1, cls)]
  | .orderAdd o => writeFields (encodeOrder o)
  | .orderCancel order mode => writeFields [(2, order), (1, mode)]
  | .orderList => []
  | .segStage mask b => writeFields ((1, mask) :: encodeStage b)
  | .segApply mask mode => writeFields [(1, mask), (1, mode)]
  | .segClear mask => writeFields [(1, mask)]
  | .segRead mask => writeFields [(1, mask)]
  | .rollLoad spindle rollId cls length =>
    writeFields [(1, spindle), (4, rollId), (1, cls), (4, length)]
  | .rollRemove spindle => writeFields [(1, spindle)]
  | .spliceSet none => []
  | .spliceSet (some b) => writeFields (encodeSplice b)
  | .spliceResolve action => writeFields [(1, action)]
  | .lineRun => []
  | .lineStop mode => writeFields [(1, mode)]
  | .lineHold => []
  | .lineRelease => []
  | .lineRate rate => writeFields [(1, rate)]
  | .lineGeometry none => []
  | .lineGeometry (some g) => writeFields (encodeGeometry g)
  | .lineReset => []
  | .zoneSet zone none => writeFields [(1, zone)]
  | .zoneSet zone (some b) => writeFields [(1, zone), (2, b.sp), (2, b.standby), (1, b.kp)]
  | .steamSet none => []
  | .steamSet (some b) =>
    writeFields [(2, b.reservations.sb), (2, b.reservations.z1), (2, b.reservations.z2),
      (2, b.reservations.z3), (2, b.reservations.z4), (1, b.stallLimit)]
  | .outletSet none => []
  | .outletSet (some b) => writeFields [(1, b.outlet), (1, b.capacity)]
  | .outletUnload outlet count => writeFields [(1, outlet), (2, count)]
  | .verifySet none => []
  | .verifySet (some b) => writeFields [(2, b.window), (1, b.action), (1, b.period)]
  | .readTrack start => writeFields [(4, start)]
  | .readExits start => writeFields [(4, start)]
  | .readCounters => []
  | .readStatus => []
  | .readFlags => []
  | .maskSet none => []
  | .maskSet (some m) => writeFields [(6, m.toNat)]

end Sys2Proof
end

