-- ==== Sys2Proof/Machine/SegRequests.lean ====
section
/-! DEFINITION. The segment controls' requests (R80, R81, R91, R93). -/

namespace Sys2Proof.Machine

/-- An integer lies in `lo..hi`. -/
def inRangeInt (lo hi v : Int) : Bool := decide (lo ≤ v) && decide (v ≤ hi)

/-- An absent item passes every test. -/
def absentOr {α : Type} (p : α → Bool) : Option α → Bool
  | some x => p x
  | none => true

/-- R80: every present value lies in its range (Table 5.1.1). -/
def stageValid (b : StageBody) : Bool :=
  absentOr (inRangeInt (-300) 300) b.depthTrim && absentOr (inRangeInt (-2000) 2000) b.feedTrim
    && absentOr (inRange 100 4095) b.tensionLimit

/-- R80: the present values replace the staged ones. -/
def SegSettings.stage (b : StageBody) (g : SegSettings) : SegSettings where
  engage := b.engage.getD g.engage
  depthTrim := b.depthTrim.getD g.depthTrim
  feedTrim := b.feedTrim.getD g.feedTrim
  tensionLimit := b.tensionLimit.getD g.tensionLimit
  verify := b.verify.getD g.verify

/-- R80: the present values are written into one segment's staged set. -/
def State.stageSeg (b : StageBody) (s : State) (i : Fin 6) : State :=
  let g := s.segs.get i
  s.setSeg i { g with staged := g.staged.stage b }

/-- R80: the staged sets of the segments of a mask. -/
def stagedItems (mask : Nat) (s : State) : List Byte :=
  segmentList 8 (fun i => settingItems (s.segs.get i).staged) mask

/-- R80: SEG-STAGE. -/
def State.reqSegStage (mask : Nat) (b : StageBody) (s : State) : State × Answer :=
  if !maskOk mask || !stageValid b then refused .range s
  else answered .ok (stagedItems mask) ((maskSegs mask).foldl (State.stageSeg b) s)

/-! ## SEG-APPLY -/

/-- R81: what becomes of one segment of the mask. -/
inductive ApplyOutcome where
  | ignored | rejFaulted | rejNotNow
  | copy (mode : ApplyMode)
deriving DecidableEq, Repr

/-- R81: the tests of one segment, in order. -/
def Segment.applyOutcome (m : ApplyMode) (g : Segment) : ApplyOutcome :=
  if g.status.busy || decide (g.state = .engaging) || decide (g.state = .parking) then .ignored
  else if g.state = .faulted then .rejFaulted
  else if m = .now && (decide (g.staged.engage ≠ g.active.engage) || decide (g.staged.verify ≠ g.active.verify))
    then .rejNotNow
  else .copy m

/-- The line stands still for a copy: IDLE, WAITING or HELD. -/
def LineState.standing : LineState → Bool
  | .idle | .waiting | .held => true
  | .running | .holding | .draining | .estop => false

/-- R83, R84: a copy is carried out at once. -/
def State.copyAtOnce (m : ApplyMode) (s : State) : Bool :=
  s.seq.line.standing &&
    (match m with
      | .now => s.seq.step.isNone
      | .boundary => s.atPanelBoundary)

/-- R81: one segment's outcome. A BOUNDARY copy carried out at once is carried out with the others of the
request (R85). -/
def State.applySeg (m : ApplyMode) (atOnce : Bool) (s : State) (i : Fin 6) : State :=
  match (s.segs.get i).applyOutcome m with
  | .ignored => s
  | .rejFaulted => s.setStatus i .rejFaulted
  | .rejNotNow => s.setStatus i .rejNotNow
  | .copy .now => if atOnce then s.nowCopy i else s.setWaiting i .now
  | .copy .boundary => if atOnce then s else s.setWaiting i .boundary

/-- The segments of a mask with a given outcome. -/
def State.segsWith (mask : Nat) (m : ApplyMode) (p : ApplyOutcome → Bool) (s : State) : List (Fin 6) :=
  (maskSegs mask).filter fun i => p ((s.segs.get i).applyOutcome m)

/-- A copy is set waiting or carried out. -/
def ApplyOutcome.isCopy : ApplyOutcome → Bool
  | .copy _ => true
  | .ignored | .rejFaulted | .rejNotNow => false

/-- The request of the segment is ignored. -/
def ApplyOutcome.isIgnored : ApplyOutcome → Bool
  | .ignored => true
  | .copy _ | .rejFaulted | .rejNotNow => false

/-- R81: what an accepted SEG-APPLY does to the segments of its mask. -/
def State.applyAll (mask : Nat) (m : ApplyMode) (s : State) : State :=
  let atOnce := s.copyAtOnce m
  let copies := s.segsWith mask m ApplyOutcome.isCopy
  let t := (maskSegs mask).foldl (State.applySeg m atOnce) s
  match m, atOnce with
  | .boundary, true => t.boundaryCopies copies
  | _, _ => t

/-- R57a: a copy of the request was carried out: some segment of it is DONE or IN_PROGRESS. -/
def State.someCopied (is : List (Fin 6)) (s : State) : Bool :=
  is.any fun i => decide ((s.segs.get i).status = .done) || decide ((s.segs.get i).status = .inProgress)

/-- R81: the config statuses of the segments of a mask. -/
def statusItemsOf (mask : Nat) (s : State) : List Byte :=
  segmentList 1 (fun i => u8 (s.segs.get i).status.byte) mask

/-- A segment mask byte from a list of segments. -/
def maskByte (is : List (Fin 6)) : Nat := segMask (Six.tabulate fun i => decide (i ∈ is))

/-- R81 to R85: SEG-APPLY. -/
def State.reqSegApply (mask mode : Nat) (s : State) : State × Answer :=
  match applyModeOf? mode with
  | none => refused .range s
  | some m =>
    if !maskOk mask then refused .range s
    else if s.seq.line = .estop then refused .state s
    else
      let ignored := s.segsWith mask m ApplyOutcome.isIgnored
      let t := s.applyAll mask m
      let t := if t.someCopied (s.segsWith mask m ApplyOutcome.isCopy) then State.reevaluateSince s t else t
      if ignored.isEmpty then answered .ok (statusItemsOf mask) t
      else answered .partial_ (fun s => u8 (maskByte ignored) ++ statusItemsOf mask s) t

/-! ## SEG-CLEAR and SEG-READ -/

/-- R91: one segment of the mask is cleared, where it is FAULTED. -/
def State.clearSeg (s : State) (i : Fin 6) : State :=
  if (s.segs.get i).state = .faulted then (s.setDrive i .park).setSegState i .parking else s

/-- R91: the mask of the segments cleared, and the state of every segment in the request's mask. -/
def clearItems (cleared : List (Fin 6)) (mask : Nat) (s : State) : List Byte :=
  u8 (maskByte cleared) ++ segmentList 1 (fun i => u8 (s.segs.get i).state.byte) mask

/-- R91: FAULT leaves the hold requester set where no segment is FAULTED. -/
def State.releaseFault (s : State) : State :=
  if s.someFaulted then s else s.releaseHold fun h => { h with fault := false }

/-- R91: SEG-CLEAR. -/
def State.reqSegClear (mask : Nat) (s : State) : State × Answer :=
  if !maskOk mask then refused .range s
  else if s.seq.line = .estop then refused .state s
  else
    let cleared := (maskSegs mask).filter fun i => decide ((s.segs.get i).state = .faulted)
    let t := (maskSegs mask).foldl State.clearSeg s
    answered .ok (clearItems cleared mask) (if cleared.isEmpty then t else State.reevaluateSince s t.releaseFault)

/-- R93: SEG-READ. -/
def State.reqSegRead (mask : Nat) (s : State) : State × Answer :=
  if !maskOk mask then refused .range s
  else answered .ok (fun s => segmentList 25 (segmentItems s) mask) s

/-! ## The commands -/

/-- SEG-STAGE, kind 10H. -/
def execSegStage (tag : Byte) (mask : Nat) (fields : StageBody) (s : State) :
    Host.Outcome State Fault Refusal :=
  (s.takeRequest 0x10#8 tag (State.reqSegStage mask fields)).finish

/-- SEG-APPLY, kind 11H. -/
def execSegApply (tag : Byte) (mask mode : Nat) (s : State) : Host.Outcome State Fault Refusal :=
  (s.takeRequest 0x11#8 tag (State.reqSegApply mask mode)).finish

/-- SEG-CLEAR, kind 12H. -/
def execSegClear (tag : Byte) (mask : Nat) (s : State) : Host.Outcome State Fault Refusal :=
  (s.takeRequest 0x12#8 tag (State.reqSegClear mask)).finish

/-- SEG-READ, kind 13H. -/
def execSegRead (tag : Byte) (mask : Nat) (s : State) : Host.Outcome State Fault Refusal :=
  (s.takeRequest 0x13#8 tag (State.reqSegRead mask)).finish

end Sys2Proof.Machine
end

