-- ==== Sys2Proof/Machine/LineRequests.lean ====
section
/-! DEFINITION. The line's requests: LINE-RUN, LINE-STOP, LINE-HOLD, LINE-RELEASE, LINE-RATE and LINE-RESET
(R55 to R57, R62, R78 and each block's part of the reset). -/

namespace Sys2Proof.Machine

/-- A request answered OK without items. -/
def okBare (s : State) : State × Answer := (s, Answer.bare .ok)

/-! ## Run, stop, hold, release -/

/-- R55: how an accepted LINE-RUN takes the line out of IDLE. The line counts as IDLE until its panel start has
started the panel or made it wait (log 31). -/
def State.runLine (s : State) : State :=
  if s.seq.hold.nonEmpty then s.enterHeld
  else if s.atPanelStart then s.panelStart
  else (s.enter .running).resume

/-- R55: LINE-RUN is accepted in IDLE, with an ACTIVE spindle record and a READY segment. -/
def State.mayRun (s : State) : Bool :=
  decide (s.seq.line = .idle) && s.rcc.activeRoll.isSome
    && s.segs.any (fun g => decide (g.state = .ready))

/-- R55: LINE-RUN. -/
def State.reqLineRun (s : State) : State × Answer :=
  if s.mayRun then okBare s.runLine else refused .state s

/-- Set the stop pending indication. -/
def State.setStop (x : StopPending) (s : State) : State := s.setSeq fun q => { q with stop := x }

/-- R57: a stop pending END_OF_PANEL joins, unless NOW is pending. -/
def State.joinEndOfPanel (s : State) : State :=
  if s.seq.stop = .now then s else s.setStop .endOfPanel

/-- R57: LINE-STOP NOW. -/
def State.stopNow (s : State) : State :=
  match s.seq.line with
  | .waiting | .held => s.enterIdle
  | .running | .draining => (s.setStop .now).enterHolding
  | .holding => s.setStop .now
  | .idle | .estop => s

/-- R57: LINE-STOP END_OF_PANEL. A line that stands at a panel boundary, its gap waiting for the pace timer,
is drained at once. -/
def State.stopAtEnd (s : State) : State :=
  match s.seq.line with
  | .waiting => s.enterIdle
  | .running =>
    let t := (s.setStop .endOfPanel).enter .draining
    if t.atPanelBoundary then t.enterIdle else t
  | .holding | .held => s.joinEndOfPanel
  | .draining | .idle | .estop => s

/-- R57: LINE-STOP. -/
def State.reqLineStop (mode : Nat) (s : State) : State × Answer :=
  match stopModeOf? mode with
  | none => refused .range s
  | some m =>
    if s.seq.line = .estop then refused .state s
    else match m with
      | .now => okBare s.stopNow
      | .endOfPanel => okBare s.stopAtEnd
      | .none => okBare s

/-- R56: LINE-HOLD adds HOST. -/
def State.reqLineHold (s : State) : State × Answer := okBare (s.addHold fun h => { h with host := true })

/-- R56: LINE-RELEASE removes HOST. -/
def State.reqLineRelease (s : State) : State × Answer :=
  okBare (s.releaseHold fun h => { h with host := false })

/-- R62: the base rate and the effective rate computed from it and the two ceilings. -/
def rateItems (s : State) : List Byte := u8 s.seq.baseRate ++ u8 s.effectiveRate

/-- R62: LINE-RATE. -/
def State.reqLineRate (rate : Nat) (s : State) : State × Answer :=
  if inRange 20 240 rate then answered .ok rateItems (s.setSeq fun q => { q with baseRate := rate })
  else answered .range rateItems s

/-! ## Reset -/

/-- R78: the orders after a reset: the head order's started count is lowered where a record was FORMING, and
every order with a cancel pending is removed. -/
def State.resetOrders (s : State) : State :=
  let orders := match s.orders with
    | o :: rest => (if s.forming?.isSome then { o with started := o.started - 1 } else o) :: rest
    | [] => []
  let kept := orders.filter (fun o => decide (o.cancel = .none))
  let s' := { s with orders := kept }
  if kept.length < orders.length then s'.raise .orderDone else s'

/-- R48, R184: the web track is emptied, with the credits and the exit list. -/
def State.resetTrack (s : State) : State :=
  { s with
    track := []
    outlets := { s.outlets with
      stackA := { s.outlets.stackA with reserved := 0 }
      stackB := { s.outlets.stackB with reserved := 0 }
      rewind := { s.outlets.rewind with reserved := 0 }
      exits := [] } }

/-- R171: one checker at a reset; LOCK_n is raised for one that was LOCKED. -/
def State.resetChecker (s : State) (i : Fin 6) : State :=
  let k := s.verify.checkers.get i
  let s' := s.setChecker i
    { k with locked := false, run := 0, matched := 0, outOfTol := 0, missing := 0, extra := 0 }
  if k.locked then s'.raise (.lock i) else s'

/-- R156: the steam allocator at a reset. -/
def State.resetSteam (s : State) : State :=
  (s.setSteam fun a => { a with
    starved := Four.fill 0, satisfied := 0, stallTimer := none, stalled := false }).setCeiling 100

/-- R136: the roll change controller at a reset. -/
def RollChange.reset (r : RollChange) : RollChange :=
  let r := r.mapSpindles Spindle.spend
  { r with
    tailTimer := false
    spindleCommand := none
    matchTimer := false
    confirmTimer := none
    detectPoint := none
    slotRequest := false
    firePoint := none
    pressDue := none
    unconfirmed := none
    seams := []
    splice := r.rest }

/-- R78: the sequencer's own items at a reset; `active` says that a spindle is ACTIVE and `faulted` that a
segment is FAULTED. -/
def Seq.reset (active faulted : Bool) (q : Seq) : Seq :=
  { q with
    hold := ⟨false, false, q.hold.rollOut && !active, q.hold.fault && faulted⟩
    stop := .none
    inhibits := Inhibits.empty
    pace := .stopped
    step := none
    gap := none
    kept := none
    plan := none
    backoffs := 0 }

/-- R78: the line enters IDLE, except that it stays in ESTOP. -/
def State.resetLine (s : State) : State := if s.seq.line = .estop then s else s.enter .idle

/-- The feed metering unit drops the lists of the step dropped; the carries and samples are kept (R96,
Table 6.1.2). -/
def State.dropFeeds (s : State) : State := { s with fmu := s.fmu.map FeedSeg.outOfStep }

/-- R78 with the parts of R48, R95, R136, R156, R171, R184 and R194: an accepted LINE-RESET. -/
def State.lineReset (s : State) : State :=
  let s := s.resetOrders.resetTrack.emptyFolds
  let s := segIndices.foldl State.resetChecker s
  let s := (s.resetSteam.setRcc RollChange.reset).evalStandby
  let s := s.setSeq (Seq.reset s.rcc.activeRoll.isSome s.someFaulted)
  let s := s.resetLine.dropFeeds
  (segIndices.foldl State.resetSeg s).raise .resetDone

/-- R78: LINE-RESET. -/
def State.reqLineReset (s : State) : State × Answer :=
  match s.seq.line with
  | .idle | .held | .estop => okBare s.lineReset
  | .waiting | .running | .holding | .draining => refused .state s

/-! ## The commands -/

/-- LINE-RUN, kind 20H. -/
def execLineRun (tag : Byte) (s : State) : Host.Outcome State Fault Refusal :=
  (s.takeRequest 0x20#8 tag State.reqLineRun).finish

/-- LINE-STOP, kind 21H. -/
def execLineStop (tag : Byte) (mode : Nat) (s : State) : Host.Outcome State Fault Refusal :=
  (s.takeRequest 0x21#8 tag (State.reqLineStop mode)).finish

/-- LINE-HOLD, kind 22H. -/
def execLineHold (tag : Byte) (s : State) : Host.Outcome State Fault Refusal :=
  (s.takeRequest 0x22#8 tag State.reqLineHold).finish

/-- LINE-RELEASE, kind 23H. -/
def execLineRelease (tag : Byte) (s : State) : Host.Outcome State Fault Refusal :=
  (s.takeRequest 0x23#8 tag State.reqLineRelease).finish

/-- LINE-RATE, kind 24H. -/
def execLineRate (tag : Byte) (rate : Nat) (s : State) : Host.Outcome State Fault Refusal :=
  (s.takeRequest 0x24#8 tag (State.reqLineRate rate)).finish

/-- LINE-RESET, kind 26H. -/
def execLineReset (tag : Byte) (s : State) : Host.Outcome State Fault Refusal :=
  (s.takeRequest 0x26#8 tag State.reqLineReset).finish

end Sys2Proof.Machine
end

