-- ==== Sys2Proof/Machine/Reads.lean ====
section
/-! DEFINITION. The reading requests and MASK-SET (R46, R170, R183, R195 to R197). -/

namespace Sys2Proof.Machine

/-- R46: the records READ-TRACK may return, from a starting panel number. -/
def State.trackFrom (start : Nat) (s : State) : List Panel := s.track.dropWhile (fun p => decide (p.number < start))

/-- R46: a READ-TRACK reply. -/
def trackItems (start : Nat) (s : State) : List Byte :=
  u8 s.track.length ++ u64 s.conv ++ shortList panelBytes ((s.trackFrom start).take 12)
    ++ yesNo (decide (12 < (s.trackFrom start).length))

/-- R46: READ-TRACK. -/
def State.reqReadTrack (start : Nat) (s : State) : State × Answer := answered .ok (trackItems start) s

/-- R183: the records READ-EXITS may return, from a starting exit number. -/
def State.exitsFrom (start : Nat) (s : State) : List ExitRecord :=
  s.outlets.exits.dropWhile (fun x => decide (x.number < start))

/-- R183: a READ-EXITS reply. -/
def exitItems (start : Nat) (s : State) : List Byte :=
  u8 s.outlets.exits.length ++ u32 s.outlets.nextExit ++ u16 s.outlets.skipped
    ++ shortList exitBytes ((s.exitsFrom start).take 8) ++ yesNo (decide (8 < (s.exitsFrom start).length))

/-- R183: READ-EXITS. -/
def State.reqReadExits (start : Nat) (s : State) : State × Answer := answered .ok (exitItems start) s

/-- R170: READ-COUNTERS. -/
def State.reqReadCounters (s : State) : State × Answer := answered .ok counterItems s

/-- R197: READ-STATUS. -/
def State.reqReadStatus (s : State) : State × Answer := answered .ok statusItems s

/-- R195: READ-FLAGS answers the flag set and clears every flag. -/
def State.reqReadFlags (s : State) : State × Answer :=
  (s.setLink fun l => { l with flags := 0#48 }, ⟨.ok, flagBytes s.link.flags⟩)

/-- R196: the mask set. -/
def maskItems (s : State) : List Byte := flagBytes s.link.masks

/-- R196: MASK-SET. -/
def State.reqMaskSet (masks : Option (BitVec 48)) (s : State) : State × Answer :=
  match masks with
  | none => answered .ok maskItems s
  | some m => answered .ok maskItems (s.setLink fun l => { l with masks := m })

/-! ## The commands -/

/-- READ-TRACK, kind 30H. -/
def execReadTrack (tag : Byte) (start : Nat) (s : State) : Host.Outcome State Fault Refusal :=
  (s.takeRequest 0x30#8 tag (State.reqReadTrack start)).finish

/-- READ-EXITS, kind 31H. -/
def execReadExits (tag : Byte) (start : Nat) (s : State) : Host.Outcome State Fault Refusal :=
  (s.takeRequest 0x31#8 tag (State.reqReadExits start)).finish

/-- READ-COUNTERS, kind 32H. -/
def execReadCounters (tag : Byte) (s : State) : Host.Outcome State Fault Refusal :=
  (s.takeRequest 0x32#8 tag State.reqReadCounters).finish

/-- READ-STATUS, kind 33H. -/
def execReadStatus (tag : Byte) (s : State) : Host.Outcome State Fault Refusal :=
  (s.takeRequest 0x33#8 tag State.reqReadStatus).finish

/-- READ-FLAGS, kind 34H. -/
def execReadFlags (tag : Byte) (s : State) : Host.Outcome State Fault Refusal :=
  (s.takeRequest 0x34#8 tag State.reqReadFlags).finish

/-- MASK-SET, kind 38H. -/
def execMaskSet (tag : Byte) (masks : Option (BitVec 48)) (s : State) : Host.Outcome State Fault Refusal :=
  (s.takeRequest 0x38#8 tag (State.reqMaskSet masks)).finish

end Sys2Proof.Machine
end

