-- ==== Sys2Proof/Machine/RollRequests.lean ====
section
/-! DEFINITION. The roll change controller's requests (R115, R116, R120, R131). -/

namespace Sys2Proof.Machine

/-! ## ROLL-LOAD and ROLL-REMOVE -/

/-- R115: a roll's length is allowed with the splice trigger in force. -/
def lengthOk (trigger length : Nat) : Bool :=
  inRange 1000000 4000000000 length && decide (trigger + 1000000 ≤ length)

/-- R115: the class of the loaded roll equals the head order's, or none where the queue is empty. -/
def State.matchesHead (cls : Nat) (s : State) : Option Bool :=
  match s.orders with
  | o :: _ => some (decide (o.cls = cls))
  | [] => none

/-- R115: both spindle records, and the class answer as an optional yes/no item (log 7). -/
def loadItems (cls : Nat) (s : State) : List Byte :=
  spindlesItems s ++ optNum 1 ((s.matchesHead cls).map fun b => if b then 1 else 0)

/-- R115, R121: a loaded roll fills its record, ACTIVE where no spindle is; a roll that becomes STANDBY
moves the splice from IDLE to ARMED. -/
def State.fillSpindle (n : SpindleName) (roll : Roll) (s : State) : State :=
  match s.rcc.activeRoll with
  | none => s.setRcc (RollChange.setSpindle n (.active roll))
  | some _ => s.setRcc fun r =>
    { r.setSpindle n (.standby roll) with splice := if r.splice = .idle then .armed else r.splice }

/-- R115: what an accepted load does. -/
def State.loadRoll (n : SpindleName) (roll : Roll) (s : State) : State :=
  let t := (s.fillSpindle n roll).evalStandby.triggerTest
  let t := if s.rcc.activeRoll.isNone then t.releaseHold fun h => { h with rollOut := false } else t
  State.reevaluateSince s t

/-- R115: ROLL-LOAD. -/
def State.reqRollLoad (spindle rollId cls length : Nat) (s : State) : State × Answer :=
  if !decide (cls < 16) || (s.class? cls).isNone then refused .range s
  else match spindleOf? spindle with
    | none => refused .range s
    | some n =>
      if !lengthOk s.rcc.settings.trigger length then refused .range s
      else if s.rcc.spindle n ≠ .empty then refused .state s
      else answered .ok (loadItems cls) (s.loadRoll n ⟨rollId, cls, length, length⟩)

/-- The splice is in progress or missed. -/
def SpliceState.underWay : SpliceState → Bool
  | .preparing | .slotted | .pressing | .missed _ => true
  | .idle | .armed => false

/-- R116 test 4: the ACTIVE roll may be removed. -/
def State.mayRemoveActive (s : State) : Bool :=
  match s.seq.line with
  | .idle | .estop => true
  | .held => s.seq.hold.rollOut
  | .waiting | .running | .holding | .draining => false

/-- R116 tests 2 to 4: the record may be emptied. -/
def State.mayRemove (s : State) : Spindle → Bool
  | .empty | .expiring _ => false
  | .standby _ => !s.rcc.splice.underWay
  | .active _ => !s.rcc.splice.underWay && s.mayRemoveActive
  | .spent _ => true

/-- R116: the record becomes EMPTY; the removal of the STANDBY roll returns an ARMED splice to IDLE. R119's evaluation
follows, and may raise STANDBY_NEEDED (log 27). -/
def State.removeRoll (n : SpindleName) (s : State) : State :=
  let t := s.setRcc fun r =>
    { r.setSpindle n .empty with
      splice := if (r.spindle n).standby?.isSome && decide (r.splice = .armed) then .idle else r.splice }
  State.reevaluateSince s t.evalStandby

/-- R116: ROLL-REMOVE. -/
def State.reqRollRemove (spindle : Nat) (s : State) : State × Answer :=
  match spindleOf? spindle with
  | none => refused .range s
  | some n =>
    if s.mayRemove (s.rcc.spindle n) then answered .ok spindlesItems (s.removeRoll n)
    else refused .state s

/-! ## SPLICE-SET -/

/-- R120, Table 7.3.1: the settings a body makes, when every setting lies in its values and the tail reserve
is less than the trigger. -/
def spliceSettingsOf? (b : SpliceBody) : Option SpliceSettings :=
  match spliceModeOf? b.mode, debounceOf? b.debounce, polarityOf? b.polarity, confirmOf? b.confirm with
  | some mode, some debounce, some rising, some confirm =>
    if inRange 200000 2000000 b.trigger && inRange 2000 100000 b.clearance
        && inRange 20000 500000 b.tailReserve && inRange 30 100 b.ceiling && decide (b.sbNeed ≤ 1000)
        && decide (b.tailReserve < b.trigger) then
      some { mode := mode, trigger := b.trigger, clearance := b.clearance, tailReserve := b.tailReserve,
             ceiling := b.ceiling, debounce := debounce, rising := rising, confirm := confirm,
             sbNeed := b.sbNeed }
    else none
  | _, _, _, _ => none

/-- R120: the settings in force. -/
def spliceReply (s : State) : List Byte := spliceItems s.rcc.settings

/-- R120: SPLICE-SET. -/
def State.reqSpliceSet (settings : Option SpliceBody) (s : State) : State × Answer :=
  match settings with
  | none => answered .ok spliceReply s
  | some b =>
    if s.rcc.splice.underWay then answered .state spliceReply s
    else match spliceSettingsOf? b with
      | none => answered .range spliceReply s
      | some x => answered .ok spliceReply (s.setRcc fun r => { r with settings := x }).evalStandby.triggerTest

/-! ## SPLICE-RESOLVE -/

/-- R131: the actions. -/
inductive ResolveAction where
  | accept | break_
deriving DecidableEq, Repr

def resolveActionOf? : Nat → Option ResolveAction
  | 0 => some .accept
  | 1 => some .break_
  | _ => none

/-- R131: the FORMING panel, if any, is ended with INTERRUPTED, and its step dropped (log 10). -/
def State.breakPanel (s : State) : State :=
  if s.forming?.isSome then (s.endForming true Reasons.addInterrupted).dropPanelStep else s

/-- R131: a seam record is made at the web count now plus SEAM_PATH with confirmed-by BREAK. -/
def State.breakSeam (old new : Nat) (s : State) : State :=
  let x : Seam := ⟨s.web + s.geometry.seamPath, old, new, s.clock, .break_⟩
  s.setRcc fun r => { r with seams := insertSeam x r.seams }

/-- R131: the splice is resolved: it enters ARMED or IDLE and SPLICE_DONE is raised. -/
def State.resolved (s : State) : State :=
  (s.setRcc fun r => { r with splice := r.rest }).raise .spliceDone

/-- R131: BREAK of a fired splice. -/
def State.breakFired (s : State) : State :=
  let s := s.breakPanel
  match s.rcc.unconfirmed with
  | some u => ((s.setRcc fun r => { r with unconfirmed := none }).breakSeam u.oldId u.newId).resolved
  | none => s.resolved

/-- R131: the roll ids of the seam of a NO_MATCH BREAK. With no ACTIVE roll the old id is a free value
(log 11). -/
def State.breakIds (s : State) : Nat × Nat :=
  ((match s.rcc.activeRoll with
    | some a => a.id
    | none => Config.oldRollId s.freeIndex),
   (match s.rcc.standbyRoll with
    | some b => b.id
    | none => 0))

/-- R131: BREAK of a splice that never fired. -/
def State.breakNoMatch (s : State) : State :=
  let ids := s.breakIds
  let hadActive := s.rcc.activeRoll.isSome
  let s := if hadActive then s else s.takeFree
  let s := s.setRcc fun r =>
    { r.mapSpindles Spindle.fired with tailTimer := r.tailTimer || hadActive }
  (s.evalStandby.breakPanel.breakSeam ids.1 ids.2).resolved

/-- R69: after BREAK has ended the panel and its step, a line that is moving stands at an open boundary. -/
def State.goOn (before s : State) : State :=
  if before.forming?.isSome && s.seq.line.moving && s.atOpenBoundary then s.openBoundary else s

/-- R131: the end of every accepted resolve: SPLICE leaves the hold requester set, and ROLL_OUT with it
where a roll was made ACTIVE. -/
def State.leaveSplice (rollMade : Bool) (s before : State) : State :=
  let t := s.releaseHold fun h => { h with splice := false, rollOut := h.rollOut && !rollMade }
  State.reevaluateSince before (State.goOn before t)

/-- R131: ACCEPT of a fired splice: the unconfirmed seam is recorded as at a confirm. -/
def State.acceptFired (s : State) : State := s.confirmSplice .accept

/-- R131: ACCEPT of a NO_MATCH: the splice returns to ARMED and the trigger test is made at once. -/
def State.acceptNoMatch (s : State) : State :=
  (s.setRcc fun r => { r with splice := r.rest }).triggerTest

/-- R131: the items of a SPLICE-RESOLVE reply. -/
def resolveItems (s : State) : List Byte :=
  u8 s.rcc.splice.byte ++ spindlesItems s ++ seamItems s.rcc.seams

/-- R131: the effect of an action on a MISSED splice; none where it is refused with NO_ROOM. -/
def State.resolve? (a : ResolveAction) (c : MissCause) (s : State) : Option State :=
  match a, c with
  | .accept, .noMatch => some (s.acceptNoMatch.leaveSplice false s)
  | .accept, .noConfirm => some (s.acceptFired.leaveSplice false s)
  | .accept, .estop => some (s.acceptFired.leaveSplice false s)
  | .break_, .noMatch =>
    if Config.seamCapacity ≤ s.rcc.seams.length then none else some (s.breakNoMatch.leaveSplice true s)
  | .break_, .noConfirm => some (s.breakFired.leaveSplice false s)
  | .break_, .estop => some (s.breakFired.leaveSplice false s)

/-- R131: SPLICE-RESOLVE. -/
def State.reqSpliceResolve (action : Nat) (s : State) : State × Answer :=
  match resolveActionOf? action with
  | none => refused .range s
  | some a =>
    match s.rcc.splice.cause? with
    | none => refused .state s
    | some c =>
      match s.resolve? a c with
      | some t => answered .ok resolveItems t
      | none => refused .noRoom s

/-! ## The commands -/

/-- ROLL-LOAD, kind 18H. -/
def execRollLoad (tag : Byte) (spindle rollId cls length : Nat) (s : State) :
    Host.Outcome State Fault Refusal :=
  (s.takeRequest 0x18#8 tag (State.reqRollLoad spindle rollId cls length)).finish

/-- ROLL-REMOVE, kind 19H. -/
def execRollRemove (tag : Byte) (spindle : Nat) (s : State) : Host.Outcome State Fault Refusal :=
  (s.takeRequest 0x19#8 tag (State.reqRollRemove spindle)).finish

/-- SPLICE-SET, kind 1AH. -/
def execSpliceSet (tag : Byte) (settings : Option SpliceBody) (s : State) :
    Host.Outcome State Fault Refusal :=
  (s.takeRequest 0x1A#8 tag (State.reqSpliceSet settings)).finish

/-- SPLICE-RESOLVE, kind 1BH. -/
def execSpliceResolve (tag : Byte) (action : Nat) (s : State) : Host.Outcome State Fault Refusal :=
  (s.takeRequest 0x1B#8 tag (State.reqSpliceResolve action)).finish

end Sys2Proof.Machine
end

