-- ==== Sys2Proof/Machine/Settings.lean ====
section
/-! DEFINITION. The requests of the zones, the steam allocator, the outlet controller and the verifier
(R138, R144, R175, R176, R168). -/

namespace Sys2Proof.Machine

/-! ## Steam -/

/-- R138, Table 8.1.2: the three settings of a write are allowed together. -/
def zoneValid (b : ZoneBody) : Bool :=
  decide (b.sp ≤ 2800) && decide (b.standby ≤ b.sp) && decide (b.kp ≤ 255)

/-- R138: ZONE-SET. -/
def State.reqZoneSet (zone : Nat) (settings : Option ZoneBody) (s : State) : State × Answer :=
  match zoneOf? zone with
  | none => refused .range s
  | some z =>
    match settings with
    | none => answered .ok (zoneItems z) s
    | some b =>
      if zoneValid b then
        answered .ok (zoneItems z)
          (s.setZone z { s.zones.get z with sp := b.sp, standby := b.standby, kp := b.kp })
      else refused .range s

/-- R144: the six settings of a write are allowed together. -/
def steamValid (b : SteamBody) : Bool :=
  b.reservations.toList.all (fun r => decide (r ≤ 2000)) && decide (b.reservations.total ≤ 8000)
    && inRange 5 120 b.stallLimit

/-- R151: a stall that is due is made at once. -/
def State.stallIfDue (s : State) : State := if s.steam.stallDue then s.stallNow else s

/-- R144: STEAM-SET. -/
def State.reqSteamSet (settings : Option SteamBody) (s : State) : State × Answer :=
  match settings with
  | none => answered .ok steamItems s
  | some b =>
    if steamValid b then
      answered .ok steamItems (s.setSteam fun a =>
        { a with reservations := b.reservations, stallLimit := b.stallLimit }).stallIfDue
    else answered .range steamItems s

/-! ## Outlets -/

/-- R175: a stacker's capacity is replaced; its full flag is raised where occupied plus reserved reaches
it. -/
def State.setCapacity (n : Outlet) (capacity : Nat) (s : State) : State :=
  let c := s.outlets.counts n
  let t := { s with outlets := s.outlets.setCounts n { c with capacity := capacity } }
  if c.occupied + c.reserved = capacity then t.raise? n.fullFlag else t

/-- R175: the outlet of a write is STACK-A or STACK-B. -/
def stackOf? (n : Nat) : Option Outlet :=
  match outletOf? n with
  | some .stackA => some .stackA
  | some .stackB => some .stackB
  | some .rewind => none
  | none => none

/-- R175: OUTLET-SET. -/
def State.reqOutletSet (settings : Option OutletBody) (s : State) : State × Answer :=
  match settings with
  | none => answered .ok outletItems s
  | some b =>
    match stackOf? b.outlet with
    | none => answered .range outletItems s
    | some n =>
      if !inRange 1 200 b.capacity then answered .range outletItems s
      else if b.capacity < (s.outlets.counts n).occupied + (s.outlets.counts n).reserved then
        answered .inUse outletItems s
      else answered .ok outletItems (State.reevaluateSince s (s.setCapacity n b.capacity))

/-- R176: the occupied count falls by the count, or to 0. -/
def State.unload (n : Outlet) (count : Nat) (s : State) : State :=
  let c := s.outlets.counts n
  { s with outlets := s.outlets.setCounts n { c with occupied := c.occupied - count } }

/-- R176: OUTLET-UNLOAD. -/
def State.reqOutletUnload (outlet count : Nat) (s : State) : State × Answer :=
  match outletOf? outlet with
  | none => refused .range s
  | some n =>
    let removed := min count (s.outlets.counts n).occupied
    answered .ok (fun t => u16 removed ++ outletItems t) (State.reevaluateSince s (s.unload n count))

/-! ## Verifier -/

/-- R168: the counting action. -/
def Verifier.act (a : CountAction) (v : Verifier) : Verifier :=
  match a with
  | .none => v
  | .enable =>
    { v with frozen := false,
             checkers := v.checkers.map fun k => { k with matched := 0, outOfTol := 0, missing := 0, extra := 0 } }
  | .freeze => { v with frozen := true }

/-- R169: the snapshot timer is restarted, or stopped. -/
def Verifier.restartTimer (v : Verifier) : Verifier := { v with timer := v.timerRuns }

/-- R168: what an accepted write does, in order. -/
def Verifier.write (window : Nat) (a : CountAction) (p : SnapshotPeriod) (v : Verifier) : Verifier :=
  Verifier.restartTimer { Verifier.act a { v with window := window } with period := p }

/-- R6, R168: the window is allowed with the VERIFY_DIST in force. -/
def windowOk (verifyDist window : Nat) : Bool :=
  inRange 50 2000 window && decide (window + verifyDist ≤ 12600)

/-- R168: VERIFY-SET. -/
def State.reqVerifySet (settings : Option VerifyBody) (s : State) : State × Answer :=
  match settings with
  | none => answered .ok verifyItems s
  | some b =>
    match countActionOf? b.action, periodOf? b.period with
    | some a, some p =>
      if windowOk s.geometry.verifyDist b.window then
        answered .ok verifyItems { s with verify := s.verify.write b.window a p }
      else refused .range s
    | _, _ => refused .range s

/-! ## The commands -/

/-- ZONE-SET, kind 28H. -/
def execZoneSet (tag : Byte) (zone : Nat) (settings : Option ZoneBody) (s : State) :
    Host.Outcome State Fault Refusal :=
  (s.takeRequest 0x28#8 tag (State.reqZoneSet zone settings)).finish

/-- STEAM-SET, kind 29H. -/
def execSteamSet (tag : Byte) (settings : Option SteamBody) (s : State) :
    Host.Outcome State Fault Refusal :=
  (s.takeRequest 0x29#8 tag (State.reqSteamSet settings)).finish

/-- OUTLET-SET, kind 2AH. -/
def execOutletSet (tag : Byte) (settings : Option OutletBody) (s : State) :
    Host.Outcome State Fault Refusal :=
  (s.takeRequest 0x2A#8 tag (State.reqOutletSet settings)).finish

/-- OUTLET-UNLOAD, kind 2BH. -/
def execOutletUnload (tag : Byte) (outlet count : Nat) (s : State) : Host.Outcome State Fault Refusal :=
  (s.takeRequest 0x2B#8 tag (State.reqOutletUnload outlet count)).finish

/-- VERIFY-SET, kind 2CH. -/
def execVerifySet (tag : Byte) (settings : Option VerifyBody) (s : State) :
    Host.Outcome State Fault Refusal :=
  (s.takeRequest 0x2C#8 tag (State.reqVerifySet settings)).finish

end Sys2Proof.Machine
end

