-- ==== Sys2Proof/Machine/Store.lean ====
section
/-! DEFINITION. The pattern store's, the class table's and the line geometry's requests (Chapters 1
and 2). -/

namespace Sys2Proof.Machine

/-! ## Patterns -/

/-- Strokes of one step (R17); the form of a held pattern is one of the four. -/
def stepStrokes : PatStep → Nat
  | .pleat count form _ _ _ _ => count * ((formOf? form).getD .knifeL).strokesPerPleat
  | .flat _ => 0

/-- What one step delivers at grade 1000 (R21). -/
def stepDelivered : PatStep → Nat
  | .pleat count form sp dw dh locked => stepStrokes (.pleat count form sp dw dh locked) * sp
  | .flat length => length

/-- R21: the total strokes of a pattern. -/
def totalStrokes (p : List PatStep) : Nat := (p.map stepStrokes).sum

/-- R21: the delivered length of a pattern at grade 1000. -/
def totalLength (p : List PatStep) : Nat := (p.map stepDelivered).sum

/-- R27: the cause and step index of a PAT-DEFINE reply (Table 2.6.1). -/
structure PatCause where
  cause : Nat
  index : Nat
deriving DecidableEq, Repr

/-- R16: every field of a step lies in its range. -/
def stepInRange : PatStep → Bool
  | .pleat count form sp dw dh _ =>
    inRange 1 500 count && (formOf? form).isSome && inRange 200 8000 sp
      && decide (dw ≤ 4500) && decide (dh ≤ 4500)
  | .flat length => inRange 100 200000 length

/-- R19: a locked run has 16 strokes or fewer. -/
def stepLockOk : PatStep → Bool
  | .pleat count form sp dw dh true => decide (stepStrokes (.pleat count form sp dw dh true) ≤ 16)
  | .pleat _ _ _ _ _ false => true
  | .flat _ => true

/-- R25 test 3: the first step that fails, tested in turn from step `k`. -/
def firstBadStep : Nat → List PatStep → Option PatCause
  | _, [] => none
  | k, x :: rest =>
    if !stepInRange x then some ⟨3, k⟩
    else if !stepLockOk x then some ⟨4, k⟩
    else firstBadStep (k + 1) rest

/-- R25, Table 2.6.1: the validity tests, in order. Causes are numbered NONE, SLOT, STEP_COUNT,
STEP_FIELD, LOCK_LENGTH, STROKE_TOTAL, LENGTH_TOTAL (log 7). -/
def patternFault (slot : Nat) (p : List PatStep) : Option PatCause :=
  if !inRange 1 Config.slots slot then some ⟨1, 0⟩
  else if !inRange 1 64 p.length then some ⟨2, 0⟩
  else match firstBadStep 1 p with
    | some c => some c
    | none =>
      if 2000 < totalStrokes p then some ⟨5, 0⟩
      else if 1500000 < totalLength p then some ⟨6, 0⟩
      else none

/-- R24: a slot is in use. -/
def State.slotInUse (n : Nat) (s : State) : Bool :=
  s.orders.any (fun o => decide (o.slot = n)) ||
    (match s.forming? with
      | some p => decide (p.slot = n)
      | none => false)

/-- The number of steps a slot holds, 0 for an empty slot. -/
def State.stepsIn (n : Nat) (s : State) : Nat :=
  match s.pattern? n with
  | some p => p.length
  | none => 0

/-- R27: the items of a PAT-DEFINE reply. -/
def patDefineItems (slot : Nat) (c : PatCause) (s : State) : List Byte :=
  u8 slot ++ u16 s.freeEntries ++ u8 (s.stepsIn slot) ++ u8 c.cause ++ u8 c.index

/-- R25 to R27: PAT-DEFINE. -/
def State.reqPatDefine (slot : Nat) (p : List PatStep) (s : State) : State × Answer :=
  match patternFault slot p with
  | some c => answered .range (patDefineItems slot c) s
  | none =>
    if s.slotInUse slot then answered .inUse (patDefineItems slot ⟨0, 0⟩) s
    else if s.freeEntries + s.stepsIn slot < p.length then answered .noRoom (patDefineItems slot ⟨0, 0⟩) s
    else answered .ok (patDefineItems slot ⟨0, 0⟩) { s with patterns := s.patterns.insert slot p }

/-- R28: the items of a PAT-DROP reply. -/
def patDropItems (slot : Nat) (s : State) : List Byte := u8 slot ++ u16 s.freeEntries

/-- R28: PAT-DROP. -/
def State.reqPatDrop (slot : Nat) (s : State) : State × Answer :=
  if !inRange 1 Config.slots slot then answered .range (patDropItems slot) s
  else if (s.pattern? slot).isNone then answered .notFound (patDropItems slot) s
  else if s.slotInUse slot then answered .inUse (patDropItems slot) s
  else answered .ok (patDropItems slot) { s with patterns := s.patterns.erase slot }

/-- R29: the items read of a slot that holds a pattern. -/
def patternItems (slot : Nat) (p : List PatStep) (s : State) : List Byte :=
  shortList patStepItems p ++ u16 (totalStrokes p) ++ u32 (totalLength p)
    ++ u8 (s.orders.filter (fun o => o.slot = slot)).length
    ++ yesNo (match s.forming? with
      | some x => decide (x.slot = slot)
      | none => false)
    ++ u16 s.freeEntries

/-- R30: the directory's three items of a slot. -/
def directoryItems (s : State) (n : Nat) : List Byte :=
  u8 (s.stepsIn n) ++ u16 (totalStrokes ((s.pattern? n).getD [])) ++ yesNo (s.slotInUse n)

/-- R29, R30: PAT-READ. -/
def State.reqPatRead (slot : Nat) (s : State) : State × Answer :=
  if slot = 0 then
    answered .ok (fun s => u16 s.freeEntries ++ (List.range' 1 Config.slots).flatMap (directoryItems s)) s
  else if Config.slots < slot then answered .range (fun s => u16 s.freeEntries) s
  else match s.pattern? slot with
    | none => answered .notFound (patDropItems slot) s
    | some p => answered .ok (patternItems slot p) s

/-! ## Classes -/

/-- R9, R10: every field of a definition lies in its range, Tmax exceeds Tb, and a present dose maximum is
no less than the dose minimum. -/
def classValid (c : FabricClass) : Bool :=
  decide (c.ecls ≤ 12000) && inRange 100 4095 c.tref && decide (c.tb ≤ 2500)
    && inRange (c.tb + 1) 3000 c.tmax && inRange 1 2000000000 c.doseMin
    && (match c.doseMax with
      | some m => inRange c.doseMin 4294967295 m
      | none => true)
    && inRange 10 1000 c.pitchTol

/-- R11: a STANDBY or ACTIVE record names the class. -/
def Spindle.names (n : Nat) : Spindle → Bool
  | .standby r | .active r => decide (r.cls = n)
  | .empty | .expiring _ | .spent _ => false

/-- R11, R13: the three ways a class is in use. -/
def State.classOnSpindle (n : Nat) (s : State) : Bool := s.rcc.u1.names n || s.rcc.u2.names n
def State.classInOrder (n : Nat) (s : State) : Bool := s.orders.any (fun o => decide (o.cls = n))
def State.classInTrack (n : Nat) (s : State) : Bool := s.track.any (fun p => decide (p.cls = n))

/-- R11: a class is in use. -/
def State.classInUse (n : Nat) (s : State) : Bool :=
  s.classOnSpindle n || s.classInOrder n || s.classInTrack n

/-- A class number. -/
def classNumber (n : Nat) : Bool := decide (n < 16)

/-- R10: CLASS-SET. -/
def State.reqClassSet (n : Nat) (fields : Option FabricClass) (s : State) : State × Answer :=
  if !classNumber n then refused .range s
  else match fields with
    | some c =>
      if !classValid c then refused .range s
      else if s.classInUse n then refused .inUse s
      else answered .ok (fun _ => []) { s with classes := s.classes.insert n c }
    | none =>
      if s.classInUse n then refused .inUse s
      else answered .ok (fun _ => []) { s with classes := s.classes.erase n }

/-- R13: the items of a CLASS-READ reply. -/
def classReadItems (n : Nat) (s : State) : List Byte :=
  (match s.class? n with
    | some c => u8 1 ++ classItems c
    | none => List.replicate 20 0#8)
    ++ yesNo (s.classOnSpindle n) ++ yesNo (s.classInOrder n) ++ yesNo (s.classInTrack n)

/-- R13: CLASS-READ. -/
def State.reqClassRead (n : Nat) (s : State) : State × Answer :=
  if !classNumber n then refused .range s else answered .ok (classReadItems n) s

/-! ## Geometry -/

/-- R4, R6: a set of geometry values meets every constraint, with the verify window in force. -/
def geometryValid (window : Nat) (g : Geometry) : Bool :=
  inRange 100000 3000000 g.seamPath && decide (10000 ≤ g.detectPath)
    && decide (g.detectPath + 10000 ≤ g.seamPath) && inRange 1000 12000 g.verifyDist
    && decide (g.verifyDist < g.zones.z1.start)
    && decide (g.zones.z1.start < g.zones.z1.stop) && decide (g.zones.z2.start < g.zones.z2.stop)
    && decide (g.zones.z3.start < g.zones.z3.stop) && decide (g.zones.z4.start < g.zones.z4.stop)
    && decide (g.zones.z1.stop ≤ g.zones.z2.start) && decide (g.zones.z2.stop ≤ g.zones.z3.start)
    && decide (g.zones.z3.stop ≤ g.zones.z4.start)
    && inRange g.zones.z4.stop 4000000 g.outletDist && decide (g.panelGap ≤ 50000)
    && decide (g.verifyDist + window ≤ 12600)

/-- R7: the geometry settings in force. -/
def geometryReply (s : State) : List Byte := geometryItems s.geometry

/-- R7, R8: LINE-GEOMETRY. -/
def State.reqLineGeometry (settings : Option Geometry) (s : State) : State × Answer :=
  match settings with
  | none => answered .ok geometryReply s
  | some g =>
    if s.seq.line ≠ .idle ∨ s.track ≠ [] then answered .state geometryReply s
    else if !geometryValid s.verify.window g then answered .range geometryReply s
    else answered .ok geometryReply ({ s with geometry := g }.emptyFolds)

/-! ## The commands -/

/-- PAT-DEFINE, kind 01H. -/
def execPatDefine (tag : Byte) (slot : Nat) (steps : List PatStep) (s : State) :
    Host.Outcome State Fault Refusal :=
  (s.takeRequest 0x01#8 tag (State.reqPatDefine slot steps)).finish

/-- PAT-DROP, kind 02H. -/
def execPatDrop (tag : Byte) (slot : Nat) (s : State) : Host.Outcome State Fault Refusal :=
  (s.takeRequest 0x02#8 tag (State.reqPatDrop slot)).finish

/-- PAT-READ, kind 03H. -/
def execPatRead (tag : Byte) (slot : Nat) (s : State) : Host.Outcome State Fault Refusal :=
  (s.takeRequest 0x03#8 tag (State.reqPatRead slot)).finish

/-- CLASS-SET, kind 04H. -/
def execClassSet (tag : Byte) (cls : Nat) (fields : Option FabricClass) (s : State) :
    Host.Outcome State Fault Refusal :=
  (s.takeRequest 0x04#8 tag (State.reqClassSet cls fields)).finish

/-- CLASS-READ, kind 05H. -/
def execClassRead (tag : Byte) (cls : Nat) (s : State) : Host.Outcome State Fault Refusal :=
  (s.takeRequest 0x05#8 tag (State.reqClassRead cls)).finish

/-- LINE-GEOMETRY, kind 25H. -/
def execLineGeometry (tag : Byte) (settings : Option Geometry) (s : State) :
    Host.Outcome State Fault Refusal :=
  (s.takeRequest 0x25#8 tag (State.reqLineGeometry settings)).finish

end Sys2Proof.Machine
end

