-- ==== Sys2Proof/Machine/Receive.lean ====
section
/-! DEFINITION. The receiver (R187), the frame it completes (R188), and the transmitter's end of a frame
(R191). -/

namespace Sys2Proof.Machine

/-- R188 test 6: the request is handed to its owning block. -/
def handle : Request → Handler
  | .patDefine slot steps => State.reqPatDefine slot steps
  | .patDrop slot => State.reqPatDrop slot
  | .patRead slot => State.reqPatRead slot
  | .classSet cls fields => State.reqClassSet cls fields
  | .classRead cls => State.reqClassRead cls
  | .orderAdd order => State.reqOrderAdd order
  | .orderCancel order mode => State.reqOrderCancel order mode
  | .orderList => State.reqOrderList
  | .segStage mask fields => State.reqSegStage mask fields
  | .segApply mask mode => State.reqSegApply mask mode
  | .segClear mask => State.reqSegClear mask
  | .segRead mask => State.reqSegRead mask
  | .rollLoad spindle rollId cls length => State.reqRollLoad spindle rollId cls length
  | .rollRemove spindle => State.reqRollRemove spindle
  | .spliceSet settings => State.reqSpliceSet settings
  | .spliceResolve action => State.reqSpliceResolve action
  | .lineRun => State.reqLineRun
  | .lineStop mode => State.reqLineStop mode
  | .lineHold => State.reqLineHold
  | .lineRelease => State.reqLineRelease
  | .lineRate rate => State.reqLineRate rate
  | .lineGeometry settings => State.reqLineGeometry settings
  | .lineReset => State.reqLineReset
  | .zoneSet zone settings => State.reqZoneSet zone settings
  | .steamSet settings => State.reqSteamSet settings
  | .outletSet settings => State.reqOutletSet settings
  | .outletUnload outlet count => State.reqOutletUnload outlet count
  | .verifySet settings => State.reqVerifySet settings
  | .readTrack start => State.reqReadTrack start
  | .readExits start => State.reqReadExits start
  | .readCounters => State.reqReadCounters
  | .readStatus => State.reqReadStatus
  | .readFlags => State.reqReadFlags
  | .maskSet masks => State.reqMaskSet masks

/-- R188 tests 4 to 6: UNKNOWN, FORMAT, or the owning block's rule. -/
def handleAsked : Asked → Handler
  | .unknown => refuseWith .unknown
  | .misshapen => refuseWith .format
  | .request r => handle r

/-- R188: a complete frame is taken. -/
def State.takeFrame (kind tag : Byte) (body : List Byte) (s : State) : State :=
  s.takeRequest kind tag (handleAsked (decodeRequest kind body))

/-! ## The receiver -/

/-- R187: the length LEN of the collected bytes. -/
def lenOf (bs : List Byte) : Nat := fieldValue bs

/-- R187: the receiver after the second LEN byte. -/
def Receiver.afterLength (lenBytes : List Byte) : Receiver :=
  if 2 ≤ lenOf lenBytes ∧ lenOf lenBytes ≤ 1026 then ⟨.content, lenBytes, [], []⟩ else Receiver.hunting

/-- R187: the receiver on a character that does not end a frame. -/
def Receiver.collect (c : Byte) (r : Receiver) : Receiver :=
  match r.state with
  | .hunt => if c = 0xA5#8 then ⟨.sync, [], [], []⟩ else Receiver.hunting
  | .sync =>
    if c = 0x5A#8 then ⟨.length, [], [], []⟩
    else if c = 0xA5#8 then ⟨.sync, [], [], []⟩
    else Receiver.hunting
  | .length =>
    match r.lenBytes with
    | [] => { r with lenBytes := [c] }
    | first :: _ => Receiver.afterLength [first, c]
  | .content =>
    let buffer := r.buffer ++ [c]
    if buffer.length < lenOf r.lenBytes then { r with buffer := buffer }
    else { r with buffer := buffer, state := .check, checkBytes := [] }
  | .check => { r with checkBytes := r.checkBytes ++ [c] }

/-- R187: both CHECK bytes are collected. -/
def Receiver.complete (r : Receiver) : Bool := decide (r.state = .check) && decide (2 ≤ r.checkBytes.length)

/-- R187: the CRC over the collected bytes equals CHECK. -/
def Receiver.checked (r : Receiver) : Bool := decide (frameCheck r.lenBytes r.buffer = r.checkBytes)

/-- Write the receiver. -/
def State.setRx (r : Receiver) (s : State) : State := s.setLink fun l => { l with rx := r }

/-- R187, R188: a frame whose CHECK is collected is taken, or discarded with one more link error. -/
def State.endFrame (r : Receiver) (s : State) : State :=
  let s := s.setRx Receiver.hunting
  match r.checked, r.buffer with
  | true, kind :: tag :: body => s.takeFrame kind tag body
  | _, _ => s.setLink Link.countError

/-- R187: an unbroken character. -/
def State.takeChar (c : Byte) (s : State) : State :=
  let r := s.link.rx.collect c
  if r.complete then s.endFrame r else s.setRx r

/-- R187: a broken character discards what is collected and adds one link error. -/
def State.takeBroken (s : State) : State := (s.setRx Receiver.hunting).setLink Link.countError

/-! ## The commands -/

/-- CHARACTER_RECEIVED (R187). -/
def execCharacterReceived (c : Byte) (broken : Bool) (s : State) : Host.Outcome State Fault Refusal :=
  (if broken then s.takeBroken else s.takeChar c).finish

/-- CHARACTER_GAP_TIMEOUT (R187): the frame is discarded in any state other than HUNT. -/
def execCharacterGapTimeout (s : State) : Host.Outcome State Fault Refusal :=
  (s.setRx Receiver.hunting).finish

/-- TRANSMIT_FRAME_DONE (R191): the last byte of the frame under transmission has been sent. -/
def execTransmitFrameDone (s : State) : Host.Outcome State Fault Refusal := (s.setLink Link.frameDone).finish

end Sys2Proof.Machine
end

