-- ==== Sys2Proof/Machine/Dispatch.lean ====
section
/-! DEFINITION. The dispatch of a command to its meaning: what it does to everything but the queue. -/

namespace Sys2Proof.Machine

def exec (i : Instr) (s : State) : Host.Outcome State Fault Refusal :=
  match i with
  | .powerOn estopActive binFull seamLevel => Sys2Proof.Machine.execPowerOn estopActive binFull seamLevel s
  | .characterReceived char broken => Sys2Proof.Machine.execCharacterReceived char broken s
  | .characterGapTimeout => Sys2Proof.Machine.execCharacterGapTimeout s
  | .transmitFrameDone => Sys2Proof.Machine.execTransmitFrameDone s
  | .patDefine tag slot steps => Sys2Proof.Machine.execPatDefine tag slot steps s
  | .patDrop tag slot => Sys2Proof.Machine.execPatDrop tag slot s
  | .patRead tag slot => Sys2Proof.Machine.execPatRead tag slot s
  | .classSet tag cls fields => Sys2Proof.Machine.execClassSet tag cls fields s
  | .classRead tag cls => Sys2Proof.Machine.execClassRead tag cls s
  | .orderAdd tag order => Sys2Proof.Machine.execOrderAdd tag order s
  | .orderCancel tag order mode => Sys2Proof.Machine.execOrderCancel tag order mode s
  | .orderList tag => Sys2Proof.Machine.execOrderList tag s
  | .segStage tag mask fields => Sys2Proof.Machine.execSegStage tag mask fields s
  | .segApply tag mask mode => Sys2Proof.Machine.execSegApply tag mask mode s
  | .segClear tag mask => Sys2Proof.Machine.execSegClear tag mask s
  | .segRead tag mask => Sys2Proof.Machine.execSegRead tag mask s
  | .rollLoad tag spindle rollId cls length => Sys2Proof.Machine.execRollLoad tag spindle rollId cls length s
  | .rollRemove tag spindle => Sys2Proof.Machine.execRollRemove tag spindle s
  | .spliceSet tag settings => Sys2Proof.Machine.execSpliceSet tag settings s
  | .spliceResolve tag action => Sys2Proof.Machine.execSpliceResolve tag action s
  | .lineRun tag => Sys2Proof.Machine.execLineRun tag s
  | .lineStop tag mode => Sys2Proof.Machine.execLineStop tag mode s
  | .lineHold tag => Sys2Proof.Machine.execLineHold tag s
  | .lineRelease tag => Sys2Proof.Machine.execLineRelease tag s
  | .lineRate tag rate => Sys2Proof.Machine.execLineRate tag rate s
  | .lineGeometry tag settings => Sys2Proof.Machine.execLineGeometry tag settings s
  | .lineReset tag => Sys2Proof.Machine.execLineReset tag s
  | .zoneSet tag zone settings => Sys2Proof.Machine.execZoneSet tag zone settings s
  | .steamSet tag settings => Sys2Proof.Machine.execSteamSet tag settings s
  | .outletSet tag settings => Sys2Proof.Machine.execOutletSet tag settings s
  | .outletUnload tag outlet count => Sys2Proof.Machine.execOutletUnload tag outlet count s
  | .verifySet tag settings => Sys2Proof.Machine.execVerifySet tag settings s
  | .readTrack tag start => Sys2Proof.Machine.execReadTrack tag start s
  | .readExits tag start => Sys2Proof.Machine.execReadExits tag start s
  | .readCounters tag => Sys2Proof.Machine.execReadCounters tag s
  | .readStatus tag => Sys2Proof.Machine.execReadStatus tag s
  | .readFlags tag => Sys2Proof.Machine.execReadFlags tag s
  | .maskSet tag masks => Sys2Proof.Machine.execMaskSet tag masks s
  | .estopActive => Sys2Proof.Machine.execEstopActive s
  | .estopInactive => Sys2Proof.Machine.execEstopInactive s
  | .paceTimerExpiry => Sys2Proof.Machine.execPaceTimerExpiry s
  | .feedDone seg => Sys2Proof.Machine.execFeedDone seg s
  | .feedTimeout seg => Sys2Proof.Machine.execFeedTimeout seg s
  | .strokeDone seg => Sys2Proof.Machine.execStrokeDone seg s
  | .strokeTimeout seg => Sys2Proof.Machine.execStrokeTimeout seg s
  | .tensionSample seg value => Sys2Proof.Machine.execTensionSample seg value s
  | .jamReport seg => Sys2Proof.Machine.execJamReport seg s
  | .withdrawDone seg => Sys2Proof.Machine.execWithdrawDone seg s
  | .withdrawTimeout seg => Sys2Proof.Machine.execWithdrawTimeout seg s
  | .homeDone seg => Sys2Proof.Machine.execHomeDone seg s
  | .homeTimeout seg => Sys2Proof.Machine.execHomeTimeout seg s
  | .parkDone seg => Sys2Proof.Machine.execParkDone seg s
  | .parkTimeout seg => Sys2Proof.Machine.execParkTimeout seg s
  | .driveFault seg => Sys2Proof.Machine.execDriveFault seg s
  | .zoneSample zone temp => Sys2Proof.Machine.execZoneSample zone temp s
  | .zoneSilenceTimeout zone => Sys2Proof.Machine.execZoneSilenceTimeout zone s
  | .supplyReading reading => Sys2Proof.Machine.execSupplyReading reading s
  | .supplyWatchTimeout => Sys2Proof.Machine.execSupplyWatchTimeout s
  | .stallTimerExpiry => Sys2Proof.Machine.execStallTimerExpiry s
  | .tailCutDone => Sys2Proof.Machine.execTailCutDone s
  | .tailTimerExpiry => Sys2Proof.Machine.execTailTimerExpiry s
  | .spindleMatched => Sys2Proof.Machine.execSpindleMatched s
  | .matchTimeout => Sys2Proof.Machine.execMatchTimeout s
  | .sealed => Sys2Proof.Machine.execSealed s
  | .confirmTimeout => Sys2Proof.Machine.execConfirmTimeout s
  | .seamDetectorChange level => Sys2Proof.Machine.execSeamDetectorChange level s
  | .debounceTimerExpiry => Sys2Proof.Machine.execDebounceTimerExpiry s
  | .rejectBinInputChange full => Sys2Proof.Machine.execRejectBinInputChange full s
  | .foldEvent seg => Sys2Proof.Machine.execFoldEvent seg s
  | .snapshotTimerExpiry => Sys2Proof.Machine.execSnapshotTimerExpiry s

end Sys2Proof.Machine
end

