-- ==== Sys2Proof/Machine/Tick.lean ====
section
/-! DEFINITION. What an idle millisecond does (log 2). -/

namespace Sys2Proof.Machine

/-- R151: the stall timer measures one more ms. -/
def Steam.tick (a : Steam) : Steam := { a with stallTimer := a.stallTimer.map (· + 1) }

/-- A step with no command waiting: 1 ms passes (R129, R151), and an idle transmitter begins the oldest
entry of its queue (R191). -/
def State.tick (s : State) : State :=
  { s with clock := s.clock + 1, steam := s.steam.tick }.setLink Link.service

end Sys2Proof.Machine
end

