-- ==== Sys2Proof/WellFormed.lean ====
section
/-! DEFINITION. The commands a sender can send: every operand fits the bytes its encoding gives it (R190),
and a request's body fits a frame (R186). -/

namespace Sys2Proof

/-- A number fits `w` bytes. -/
def fits (w v : Nat) : Bool := decide (v < 256 ^ w)

/-- An optional number fits `w` bytes. -/
def fitsOpt (w : Nat) : Option Nat → Bool
  | some v => fits w v
  | none => true

/-- An optional number fits two bytes in two's complement. -/
def fitsSigned : Option Int → Bool
  | some v => decide (-32768 ≤ v) && decide (v < 32768)
  | none => true

def PatStep.wf : PatStep → Bool
  | .pleat count form sp dw dh _ => fits 2 count && fits 1 form && fits 2 sp && fits 2 dw && fits 2 dh
  | .flat length => fits 4 length

def FabricClass.wf (c : FabricClass) : Bool :=
  fits 2 c.ecls && fits 2 c.tref && fits 2 c.tb && fits 2 c.tmax && fits 4 c.doseMin && fitsOpt 4 c.doseMax
    && fits 2 c.pitchTol

def OrderBody.wf (o : OrderBody) : Bool :=
  fits 2 o.tag && fits 1 o.slot && fits 1 o.cls && fits 2 o.grade && fits 2 o.panels && fits 1 o.prefCount
    && fits 1 o.pref1 && fits 1 o.pref2 && fits 1 o.pref3 && fits 1 o.seamPolicy && fits 2 o.foldLimit

def StageBody.wf (b : StageBody) : Bool :=
  fitsSigned b.depthTrim && fitsSigned b.feedTrim && fitsOpt 2 b.tensionLimit

def SpliceBody.wf (b : SpliceBody) : Bool :=
  fits 1 b.mode && fits 4 b.trigger && fits 4 b.clearance && fits 4 b.tailReserve && fits 1 b.ceiling
    && fits 1 b.debounce && fits 1 b.polarity && fits 1 b.confirm && fits 2 b.sbNeed

def Span.wf (z : Span) : Bool := fits 4 z.start && fits 4 z.stop

def Geometry.wf (g : Geometry) : Bool :=
  fits 4 g.seamPath && fits 4 g.detectPath && fits 2 g.verifyDist && g.zones.z1.wf && g.zones.z2.wf
    && g.zones.z3.wf && g.zones.z4.wf && fits 4 g.outletDist && fits 2 g.panelGap

def ZoneBody.wf (b : ZoneBody) : Bool := fits 2 b.sp && fits 2 b.standby && fits 1 b.kp

def SteamBody.wf (b : SteamBody) : Bool :=
  fits 2 b.reservations.sb && fits 2 b.reservations.z1 && fits 2 b.reservations.z2
    && fits 2 b.reservations.z3 && fits 2 b.reservations.z4 && fits 1 b.stallLimit

def OutletBody.wf (b : OutletBody) : Bool := fits 1 b.outlet && fits 1 b.capacity

def VerifyBody.wf (b : VerifyBody) : Bool := fits 2 b.window && fits 1 b.action && fits 1 b.period

/-- Every present item passes the test. -/
def wfOpt {α : Type} (p : α → Bool) : Option α → Bool
  | some x => p x
  | none => true

/-- R190: every operand of a request fits its encoding. -/
def Request.wf : Request → Bool
  | .patDefine slot steps => fits 1 slot && fits 1 steps.length && steps.all PatStep.wf
  | .patDrop slot => fits 1 slot
  | .patRead slot => fits 1 slot
  | .classSet cls fields => fits 1 cls && wfOpt FabricClass.wf fields
  | .classRead cls => fits 1 cls
  | .orderAdd order => order.wf
  | .orderCancel order mode => fits 2 order && fits 1 mode
  | .orderList => true
  | .segStage mask fields => fits 1 mask && fields.wf
  | .segApply mask mode => fits 1 mask && fits 1 mode
  | .segClear mask => fits 1 mask
  | .segRead mask => fits 1 mask
  | .rollLoad spindle rollId cls length => fits 1 spindle && fits 4 rollId && fits 1 cls && fits 4 length
  | .rollRemove spindle => fits 1 spindle
  | .spliceSet settings => wfOpt SpliceBody.wf settings
  | .spliceResolve action => fits 1 action
  | .lineRun => true
  | .lineStop mode => fits 1 mode
  | .lineHold => true
  | .lineRelease => true
  | .lineRate rate => fits 1 rate
  | .lineGeometry settings => wfOpt Geometry.wf settings
  | .lineReset => true
  | .zoneSet zone settings => fits 1 zone && wfOpt ZoneBody.wf settings
  | .steamSet settings => wfOpt SteamBody.wf settings
  | .outletSet settings => wfOpt OutletBody.wf settings
  | .outletUnload outlet count => fits 1 outlet && fits 2 count
  | .verifySet settings => wfOpt VerifyBody.wf settings
  | .readTrack start => fits 4 start
  | .readExits start => fits 4 start
  | .readCounters => true
  | .readStatus => true
  | .readFlags => true
  | .maskSet _ => true

/-- The TAG and the request of a command that stands for a frame (log 6). -/
def Instr.request? : Instr → Option (Byte × Request)
  | .powerOn _ _ _ => none
  | .characterReceived _ _ => none
  | .characterGapTimeout => none
  | .transmitFrameDone => none
  | .patDefine tag slot steps => some (tag, .patDefine slot steps)
  | .patDrop tag slot => some (tag, .patDrop slot)
  | .patRead tag slot => some (tag, .patRead slot)
  | .classSet tag cls fields => some (tag, .classSet cls fields)
  | .classRead tag cls => some (tag, .classRead cls)
  | .orderAdd tag order => some (tag, .orderAdd order)
  | .orderCancel tag order mode => some (tag, .orderCancel order mode)
  | .orderList tag => some (tag, .orderList)
  | .segStage tag mask fields => some (tag, .segStage mask fields)
  | .segApply tag mask mode => some (tag, .segApply mask mode)
  | .segClear tag mask => some (tag, .segClear mask)
  | .segRead tag mask => some (tag, .segRead mask)
  | .rollLoad tag spindle rollId cls length => some (tag, .rollLoad spindle rollId cls length)
  | .rollRemove tag spindle => some (tag, .rollRemove spindle)
  | .spliceSet tag settings => some (tag, .spliceSet settings)
  | .spliceResolve tag action => some (tag, .spliceResolve action)
  | .lineRun tag => some (tag, .lineRun)
  | .lineStop tag mode => some (tag, .lineStop mode)
  | .lineHold tag => some (tag, .lineHold)
  | .lineRelease tag => some (tag, .lineRelease)
  | .lineRate tag rate => some (tag, .lineRate rate)
  | .lineGeometry tag settings => some (tag, .lineGeometry settings)
  | .lineReset tag => some (tag, .lineReset)
  | .zoneSet tag zone settings => some (tag, .zoneSet zone settings)
  | .steamSet tag settings => some (tag, .steamSet settings)
  | .outletSet tag settings => some (tag, .outletSet settings)
  | .outletUnload tag outlet count => some (tag, .outletUnload outlet count)
  | .verifySet tag settings => some (tag, .verifySet settings)
  | .readTrack tag start => some (tag, .readTrack start)
  | .readExits tag start => some (tag, .readExits start)
  | .readCounters tag => some (tag, .readCounters)
  | .readStatus tag => some (tag, .readStatus)
  | .readFlags tag => some (tag, .readFlags)
  | .maskSet tag masks => some (tag, .maskSet masks)
  | .estopActive => none
  | .estopInactive => none
  | .paceTimerExpiry => none
  | .feedDone _ => none
  | .feedTimeout _ => none
  | .strokeDone _ => none
  | .strokeTimeout _ => none
  | .tensionSample _ _ => none
  | .jamReport _ => none
  | .withdrawDone _ => none
  | .withdrawTimeout _ => none
  | .homeDone _ => none
  | .homeTimeout _ => none
  | .parkDone _ => none
  | .parkTimeout _ => none
  | .driveFault _ => none
  | .zoneSample _ _ => none
  | .zoneSilenceTimeout _ => none
  | .supplyReading _ => none
  | .supplyWatchTimeout => none
  | .stallTimerExpiry => none
  | .tailCutDone => none
  | .tailTimerExpiry => none
  | .spindleMatched => none
  | .matchTimeout => none
  | .sealed => none
  | .confirmTimeout => none
  | .seamDetectorChange _ => none
  | .debounceTimerExpiry => none
  | .rejectBinInputChange _ => none
  | .foldEvent _ => none
  | .snapshotTimerExpiry => none

/-- R186: a body holds at most 1024 bytes. -/
def Request.sendable (r : Request) : Bool := r.wf && decide (r.body.length ≤ 1024)

/-- A command that can be sent: an event with any reading, or a request that a frame can carry. -/
def Instr.wf (i : Instr) : Bool :=
  match i.request? with
  | some (_, r) => r.sendable
  | none => true

end Sys2Proof
end

