-- ==== Sys2Proof/Safety.lean ====
section
/-! DEFINITION. What statements about runs are made in: a request that is accepted by the line link, what
stands while the line works, and the invariant every step keeps. -/

namespace Sys2Proof.Machine

/-! ## A request taken -/

/-- R188: the tests 1 to 3 pass: the transmit queue has room, no request is processed, TAG is not 0. -/
structure State.Accepts (s : State) (tag : Byte) : Prop where
  room : s.link.queue.length < 32
  free : s.link.busy = false
  tagged : tag ≠ 0#8

/-- R188: a request is being processed. -/
def State.processing (s : State) : State := { s with link := { s.link with busy := true } }

/-- R188, R191: the reply to a request enters the queue, and an idle transmitter begins the oldest entry. -/
def State.replied (kind tag : Byte) (code : ResultCode) (items : List Byte) (s : State) : State :=
  { s with link :=
      Link.service (Link.pushReply (.reply (replyKind code kind) tag (u8 code.byte ++ items) true) s.link) }

/-- The end of a command: an idle transmitter begins the oldest entry. -/
def State.served (s : State) : State := { s with link := Link.service s.link }

/-- R190: a list with one entry of `size` bytes for each segment of a mask: its count byte, the entries from S0 on,
and zeros up to six entries (log 7). -/
def perSegment (size mask : Nat) (entry : Fin 6 → List Byte) : List Byte :=
  u8 (maskSegs mask).length ++ (maskSegs mask).flatMap entry
    ++ List.replicate ((6 - (maskSegs mask).length) * size) 0#8

/-! ## Patterns and classes in the spec's own figures -/

/-- R17: strokes of one step of a pattern: two for each BOX or INVERTED pleat, one for each KNIFE pleat. -/
def strokesOf : PatStep → Nat
  | .pleat count form _ _ _ _ => if form = 2 ∨ form = 3 then 2 * count else count
  | .flat _ => 0

/-- R21: what one step delivers at grade 1000. -/
def deliveredOf : PatStep → Nat
  | .pleat count form sp dw dh locked => strokesOf (.pleat count form sp dw dh locked) * sp
  | .flat length => length

/-- R16: every field of a step lies in its range. -/
def fieldsInRange : PatStep → Prop
  | .pleat count form sp dw dh _ =>
    (1 ≤ count ∧ count ≤ 500) ∧ form ≤ 3 ∧ (200 ≤ sp ∧ sp ≤ 8000) ∧ dw ≤ 4500 ∧ dh ≤ 4500
  | .flat length => 100 ≤ length ∧ length ≤ 200000

/-- R19: a locked run has no more than 16 strokes. -/
def lockFits : PatStep → Prop
  | .pleat count form sp dw dh locked =>
    locked = true → strokesOf (.pleat count form sp dw dh locked) ≤ 16
  | .flat _ => True

/-- R9, R10: every field of a class definition lies in its range, Tmax exceeds Tb, and a present dose maximum is
no less than the dose minimum. -/
def classInRange (c : FabricClass) : Prop :=
  c.ecls ≤ 12000 ∧ (100 ≤ c.tref ∧ c.tref ≤ 4095) ∧ c.tb ≤ 2500 ∧ (c.tb < c.tmax ∧ c.tmax ≤ 3000)
    ∧ (1 ≤ c.doseMin ∧ c.doseMin ≤ 2000000000)
    ∧ (∀ m, c.doseMax = some m → c.doseMin ≤ m ∧ m ≤ 4294967295) ∧ (10 ≤ c.pitchTol ∧ c.pitchTol ≤ 1000)

/-- R57a: a line that was WAITING evaluates the start inhibits again, which is a panel start (R58). -/
def State.thenReevaluate (before s : State) : State :=
  if before.seq.line = .waiting then s.panelStart else s

/-! ## What stands -/

/-- What the host has set, and what the model's step alone changes: the tables, the settings, the staged
sets, the commands waiting and the clock; with the level of the e-stop input. -/
structure Standing where
  pending : List Instr
  clock : Nat
  geometry : Geometry
  classes : Table FabricClass
  patterns : Table (List PatStep)
  baseRate : Nat
  staged : Six SegSettings
  splice : SpliceSettings
  zones : Four (Nat × Nat × Nat)
  reservations : Five Nat
  stallLimit : Nat
  capacityA : Nat
  capacityB : Nat
  capacityRewind : Nat
  window : Nat
  frozen : Bool
  period : SnapshotPeriod
  masks : BitVec 48
  estopInput : Bool
deriving DecidableEq, Repr

/-- The settings of a zone (R138). -/
def Zone.settings (z : Zone) : Nat × Nat × Nat := (z.sp, z.standby, z.kp)

/-- What stands in a state. -/
def State.standing (s : State) : Standing where
  pending := s.pending
  clock := s.clock
  geometry := s.geometry
  classes := s.classes
  patterns := s.patterns
  baseRate := s.seq.baseRate
  staged := s.segs.map Segment.staged
  splice := s.rcc.settings
  zones := s.zones.map Zone.settings
  reservations := s.steam.reservations
  stallLimit := s.steam.stallLimit
  capacityA := s.outlets.stackA.capacity
  capacityB := s.outlets.stackB.capacity
  capacityRewind := s.outlets.rewind.capacity
  window := s.verify.window
  frozen := s.verify.frozen
  period := s.verify.period
  masks := s.link.masks
  estopInput := s.estopInput

/-- The requests that write a table, a setting or a staged set. -/
def requestSets : Request → Bool
  | .patDefine _ _ | .patDrop _ | .classSet _ _ | .segStage _ _ | .spliceSet _ | .lineRate _
  | .lineGeometry _ | .zoneSet _ _ | .steamSet _ | .outletSet _ | .verifySet _ | .maskSet _ => true
  | .patRead _ | .classRead _ | .orderAdd _ | .orderCancel _ _ | .orderList | .segApply _ _ | .segClear _
  | .segRead _ | .rollLoad _ _ _ _ | .rollRemove _ | .spliceResolve _ | .lineRun | .lineStop _ | .lineHold
  | .lineRelease | .lineReset | .outletUnload _ _ | .readTrack _ | .readExits _ | .readCounters
  | .readStatus | .readFlags => false

/-- The commands that may change what stands: power-on, a character (it may complete the frame of a setting
request), the e-stop input, and the setting requests. -/
def commandSets : Instr → Bool
  | .powerOn _ _ _ => true
  | .estopActive => true
  | .estopInactive => true
  | .characterReceived _ _ => true
  | i => match i.request? with
    | some (_, r) => requestSets r
    | none => false

/-! ## The invariant -/

/-- R114: at most one spindle is ACTIVE, and at most one STANDBY. -/
def RollChange.spindlesOk (r : RollChange) : Bool :=
  !(r.u1.active?.isSome && r.u2.active?.isSome) && !(r.u1.standby?.isSome && r.u2.standby?.isSome)

/-- R96: a carry is a number 0..99999. -/
def FeedSeg.carriesOk (f : FeedSeg) : Bool := decide (f.panelCarry < 100000) && decide (f.gapCarry < 100000)

/-- R33, R31: at most 24 records, their panel numbers rising and below the next one. -/
structure TrackOk (next : Nat) (track : List Panel) : Prop where
  length : track.length ≤ 24
  rising : (track.map (·.number)).Pairwise (· < ·)
  below : ∀ n ∈ track.map (·.number), n < next

/-- R173, R174: at each outlet the reserved count is the number of records in the track that hold a credit
there, and occupied plus reserved does not exceed the capacity. -/
structure CreditsOk (track : List Panel) (o : Outlets) : Prop where
  reserved : ∀ n, (o.counts n).reserved = ((track.map (·.outlet)).filter (· = n)).length
  room : ∀ n, (o.counts n).occupied + (o.counts n).reserved ≤ (o.counts n).capacity

/-- R181: at most 16 exit records, with consecutive numbers up to the last exit made. -/
structure ExitsOk (o : Outlets) : Prop where
  length : o.exits.length ≤ 16
  next : o.exits.length < o.nextExit
  numbers : o.exits.map (·.number) = List.range' (o.nextExit - o.exits.length) o.exits.length

/-- What every step keeps: the tables' canonical form (R9, R14), the base rate (R62), the carries (R96), the
spindles (R114), the heat ceiling (R150), ESTOP exactly while the e-stop input is active (R54, R76, R77), the
bounds of the queues (R49, R191), and the web track, the credits and the exit list. -/
structure State.Inv (s : State) : Prop where
  patterns : s.patterns.wf = true
  classes : s.classes.wf = true
  baseRate : 20 ≤ s.seq.baseRate ∧ s.seq.baseRate ≤ 240
  carries : s.fmu.all FeedSeg.carriesOk = true
  spindles : s.rcc.spindlesOk = true
  ceiling : s.steam.ceiling % 10 = 0 ∧ 40 ≤ s.steam.ceiling ∧ s.steam.ceiling ≤ 100
  estop : s.estopInput = true ↔ s.seq.line = .estop
  orders : s.orders.length ≤ 16
  queue : s.link.queue.length ≤ 32
  track : TrackOk s.nextPanel s.track
  credits : CreditsOk s.track s.outlets
  exits : ExitsOk s.outlets

end Sys2Proof.Machine
end

