-- ==== Sys2Proof/Certificates/Slice0/Obligations.lean ====
section
/-! DEFINITION. The statements for the provers. A statement about a request says what its command does to an
accepted frame; `State.replied` and `State.served` say how the reply leaves. -/

open Sys2Proof Sys2Proof.Machine

/-! ## The queue, power-on, what stands -/

/-- A step takes the command at the front of the queue and runs it with the queue's rest. -/
def Obligations.StepRunsFrontCommand : Prop :=
  ∀ (c : Instr) (s : State), step { s with pending := c :: s.pending } = exec c s

/-- R129, R151, R191, in the model's reading of an empty queue (log 2, DESIGN CHOICE): 1 ms passes, the stall
timer measures it, and an idle transmitter begins what waits. Nothing else changes. -/
def Obligations.EmptyQueueIdlesOneMillisecond : Prop :=
  ∀ s : State, s.pending = [] →
    step s = .next { s with
      clock := s.clock + 1
      steam := { s.steam with stallTimer := s.steam.stallTimer.map (· + 1) }
      link := Link.service s.link }

/-- The values after power-on that each chapter's reset table gives, with the three input levels. The model's
own values (logs 22 and 30, DESIGN CHOICE): `holdingFrom`, the step items of `fmu`, the demands used, the outlet port,
the press command. The FLAG-NOTICE is pending outside the queue by log 5 (DEDUCED). -/
def Obligations.PowerOnState : Prop :=
  ∀ (estop binFull seam : Bool) (s : State),
    let raised : BitVec 48 :=
      1#48 ||| (if estop then 1#48 <<< 3 else 0#48) ||| (if binFull then 1#48 <<< 46 else 0#48)
    let settings : SegSettings :=
      { engage := false, depthTrim := 0, feedTrim := 0, tensionLimit := 4095, verify := true }
    exec (.powerOn estop binFull seam) s = .next {
      pending := s.pending, freeIndex := s.freeIndex, clock := 0, web := 0, conv := 0
      geometry := { seamPath := 800000, detectPath := 200000, verifyDist := 6000,
                    zones := ⟨⟨20000, 140000⟩, ⟨140000, 260000⟩, ⟨260000, 380000⟩, ⟨380000, 500000⟩⟩,
                    outletDist := 560000, panelGap := 2000 }
      classes := [], patterns := [], orders := [], nextPanel := 1, track := []
      seq := { line := if estop then .estop else .idle, holdingFrom := .running,
               hold := ⟨false, false, false, false⟩, stop := .none,
               inhibits := ⟨false, false, false, false, false, false, false, false⟩, pace := .stopped,
               baseRate := 60, plan := none, gap := none, kept := none, step := none, backoffs := 0 }
      segs := Six.fill { staged := settings, active := settings, state := .parked, status := .none,
                         waiting := none, cause := .none, retryNow := 0, retryTotal := 0, drive := .none }
      fmu := Six.fill { panelCarry := 50000, gapCarry := 50000, tension := none, inStep := false, depth := 0,
                        left := [], commanded := 0, completed := 0 }
      rcc := { u1 := .empty, u2 := .empty, tailTimer := false,
               settings := { mode := .flying, trigger := 600000, clearance := 10000, tailReserve := 100000,
                             ceiling := 60, debounce := 5, rising := true, confirm := 2000, sbNeed := 200 },
               splice := .idle, slotRequest := false, firePoint := none, pressDue := none,
               unconfirmed := none, detectPoint := none, edgeSeen := false, seams := [], stable := seam,
               candidate := none, debounce := none, matchTimer := false, confirmTimer := none,
               standbyNeeded := false, spindleCommand := none, pressCommand := none }
      zones := Four.fill { sp := 0, standby := 0, kp := 0, temp := none, demand := 0, silenceTimer := true,
                           cold := false }
      steam := { reservations := Five.fill 0, stallLimit := 30, reading := none, supplyTimer := true,
                 meterLost := false, demands := Five.fill 0, grants := Five.fill 0, ceiling := 100,
                 starved := Four.fill 0, satisfied := 0, stallTimer := none, stalled := false }
      verify := { checkers := Six.fill { queue := [], locked := false, run := 0, last := none, matched := 0,
                                         outOfTol := 0, missing := 0, extra := 0 },
                  window := 500, frozen := false, period := .off, timer := false }
      outlets := { stackA := ⟨50, 0, 0⟩, stackB := ⟨50, 0, 0⟩, rewind := ⟨65535, 0, 0⟩, binFull := binFull,
                   exits := [], nextExit := 1, skipped := 0, port := none }
      link := { rx := { state := .hunt, lenBytes := [], buffer := [], checkBytes := [] }, busy := false,
                queue := [], waitingReplies := [], sending := none, notice := some raised,
                noticeQueued := false, flags := raised, masks := 0#48, errors := 0 }
      estopInput := estop }

/-- The state after reset meets the invariant. -/
def Obligations.ResetMeetsInvariant : Prop := State.reset.Inv

/-- Every step keeps the invariant `State.Inv`, from every state that meets it. -/
def Obligations.StepKeepsInvariant : Prop :=
  ∀ s t : State, s.Inv → step s = .next t → t.Inv

/-- No command but power-on, a character (it may complete the frame of a setting request), an e-stop edge and the twelve
setting requests changes a table, a setting, a staged set, the masks, the clock or the commands waiting. That a command
takes no time is the model's choice (log 2, DESIGN CHOICE). -/
def Obligations.SettingsStand : Prop :=
  ∀ (c : Instr) (s t : State), commandSets c = false → exec c s = .next t → t.standing = s.standing

/-- R54, R77: of all commands only the e-stop input going inactive (or power-on) takes the line out of ESTOP. -/
def Obligations.OnlyReleaseLeavesEstop : Prop :=
  ∀ (c : Instr) (s t : State), s.Inv → s.seq.line = .estop → c ≠ .estopInactive →
    (∀ e b d, c ≠ .powerOn e b d) → exec c s = .next t → t.seq.line = .estop

/-! ## The line link -/

/-- R190: the body written for a request reads back as that request, for every request whose operands fit. -/
def Obligations.BodyRoundTrip : Prop :=
  ∀ r : Request, r.wf = true → decodeRequest r.kind r.body = .request r

/-- R187, R188 (log 6): the last CHECK byte of a good frame that carries a request does what the request's command
does, the receiver back in HUNT. -/
def Obligations.LastCheckByteTakesRequest : Prop :=
  ∀ (i : Instr) (tag : Byte) (r : Request) (s : State) (c1 c2 : Byte),
    i.request? = some (tag, r) → r.sendable = true → s.link.rx.state = .check →
    s.link.rx.buffer = r.kind :: tag :: r.body → s.link.rx.checkBytes = [c1] →
    frameCheck s.link.rx.lenBytes s.link.rx.buffer = [c1, c2] →
    exec (.characterReceived c2 false) s = exec i (s.setRx Receiver.hunting)

/-- R188 tests 1 to 3, for every request command: an overrun discards the frame and counts a link error; a second
request is answered BUSY, with its TAG, be it 0 (log 32, DEDUCED); TAG 0 is then answered FORMAT. Nothing else
changes. -/
def Obligations.BadRequestsAnsweredByTests : Prop :=
  ∀ (i : Instr) (tag : Byte) (r : Request) (s : State), i.request? = some (tag, r) →
    (32 ≤ s.link.queue.length →
      exec i s = .next (State.served
        { s with link := { s.link with errors := if 65535 ≤ s.link.errors then 65535 else s.link.errors + 1 } }))
    ∧ (s.link.queue.length < 32 → s.link.busy = true →
      exec i s = .next (State.served
        { s with link := Link.pushReply (.reply (r.kind + 0x80#8) tag [0x01#8] false) s.link }))
    ∧ (s.link.queue.length < 32 → s.link.busy = false → tag = 0#8 →
      exec i s = .next (State.replied r.kind 0#8 .format [] s.processing))

/-- R188, R191, R192: how replies and the FLAG-NOTICE enter the transmit queue, and how entries leave it. A reply enters a
queue with fewer than 32 entries, after a FLAG-NOTICE waiting outside where fewer than 28 are held, and waits otherwise. A
transmitter at work takes nothing; what waits outside still enters where there is room. An idle transmitter with an empty
queue and nothing waiting does nothing; otherwise it takes the oldest entry, a reply or a notice of any kind, and a reply
or FLAG-NOTICE waiting outside enters as that entry leaves, where there is then room. The FLAG-NOTICE is sent with the set
as it stands and is then no longer pending. That a FLAG-NOTICE waits outside while there is room, and enters at a reply's
hand-over or beside a working or idle transmitter with no entry leaving, comes of log 5 (DEDUCED): R192 names an entry
that leaves. -/
def Obligations.TransmitQueueRules : Prop :=
  ∀ (e : TxEntry) (l : Link),
    let sent (x : TxEntry) : Sending := match x with
      | .reply kind tag body closes => ⟨frameBytes kind tag body, closes⟩
      | .flagNotice => ⟨frameBytes 0xC0#8 0#8 (flagBytes (l.notice.getD 0#48)), false⟩
      | .panelOut record => ⟨frameBytes 0xC1#8 0#8 (exitBytes record), false⟩
      | .snapshot content => ⟨frameBytes 0xC2#8 0#8 (snapshotBytes content), false⟩
    let taken (x : TxEntry) (queue : List TxEntry) : Link := { l with
      sending := some (sent x), queue := queue
      notice := if x = .flagNotice then none else l.notice
      noticeQueued := if x = .flagNotice then false else l.noticeQueued }
    let inside := l.notice = none ∨ l.noticeQueued = true
    let outside := l.notice.isSome = true ∧ l.noticeQueued = false
    let n := l.queue.length
    -- a reply is handed over
    (l.waitingReplies = [] →
      (inside → n < 32 → Link.pushReply e l = { l with queue := l.queue ++ [e] })
      ∧ (outside → n < 28 →
        Link.pushReply e l = { l with queue := l.queue ++ [.flagNotice, e], noticeQueued := true })
      ∧ (outside → 28 ≤ n → n < 32 → Link.pushReply e l = { l with queue := l.queue ++ [e] }))
    ∧ (32 ≤ n → Link.pushReply e l = { l with waitingReplies := l.waitingReplies ++ [e] })
    -- the transmitter is at work
    ∧ (l.sending.isSome = true →
      (l.waitingReplies = [] → inside → Link.service l = l)
      ∧ (l.waitingReplies = [] → outside → n < 28 →
        Link.service l = { l with queue := l.queue ++ [.flagNotice], noticeQueued := true })
      ∧ (l.waitingReplies = [] → 28 ≤ n → Link.service l = l)
      ∧ (∀ w more, l.waitingReplies = w :: more → n < 32 → (inside ∨ 28 ≤ n) →
        Link.service l = { l with queue := l.queue ++ [w], waitingReplies := more })
      ∧ (32 ≤ n → Link.service l = l))
    -- the transmitter is idle
    ∧ (l.sending = none →
      (l.queue = [] → l.waitingReplies = [] → inside → Link.service l = l)
      ∧ (l.queue = [] → l.waitingReplies = [] → outside → Link.service l = taken .flagNotice [])
      ∧ (∀ x rest, l.queue = x :: rest →
        (l.waitingReplies = [] → inside → Link.service l = taken x rest)
        ∧ (l.waitingReplies = [] → outside → x ≠ .flagNotice → rest.length < 28 →
          Link.service l = { taken x (rest ++ [.flagNotice]) with noticeQueued := true })
        ∧ (l.waitingReplies = [] → outside → x ≠ .flagNotice → 28 ≤ rest.length → Link.service l = taken x rest)
        ∧ (∀ w more, l.waitingReplies = w :: more → rest.length = 31 →
          Link.service l = { taken x (rest ++ [w]) with waitingReplies := more })))

/-- R187, R188, R191: what the receiver does with each character. A good frame whose KIND no request has is answered
UNKNOWN, with KIND plus 80H, or FFH outside 01H..3FH; one whose BODY has a length no request of its KIND has, or a
presence, on/off or step byte other than 0 and 1, is answered FORMAT; neither does anything else. The character gap
discards what is collected without an error; the last byte of a frame sent frees the transmitter, and ends the
request's processing when the frame is its reply. -/
def Obligations.ReceiverFollowsItsTable : Prop :=
  (∀ (c : Byte) (s : State),
    let rx := s.link.rx
    let goes (r : Receiver) : Host.Outcome State Fault Refusal := .next (State.served (s.setRx r))
    let hunt : Receiver := ⟨.hunt, [], [], []⟩
    let error : Host.Outcome State Fault Refusal := .next (State.served { s with link := { s.link with
      rx := hunt, errors := if 65535 ≤ s.link.errors then 65535 else s.link.errors + 1 } })
    let next := exec (.characterReceived c false) s
    (rx.state = .hunt → next = if c = 0xA5#8 then goes ⟨.sync, [], [], []⟩ else goes hunt)
    ∧ (rx.state = .sync → next = if c = 0x5A#8 then goes ⟨.length, [], [], []⟩
        else if c = 0xA5#8 then goes ⟨.sync, [], [], []⟩ else goes hunt)
    ∧ (rx.state = .length → rx.lenBytes = [] → next = goes { rx with lenBytes := [c] })
    ∧ (∀ f, rx.state = .length → rx.lenBytes = [f] →
        next = if 2 ≤ f.toNat + 256 * c.toNat ∧ f.toNat + 256 * c.toNat ≤ 1026
          then goes ⟨.content, [f, c], [], []⟩ else goes hunt)
    ∧ (∀ f g, rx.state = .content → rx.lenBytes = [f, g] →
        next = if rx.buffer.length + 1 < f.toNat + 256 * g.toNat then goes { rx with buffer := rx.buffer ++ [c] }
          else goes ⟨.check, [f, g], rx.buffer ++ [c], []⟩)
    ∧ (rx.state = .check → rx.checkBytes = [] → next = goes { rx with checkBytes := [c] })
    ∧ (∀ d, rx.state = .check → rx.checkBytes = [d] → frameCheck rx.lenBytes rx.buffer ≠ [d, c] → next = error)
    ∧ (∀ d kind tag body, rx.state = .check → rx.checkBytes = [d] → frameCheck rx.lenBytes rx.buffer = [d, c] →
        rx.buffer = kind :: tag :: body → s.Accepts tag →
        let answer (replyKind code : Byte) : Host.Outcome State Fault Refusal := .next (State.served { s with
          link := Link.pushReply (.reply replyKind tag [code] true) { s.link with rx := hunt, busy := true } })
        ((∀ r : Request, r.kind ≠ kind) →
          next = answer (if 1 ≤ kind.toNat ∧ kind.toNat ≤ 0x3F then kind + 0x80#8 else 0xFF#8) 0x02#8)
        ∧ ((∃ r : Request, r.kind = kind) → (∀ r : Request, r.kind = kind → r.body.length ≠ body.length) →
          next = answer (kind + 0x80#8) 0x03#8)
        ∧ (∀ k b, body[k]? = some b → 2 ≤ b.toNat →
          (kind = 0x01#8 ∧ k = 2 ∨ kind = 0x04#8 ∧ k ∈ [1, 14] ∨ kind = 0x08#8 ∧ k = 15
            ∨ kind = 0x10#8 ∧ k ∈ [1, 2, 3, 6, 9, 12, 13]) →
          next = answer (kind + 0x80#8) 0x03#8))
    ∧ exec (.characterReceived c true) s = error)
  ∧ (∀ s : State,
    exec .characterGapTimeout s = .next (State.served (s.setRx ⟨.hunt, [], [], []⟩))
    ∧ (∀ f, s.link.sending = some f →
      exec .transmitFrameDone s = .next (State.served { s with link := { s.link with
        sending := none, busy := if f.closes then false else s.link.busy } }))
    ∧ (s.link.sending = none → exec .transmitFrameDone s = .next (State.served s)))

/-- R192, R194: raising a flag. -/
def Obligations.RaiseLatchesAndNotifies : Prop :=
  ∀ (f : Flag) (s : State),
    let bit := 1#48 <<< f.number
    let l := s.link
    (l.flags.getLsbD f.number = true → s.raise f = s)
    ∧ (l.flags.getLsbD f.number = false → l.masks.getLsbD f.number = true →
      s.raise f = { s with link := { l with flags := l.flags ||| bit } })
    ∧ (∀ set, l.flags.getLsbD f.number = false → l.masks.getLsbD f.number = false → l.notice = some set →
      s.raise f = { s with link := { l with flags := l.flags ||| bit, notice := some (set ||| bit) } })
    ∧ (l.flags.getLsbD f.number = false → l.masks.getLsbD f.number = false → l.notice = none →
      l.queue.length < 28 →
      s.raise f = { s with link := { l with
        flags := l.flags ||| bit, notice := some bit, noticeQueued := true, queue := l.queue ++ [.flagNotice] } })
    ∧ (l.flags.getLsbD f.number = false → l.masks.getLsbD f.number = false → l.notice = none →
      28 ≤ l.queue.length →
      s.raise f = { s with link := { l with flags := l.flags ||| bit, notice := some bit, noticeQueued := false } })

/-- R195: READ-FLAGS, in any line state, answers the flags as they stand, and every flag is then clear. A flag raised
before it shows in the reply; one raised after it is set again and, when unmasked, notified again. A MASK-SET write
(R196) replaces the masks. -/
def Obligations.FlagsReadAndMasked : Prop :=
  ∀ (tag : Byte) (m : BitVec 48) (f : Flag) (s : State), s.Accepts tag →
    let reads (x : State) : Prop := exec (.readFlags tag) x = .next (State.replied 0x34#8 tag .ok (flagBytes x.link.flags)
      { x with link := { x.link with busy := true, flags := 0#48 } })
    reads s ∧ reads (s.raise f) ∧ (s.raise f).link.flags.getLsbD f.number = true
    ∧ (∃ t, exec (.readFlags tag) s = .next t ∧ t.link.flags = 0#48 ∧ t.link.masks = s.link.masks
      ∧ (t.raise f).link.flags = 1#48 <<< f.number
      ∧ (s.link.masks.getLsbD f.number = false →
        ∃ set, (t.raise f).link.notice = some set ∧ set.getLsbD f.number = true))
    ∧ exec (.maskSet tag (some m)) s = .next (State.replied 0x38#8 tag .ok (flagBytes m)
      { s with link := { s.link with busy := true, masks := m } })

/-! ## Patterns, classes, geometry -/

/-- R16, R19, R21, R25 to R27: a valid pattern for a slot in use is IN_USE; with more steps than the pool's free count
and the slot's own steps, NO_ROOM; otherwise it is stored. The reply carries the slot, the free count, the steps held,
and the cause NONE, whose byte 0 is log 7's (DEDUCED). Every other slot keeps its pattern. -/
def Obligations.PatDefineStores : Prop :=
  ∀ (tag : Byte) (slot : Nat) (p : List PatStep) (s : State), s.Accepts tag → 1 ≤ slot → slot ≤ 48 →
    1 ≤ p.length → p.length ≤ 64 → (∀ x ∈ p, fieldsInRange x ∧ lockFits x) →
    (p.map strokesOf).sum ≤ 2000 → (p.map deliveredOf).sum ≤ 1500000 →
    let used := (∃ o ∈ s.orders, o.slot = slot) ∨ ∃ x, s.forming? = some x ∧ x.slot = slot
    let refuses (code : ResultCode) : Prop := exec (.patDefine tag slot p) s = .next (State.replied 0x01#8 tag code
      (u8 slot ++ u16 s.freeEntries ++ u8 (s.stepsIn slot) ++ u8 0 ++ u8 0) s.processing)
    let t : State := { s.processing with patterns := s.patterns.insert slot p }
    (used → refuses .inUse)
    ∧ (¬ used → s.freeEntries + s.stepsIn slot < p.length → refuses .noRoom)
    ∧ (¬ used → p.length ≤ s.freeEntries + s.stepsIn slot →
      exec (.patDefine tag slot p) s = .next (State.replied 0x01#8 tag .ok
        (u8 slot ++ u16 t.freeEntries ++ u8 p.length ++ u8 0 ++ u8 0) t))
    ∧ t.pattern? slot = some p ∧ ∀ n, n ≠ slot → t.pattern? n = s.pattern? n

/-- R25: the validity tests of PAT-DEFINE in order, each with its cause and step index: the slot, the step count, the
first step that fails (STEP_FIELD before LOCK_LENGTH), the strokes, the length. Nothing is stored, whether or not the
slot is in use. The causes' numbers are log 7's. -/
def Obligations.PatDefineNamesFirstBadStep : Prop :=
  ∀ (tag : Byte) (slot : Nat) (p : List PatStep) (s : State), s.Accepts tag →
    let refuses (cause index : Nat) : Prop := exec (.patDefine tag slot p) s = .next (State.replied 0x01#8 tag .range
      (u8 slot ++ u16 s.freeEntries ++ u8 (s.stepsIn slot) ++ u8 cause ++ u8 index) s.processing)
    let fine (x : PatStep) : Prop := fieldsInRange x ∧ lockFits x
    (slot < 1 ∨ 48 < slot → refuses 1 0)
    ∧ (1 ≤ slot → slot ≤ 48 →
      (p = [] ∨ 64 < p.length → refuses 2 0)
      ∧ (∀ good bad rest, p = good ++ bad :: rest → p.length ≤ 64 → (∀ x ∈ good, fine x) →
        (¬ fieldsInRange bad → refuses 3 (good.length + 1))
        ∧ (fieldsInRange bad → ¬ lockFits bad → refuses 4 (good.length + 1)))
      ∧ (1 ≤ p.length → p.length ≤ 64 → (∀ x ∈ p, fine x) →
        (2000 < (p.map strokesOf).sum → refuses 5 0)
        ∧ ((p.map strokesOf).sum ≤ 2000 → 1500000 < (p.map deliveredOf).sum → refuses 6 0)))

/-- R28: PAT-DROP by its four tests in order; an accepted drop empties that slot alone, and an ORDER-ADD naming it, in
any state with the patterns so left, is NOT_FOUND. The web track stays as it is. -/
def Obligations.PatDropEmptiesSlot : Prop :=
  ∀ (tag : Byte) (slot : Nat) (s : State), s.Accepts tag → s.patterns.wf = true →
    let t : State := { s.processing with patterns := s.patterns.erase slot }
    exec (.patDrop tag slot) s = .next
      (if slot < 1 ∨ 48 < slot then
        State.replied 0x02#8 tag .range (u8 slot ++ u16 s.freeEntries) s.processing
      else if s.pattern? slot = none then
        State.replied 0x02#8 tag .notFound (u8 slot ++ u16 s.freeEntries) s.processing
      else if s.slotInUse slot = true then
        State.replied 0x02#8 tag .inUse (u8 slot ++ u16 s.freeEntries) s.processing
      else State.replied 0x02#8 tag .ok (u8 slot ++ u16 t.freeEntries) t)
    ∧ t.track = s.track ∧ t.pattern? slot = none ∧ (∀ n, n ≠ slot → t.pattern? n = s.pattern? n)
    ∧ ∀ (again : Byte) (b : OrderBody) (u : State), u.Accepts again → u.patterns = t.patterns → b.slot = slot →
      (1 ≤ b.tag ∧ b.tag ≤ 65535) → (1 ≤ slot ∧ slot ≤ 48) → (b.cls < 16 ∧ u.class? b.cls ≠ none) →
      (800 ≤ b.grade ∧ b.grade ≤ 1250) → (1 ≤ b.panels ∧ b.panels ≤ 9999) → b.foldLimit ≤ 65535 →
      b.seamPolicy ≤ 1 → (1 ≤ b.prefCount ∧ b.prefCount ≤ 3) →
      (([b.pref1, b.pref2, b.pref3].take b.prefCount).Nodup
        ∧ ∀ n ∈ [b.pref1, b.pref2, b.pref3].take b.prefCount, n ≤ 2) →
      exec (.orderAdd again b) u = .next (State.replied 0x08#8 again .notFound (u8 u.orders.length) u.processing)

/-- R10, R11: CLASS-SET defines or undefines a class that nothing names; RANGE comes before IN_USE; a refused
request changes nothing. -/
def Obligations.ClassSetDefines : Prop :=
  ∀ (tag : Byte) (n : Nat) (c : FabricClass) (s : State), s.Accepts tag →
    let used := (∃ o ∈ s.orders, o.cls = n) ∨ (∃ p ∈ s.track, p.cls = n)
      ∨ s.rcc.u1.names n = true ∨ s.rcc.u2.names n = true
    let answer (code : ResultCode) (t : State) : Host.Outcome State Fault Refusal :=
      .next (State.replied 0x04#8 tag code [] t)
    (16 ≤ n → exec (.classSet tag n (some c)) s = answer .range s.processing
      ∧ exec (.classSet tag n none) s = answer .range s.processing)
    ∧ (n < 16 → ¬ classInRange c → exec (.classSet tag n (some c)) s = answer .range s.processing)
    ∧ (n < 16 → classInRange c → used → exec (.classSet tag n (some c)) s = answer .inUse s.processing)
    ∧ (n < 16 → used → exec (.classSet tag n none) s = answer .inUse s.processing)
    ∧ (n < 16 → classInRange c → ¬ used →
      exec (.classSet tag n (some c)) s = answer .ok { s.processing with classes := s.classes.insert n c })
    ∧ (n < 16 → ¬ used →
      exec (.classSet tag n none) s = answer .ok { s.processing with classes := s.classes.erase n })

/-- R4, R6 to R8: a LINE-GEOMETRY write: STATE unless the line is IDLE with an empty web track; RANGE where a
constraint fails; otherwise all thirteen settings are replaced and every expected-fold queue is emptied. -/
def Obligations.GeometryWriteTaken : Prop :=
  ∀ (tag : Byte) (g : Geometry) (s : State), s.Accepts tag →
    let consistent := (100000 ≤ g.seamPath ∧ g.seamPath ≤ 3000000)
      ∧ (10000 ≤ g.detectPath ∧ g.detectPath + 10000 ≤ g.seamPath)
      ∧ (1000 ≤ g.verifyDist ∧ g.verifyDist ≤ 12000 ∧ g.verifyDist + s.verify.window ≤ 12600)
      ∧ g.verifyDist < g.zones.z1.start ∧ g.zones.z1.start < g.zones.z1.stop
      ∧ g.zones.z1.stop ≤ g.zones.z2.start ∧ g.zones.z2.start < g.zones.z2.stop
      ∧ g.zones.z2.stop ≤ g.zones.z3.start ∧ g.zones.z3.start < g.zones.z3.stop
      ∧ g.zones.z3.stop ≤ g.zones.z4.start ∧ g.zones.z4.start < g.zones.z4.stop
      ∧ (g.zones.z4.stop ≤ g.outletDist ∧ g.outletDist ≤ 4000000) ∧ g.panelGap ≤ 50000
    (s.seq.line ≠ .idle ∨ s.track ≠ [] → exec (.lineGeometry tag (some g)) s =
      .next (State.replied 0x25#8 tag .state (geometryItems s.geometry) s.processing))
    ∧ (s.seq.line = .idle → s.track = [] → ¬ consistent → exec (.lineGeometry tag (some g)) s =
      .next (State.replied 0x25#8 tag .range (geometryItems s.geometry) s.processing))
    ∧ (s.seq.line = .idle → s.track = [] → consistent → exec (.lineGeometry tag (some g)) s =
      .next (State.replied 0x25#8 tag .ok (geometryItems g) { s.processing with
        geometry := g
        verify := { s.verify with checkers := s.verify.checkers.map fun k => { k with queue := [], last := none } } }))

/-- R13, R29, R30: PAT-READ of a slot that holds a pattern, of the directory, of an empty slot and of no slot;
CLASS-READ. They change nothing. The layout of an undefined entry is log 7's. -/
def Obligations.TableReadsAnswer : Prop :=
  ∀ (tag : Byte) (n : Nat) (s : State), s.Accepts tag →
    let inForming := match s.forming? with
      | some x => decide (x.slot = n)
      | none => false
    (∀ p, 1 ≤ n → n ≤ 48 → s.pattern? n = some p → exec (.patRead tag n) s =
      .next (State.replied 0x03#8 tag .ok
        (u8 p.length ++ p.flatMap patStepItems ++ u16 (totalStrokes p) ++ u32 (totalLength p)
          ++ u8 (s.orders.filter (fun o => o.slot = n)).length ++ yesNo inForming ++ u16 s.freeEntries)
        s.processing))
    ∧ (1 ≤ n → n ≤ 48 → s.pattern? n = none → exec (.patRead tag n) s =
      .next (State.replied 0x03#8 tag .notFound (u8 n ++ u16 s.freeEntries) s.processing))
    ∧ (n = 0 → exec (.patRead tag n) s =
      .next (State.replied 0x03#8 tag .ok (u16 s.freeEntries ++ (List.range' 1 48).flatMap fun k =>
        u8 (s.stepsIn k) ++ u16 (totalStrokes ((s.pattern? k).getD [])) ++ yesNo (s.slotInUse k)) s.processing))
    ∧ (48 < n → exec (.patRead tag n) s =
      .next (State.replied 0x03#8 tag .range (u16 s.freeEntries) s.processing))
    ∧ (n < 16 → exec (.classRead tag n) s =
      .next (State.replied 0x05#8 tag .ok
        ((match s.class? n with
          | some c => u8 1 ++ classItems c
          | none => List.replicate 20 0#8)
          ++ yesNo (s.rcc.u1.names n || s.rcc.u2.names n) ++ yesNo (s.orders.any fun o => decide (o.cls = n))
          ++ yesNo (s.track.any fun p => decide (p.cls = n))) s.processing))
    ∧ (16 ≤ n → exec (.classRead tag n) s = .next (State.replied 0x05#8 tag .range [] s.processing))

/-- The queries and reading requests that refuse nothing (R7, R46, R120, R138, R144, R168, R170, R175, R183, R196,
R197): each is answered OK with the items as they stand, in any line state, and changes nothing. READ-TRACK and
READ-EXITS carry the number held and then the list's own count (log 7, DEDUCED). -/
def Obligations.QueriesChangeNothing : Prop :=
  ∀ (tag : Byte) (start : Nat) (z : Fin 4) (s : State), s.Accepts tag →
    let answer (kind : Byte) (items : List Byte) : Host.Outcome State Fault Refusal :=
      .next (State.replied kind tag .ok items s.processing)
    let panels := s.track.dropWhile fun p => decide (p.number < start)
    let exits := s.outlets.exits.dropWhile fun x => decide (x.number < start)
    exec (.lineGeometry tag none) s = answer 0x25#8 (geometryItems s.geometry)
    ∧ exec (.spliceSet tag none) s = answer 0x1A#8 (spliceItems s.rcc.settings)
    ∧ exec (.zoneSet tag z.val none) s = answer 0x28#8 (zoneItems z s)
    ∧ exec (.steamSet tag none) s = answer 0x29#8 (steamItems s)
    ∧ exec (.outletSet tag none) s = answer 0x2A#8 (outletItems s)
    ∧ exec (.verifySet tag none) s = answer 0x2C#8 (verifyItems s)
    ∧ exec (.maskSet tag none) s = answer 0x38#8 (flagBytes s.link.masks)
    ∧ exec (.readTrack tag start) s = answer 0x30#8
      (u8 s.track.length ++ u64 s.conv ++ u8 (panels.take 12).length ++ (panels.take 12).flatMap panelBytes
        ++ yesNo (decide (12 < panels.length)))
    ∧ exec (.readExits tag start) s = answer 0x31#8
      (u8 s.outlets.exits.length ++ u32 s.outlets.nextExit ++ u16 s.outlets.skipped
        ++ u8 (exits.take 8).length ++ (exits.take 8).flatMap exitBytes ++ yesNo (decide (8 < exits.length)))
    ∧ exec (.readCounters tag) s = answer 0x32#8
      (s.verify.checkers.toList.flatMap checkerItems ++ verifyItems s ++ u64 s.conv)
    ∧ exec (.readStatus tag) s = answer 0x33#8 (statusItems s)

/-! ## Orders -/

/-- R53: ORDER-LIST, in any line state: the number of orders and every order in queue order, head first, with all
the fields of Table 4.1.1; a reply has room for sixteen (R190). In the reading of log 7 (DEDUCED) the number of orders
stands once, as the list's own count byte. -/
def Obligations.OrderListAnswersEveryOrder : Prop :=
  ∀ (tag : Byte) (s : State), s.Accepts tag →
    exec (.orderList tag) s = .next (State.replied 0x0A#8 tag .ok
      (u8 s.orders.length
        ++ (s.orders.flatMap fun o =>
          u16 o.tag ++ u8 o.slot ++ u8 o.cls ++ u16 o.grade ++ u16 o.panels
            ++ (u8 o.prefs.length ++ o.prefs.flatMap (fun n => u8 n.byte)
              ++ List.replicate (3 - o.prefs.length) 0#8)
            ++ u8 o.seamPolicy.byte ++ u16 o.foldLimit ++ yesNo o.verifyRequired ++ u16 o.started
            ++ u16 o.ended ++ u8 o.cancel.byte)
        ++ List.replicate ((16 - s.orders.length) * 21) 0#8) s.processing)

/-- R49, R50, R57a: ORDER-ADD by its tests in order: RANGE for a field out of range, a bad preference list or a class
that is not defined; NOT_FOUND for a slot that holds no pattern; IN_USE for a tag in the queue; NO_ROOM. An accepted
order is appended at the tail, and a WAITING line evaluates its inhibits again. Preference bytes beyond the count are
ignored (log 7, DEDUCED). -/
def Obligations.OrderAddAppends : Prop :=
  ∀ (tag : Byte) (b : OrderBody) (s : State), s.Accepts tag →
    let prefs := [b.pref1, b.pref2, b.pref3].take b.prefCount
    let outlet (n : Nat) : Outlet := if n = 0 then .stackA else if n = 1 then .stackB else .rewind
    let order : Order := {
      tag := b.tag, slot := b.slot, cls := b.cls, grade := b.grade, panels := b.panels
      prefs := prefs.map outlet, seamPolicy := if b.seamPolicy = 0 then .skip else .mark
      foldLimit := b.foldLimit, verifyRequired := b.verifyRequired, started := 0, ended := 0, cancel := .none }
    let answer (code : ResultCode) (t : State) : Host.Outcome State Fault Refusal :=
      .next (State.replied 0x08#8 tag code (u8 t.orders.length) t)
    let allowed := (1 ≤ b.tag ∧ b.tag ≤ 65535) ∧ (1 ≤ b.slot ∧ b.slot ≤ 48) ∧ (b.cls < 16 ∧ s.class? b.cls ≠ none)
      ∧ (800 ≤ b.grade ∧ b.grade ≤ 1250) ∧ (1 ≤ b.panels ∧ b.panels ≤ 9999) ∧ b.foldLimit ≤ 65535
      ∧ b.seamPolicy ≤ 1 ∧ (1 ≤ b.prefCount ∧ b.prefCount ≤ 3) ∧ prefs.Nodup ∧ (∀ n ∈ prefs, n ≤ 2)
    (¬ allowed → exec (.orderAdd tag b) s = answer .range s.processing)
    ∧ (allowed → s.pattern? b.slot = none → exec (.orderAdd tag b) s = answer .notFound s.processing)
    ∧ (allowed → s.pattern? b.slot ≠ none → (∃ o ∈ s.orders, o.tag = b.tag) →
      exec (.orderAdd tag b) s = answer .inUse s.processing)
    ∧ (allowed → s.pattern? b.slot ≠ none → (∀ o ∈ s.orders, o.tag ≠ b.tag) → 16 ≤ s.orders.length →
      exec (.orderAdd tag b) s = answer .noRoom s.processing)
    ∧ (allowed → s.pattern? b.slot ≠ none → (∀ o ∈ s.orders, o.tag ≠ b.tag) → s.orders.length < 16 →
      exec (.orderAdd tag b) s =
        answer .ok (State.thenReevaluate s { s.processing with orders := s.orders ++ [order] }))

/-- R52: ORDER-CANCEL: RANGE for a mode that is none, NOT_FOUND for a tag not in the queue. An order without a FORMING
panel leaves the queue at once with ORDER_DONE, and a WAITING line evaluates its inhibits again. The head order with a
FORMING panel gets a cancel pending, where ABANDON stays over AFTER_PANEL; ABANDON in a line that stands at an open
boundary in IDLE or HELD ends the panel there with reason ABANDONED, and the order leaves. Whether the order was removed
is answered 0 or 1 (log 7). -/
def Obligations.OrderCancelRemovesOrPends : Prop :=
  ∀ (tag : Byte) (n mode : Nat) (s : State), s.Accepts tag →
    let run := exec (.orderCancel tag n mode) s
    let absent (o : Order) : Bool := decide (o.tag ≠ n)
    (2 ≤ mode → run = .next (State.replied 0x09#8 tag .range [] s.processing))
    ∧ (mode ≤ 1 → s.orders.all absent = true → run = .next (State.replied 0x09#8 tag .notFound [] s.processing))
    ∧ (mode ≤ 1 → (∃ o ∈ s.orders, o.tag = n) →
      (∀ o rest, s.orders = o :: rest → o.tag ≠ n ∨ s.forming? = none) →
      run = .next (State.replied 0x09#8 tag .ok (u8 0) (State.thenReevaluate s
        (State.raise .orderDone { s.processing with orders := s.orders.filter absent }))))
    ∧ (∀ o rest x, mode ≤ 1 → s.seq.line ≠ .waiting → s.orders = o :: rest → o.tag = n → s.forming? = some x →
      (mode = 0 ∧ o.cancel ≠ .abandon ∨ s.seq.step.isSome = true) →
      run = .next (State.replied 0x09#8 tag .ok (u8 1) { s.processing with orders := { o with
          cancel := if mode = 1 ∨ o.cancel = .abandon then .abandon else .afterPanel } :: rest }))
    ∧ (∀ o rest x, mode = 1 → (s.seq.line = .idle ∨ s.seq.line = .held) → s.orders = o :: rest → o.tag = n →
      rest.all absent = true → s.forming? = some x → s.seq.step = none → s.boundaryClosed = false →
      ∃ t, run = .next (State.replied 0x09#8 tag .ok (u8 0) t) ∧ t.orders = rest ∧ t.forming? = none
        ∧ t.seq.plan = none ∧ t.conv = s.conv
        ∧ t.track = s.track.map fun p => if p.state = .forming then { p with
            state := .travelling, tail := some s.conv, reasons := { p.reasons with abandoned := true } } else p)

/-! ## Segments -/

/-- R80: the values present replace the staged ones of every segment in the mask; an empty mask, a bit beyond S5 or
a value out of range is refused with RANGE and changes nothing. The active sets are not touched. The answer lists the
staged sets of the mask (log 7). -/
def Obligations.SegStageReplaces : Prop :=
  ∀ (tag : Byte) (mask : Nat) (b : StageBody) (s : State), s.Accepts tag →
    let allowed := (1 ≤ mask ∧ mask < 64) ∧ (∀ v, b.depthTrim = some v → -300 ≤ v ∧ v ≤ 300)
      ∧ (∀ v, b.feedTrim = some v → -2000 ≤ v ∧ v ≤ 2000)
      ∧ (∀ v, b.tensionLimit = some v → 100 ≤ v ∧ v ≤ 4095)
    let staged (g : Segment) : SegSettings := {
      engage := b.engage.getD g.staged.engage, depthTrim := b.depthTrim.getD g.staged.depthTrim
      feedTrim := b.feedTrim.getD g.staged.feedTrim
      tensionLimit := b.tensionLimit.getD g.staged.tensionLimit, verify := b.verify.getD g.staged.verify }
    (¬ allowed → exec (.segStage tag mask b) s = .next (State.replied 0x10#8 tag .range [] s.processing))
    ∧ (allowed → exec (.segStage tag mask b) s = .next (State.replied 0x10#8 tag .ok
        (perSegment 8 mask fun i => settingItems (staged (s.segs.get i)))
        { s.processing with
          segs := Six.tabulate fun i =>
            if mask.testBit i.val then { s.segs.get i with staged := staged (s.segs.get i) }
            else s.segs.get i }))

/-- R93: SEG-READ, in every line state, changes nothing and answers for each segment of the mask the two sets, the
state, the config status, the fault cause, the two retry counts and the held tension sample or its absence. In the
reading of log 7 (DEDUCED) these form one list of R190, with its count byte and zeros up to six entries. -/
def Obligations.SegReadAnswersEachSegment : Prop :=
  ∀ (tag : Byte) (mask : Nat) (s : State), s.Accepts tag →
    let settings (x : SegSettings) : List Byte :=
      yesNo x.engage ++ s16 x.depthTrim ++ s16 x.feedTrim ++ u16 x.tensionLimit ++ yesNo x.verify
    let items (i : Fin 6) : List Byte :=
      let g := s.segs.get i
      settings g.staged ++ settings g.active ++ u8 g.state.byte ++ u8 g.status.byte ++ u8 g.cause.byte
        ++ u8 g.retryNow ++ u16 g.retryTotal
        ++ (match (s.fmu.get i).tension with
          | some v => u8 1 ++ u16 v
          | none => u8 0 ++ u16 0)
    (mask = 0 ∨ 64 ≤ mask →
      exec (.segRead tag mask) s = .next (State.replied 0x13#8 tag .range [] s.processing))
    ∧ (1 ≤ mask → mask < 64 → exec (.segRead tag mask) s =
      .next (State.replied 0x13#8 tag .ok (perSegment 25 mask items) s.processing))

/-- R81 to R85: SEG-APPLY: RANGE for a bad mask or mode, STATE in ESTOP, then segment by segment of the mask. A busy or
moving segment is ignored and makes the answer PARTIAL, a FAULTED one is rejected, and NOW is rejected where ENGAGE or
VERIFY would change. In a line that makes steps, and in one standing inside a step (BOUNDARY: or inside a panel), the
copies wait. In IDLE, WAITING or HELD between steps a NOW copy is carried out at once and takes the three trims and
limits alone, and a WAITING line evaluates its inhibits again (R57a). At a panel boundary the BOUNDARY copies are carried
out together: outside IDLE, where they would leave ENGAGE on nowhere, those that turn it off are REJ_LAST_SEGMENT. A
WAITING line evaluates its inhibits again after these too, the ones set directly to DONE among them (log 25, DEDUCED).
The statuses answered form one list (log 7). -/
def Obligations.SegApplyBySegment : Prop :=
  ∀ (tag : Byte) (mask mode : Nat) (s : State), s.Accepts tag →
    let taken := (1 ≤ mask ∧ mask < 64) ∧ mode ≤ 1
    let ignored (g : Segment) : Bool := decide (g.status = .pending) || decide (g.status = .inProgress)
      || decide (g.state = .engaging) || decide (g.state = .parking)
    let needsBoundary (g : Segment) : Bool :=
      decide (g.staged.engage ≠ g.active.engage) || decide (g.staged.verify ≠ g.active.verify)
    let copied (g : Segment) : Bool :=
      !ignored g && decide (g.state ≠ .faulted) && !(decide (mode = 1) && needsBoundary g)
    let waits : ApplyMode := if mode = 0 then .boundary else .now
    let outcome (copy : Segment → Segment) (g : Segment) : Segment :=
      if ignored g then g
      else if g.state = .faulted then { g with status := .rejFaulted, waiting := none }
      else if mode = 1 ∧ needsBoundary g = true then { g with status := .rejNotNow, waiting := none }
      else copy g
    let after (copy : Segment → Segment) : State := { s.processing with
      segs := Six.tabulate fun i =>
        if mask.testBit i.val then outcome copy (s.segs.get i) else s.segs.get i }
    let nowCopied : State := after fun g => { g with
      active := { g.active with depthTrim := g.staged.depthTrim, feedTrim := g.staged.feedTrim,
                                tensionLimit := g.staged.tensionLimit }
      status := .done, waiting := none }
    let turned := (maskSegs mask).filter fun i => ignored (s.segs.get i)
    let answer (t : State) : Host.Outcome State Fault Refusal :=
      let statuses := perSegment 1 mask fun i => u8 (t.segs.get i).status.byte
      .next (if turned = [] then State.replied 0x11#8 tag .ok statuses t
        else State.replied 0x11#8 tag .partial_
          (u8 (segMask (Six.tabulate fun i => decide (i ∈ turned))) ++ statuses) t)
    let stands := s.seq.line = .idle ∨ s.seq.line = .waiting ∨ s.seq.line = .held
    (¬ taken → exec (.segApply tag mask mode) s = .next (State.replied 0x11#8 tag .range [] s.processing))
    ∧ (taken → s.seq.line = .estop →
      exec (.segApply tag mask mode) s = .next (State.replied 0x11#8 tag .state [] s.processing))
    ∧ (taken → (s.seq.line = .running ∨ s.seq.line = .holding ∨ s.seq.line = .draining)
        ∨ stands ∧ (s.seq.step.isSome = true ∨ mode = 0 ∧ s.forming?.isSome = true) →
      exec (.segApply tag mask mode) s =
        answer (after fun g => { g with status := .pending, waiting := some waits }))
    ∧ (taken → stands → s.seq.step = none → mode = 1 →
      exec (.segApply tag mask mode) s = answer
        (if (maskSegs mask).any (fun i => copied (s.segs.get i)) = true then State.thenReevaluate s nowCopied
          else nowCopied))
    ∧ (taken → stands → s.seq.step = none → s.forming? = none → mode = 0 →
      let on (i : Fin 6) : Bool :=
        let g := s.segs.get i
        if mask.testBit i.val = true ∧ copied g = true then g.staged.engage else g.active.engage
      let refuse := s.seq.line ≠ .idle ∧ ∀ i, on i = false
      ∃ t, exec (.segApply tag mask mode) s = answer
          (if (maskSegs mask).any (fun i =>
              copied (s.segs.get i) && decide ((t.segs.get i).status ≠ .rejLastSegment)) = true then
            State.thenReevaluate s t else t)
        ∧ t.seq = s.seq ∧ t.track = s.track
        ∧ ∀ i, t.segs.get i = if mask.testBit i.val then outcome (fun g =>
            if refuse ∧ g.active.engage = true ∧ g.staged.engage = false then
              { g with status := .rejLastSegment, waiting := none }
            else if g.active.engage = g.staged.engage then
              { g with active := g.staged, status := .done, waiting := none }
            else if g.staged.engage = true then { g with
              active := g.staged, state := .engaging, drive := .home, status := .inProgress, waiting := none }
            else { g with
              active := g.staged, state := .parking, drive := .park, status := .inProgress, waiting := none })
            (s.segs.get i)
          else s.segs.get i)

/-- R57a, R84, R85, R87, R88: in IDLE, WAITING or HELD at a panel boundary a BOUNDARY copy of one segment, neither busy,
moving nor FAULTED, is carried out at once: the staged set becomes active; ENGAGE turned on homes the segment, turned
off parks it, and the copy is then IN_PROGRESS; otherwise it is DONE. In WAITING and HELD the copy that would turn the
last ENGAGE off is REJ_LAST_SEGMENT instead. A WAITING line evaluates its inhibits again after a copy carried out: R57a
says so of a segment state that changes, and log 25 (DEDUCED) of a copy set directly to DONE. The status is answered as
a list of one entry (log 7). -/
def Obligations.BoundaryCopyMovesSegment : Prop :=
  ∀ (tag : Byte) (i : Fin 6) (s : State), s.Accepts tag →
    let g := s.segs.get i
    (s.seq.line = .idle ∨ s.seq.line = .waiting ∨ s.seq.line = .held) →
    s.forming? = none → s.seq.step = none → g.status ≠ .pending → g.status ≠ .inProgress →
    g.state ≠ .engaging → g.state ≠ .parking → g.state ≠ .faulted →
    let put (x : Segment) : State := { s.processing with segs := s.segs.set i x }
    let answer (t : State) : Host.Outcome State Fault Refusal :=
      .next (State.replied 0x11#8 tag .ok
        (u8 1 ++ u8 (t.segs.get i).status.byte ++ List.replicate 5 0#8) t)
    exec (.segApply tag (2 ^ i.val) 0) s =
      if s.seq.line ≠ .idle ∧ g.active.engage = true ∧ g.staged.engage = false
          ∧ ∀ j, j ≠ i → (s.segs.get j).active.engage = false then
        answer (put { g with status := .rejLastSegment, waiting := none })
      else if g.active.engage = g.staged.engage then
        answer (State.thenReevaluate s (put { g with active := g.staged, status := .done, waiting := none }))
      else if g.staged.engage = true then
        answer (State.thenReevaluate s (State.raise (.segState i) (put { g with
          active := g.staged, state := .engaging, drive := .home, status := .inProgress, waiting := none })))
      else
        answer (State.thenReevaluate s (State.raise (.segState i) (put { g with
          active := g.staged, state := .parking, drive := .park, status := .inProgress, waiting := none })))

/-- R87, R88: "home done" makes the segment READY and "park done" PARKED, a copy in progress is DONE, and a WAITING
line evaluates its inhibits again; either event without its drive outstanding is discarded. -/
def Obligations.MovementEnds : Prop :=
  ∀ (i : Fin 6) (s : State),
    let g := s.segs.get i
    let ended (state : SegState) : State :=
      let t : State := { s with segs := s.segs.set i { g with
        drive := .none, state := state
        status := if g.status = .inProgress then .done else g.status
        waiting := if g.status = .inProgress then none else g.waiting } }
      let t := if g.state = state then t else t.raise (.segState i)
      State.thenReevaluate s (if g.status = .inProgress then t.raise (.applyDone i) else t)
    (g.drive = .home → exec (.homeDone i) s = .next (State.served (ended .ready)))
    ∧ (g.drive = .park → exec (.parkDone i) s = .next (State.served (ended .parked)))
    ∧ (g.drive ≠ .home → exec (.homeDone i) s = .next (State.served s))
    ∧ (g.drive ≠ .park → exec (.parkDone i) s = .next (State.served s))

/-- R90, with R64, R65, R71, R87, R88: a drive's timeout, its drive outstanding, and a drive fault each make a segment
that is not FAULTED so, in a line that stands with no step in progress: its drive command is abandoned, the cause
recorded, active ENGAGE goes off, a copy waiting or moving is REJ_FAULTED, the flags are raised, a FORMING record it
was engaged in gets SEGMENT_LOST, and FAULT joins the hold requester set. -/
def Obligations.FaultInStandingLine : Prop :=
  ∀ (i : Fin 6) (c : Instr) (cause : FaultCause) (s : State),
    let g := s.segs.get i
    (c = .driveFault i ∧ cause = .driveFault
      ∨ c = .feedTimeout i ∧ cause = .feedTimeout ∧ g.drive.isFeed = true
      ∨ c = .strokeTimeout i ∧ cause = .strokeTimeout ∧ g.drive.isStroke = true
      ∨ c = .withdrawTimeout i ∧ cause = .withdrawTimeout ∧ g.drive = .withdraw
      ∨ c = .homeTimeout i ∧ cause = .homeTimeout ∧ g.drive = .home
      ∨ c = .parkTimeout i ∧ cause = .parkTimeout ∧ g.drive = .park) →
    g.state ≠ .faulted → (s.seq.line = .idle ∨ s.seq.line = .held ∨ s.seq.line = .estop) → s.seq.step = none →
    let busy := g.status = .pending ∨ g.status = .inProgress
    let lost (p : Panel) : Panel := { p with reasons := { p.reasons with segmentLost := true } }
    let t : State := { s with
      segs := s.segs.set i { g with
        drive := .none, cause := cause, active := { g.active with engage := false }, state := .faulted
        status := if busy then .rejFaulted else g.status, waiting := if busy then none else g.waiting }
      track := if g.state = .ready ∨ g.state = .active then
          s.track.map fun p => if p.state = .forming then lost p else p
        else s.track
      seq := { s.seq with hold := { s.seq.hold with fault := true } } }
    let t := if busy then t.raise (.applyDone i) else t
    exec c s = .next (State.served ((t.raise (.segState i)).raise (.segFault i)))

/-- R72, R74, R90: a drive's timeout, its drive outstanding, or a drive fault makes a segment that is not FAULTED so, in
every line state: its drive is abandoned, the cause recorded, active ENGAGE off, a copy waiting or moving REJ_FAULTED; a
FORMING record it was engaged in gets SEGMENT_LOST; FAULT joins the hold requester set, and a line that is WAITING or makes
steps is HELD at once, with every other ACTIVE segment READY. The step in progress is cut. A feed phase runs to the end of
the drive steps outstanding; with none outstanding, its feed end is made at once and the step waits to be taken up. A
stroke's blades are abandoned and commanded to withdraw, the withdraws of a backoff run on, and a step already cut
stays cut. What stands is kept. -/
def Obligations.FaultHoldsMovingLine : Prop :=
  ∀ (i : Fin 6) (c : Instr) (cause : FaultCause) (s : State),
    let g := s.segs.get i
    (c = .driveFault i ∧ cause = .driveFault
      ∨ c = .feedTimeout i ∧ cause = .feedTimeout ∧ g.drive.isFeed = true
      ∨ c = .strokeTimeout i ∧ cause = .strokeTimeout ∧ g.drive.isStroke = true
      ∨ c = .withdrawTimeout i ∧ cause = .withdrawTimeout ∧ g.drive = .withdraw
      ∨ c = .homeTimeout i ∧ cause = .homeTimeout ∧ g.drive = .home
      ∨ c = .parkTimeout i ∧ cause = .parkTimeout ∧ g.drive = .park) →
    g.state ≠ .faulted →
    let stops := s.seq.line = .waiting ∨ s.seq.line = .running ∨ s.seq.line = .holding ∨ s.seq.line = .draining
    let busy := g.status = .pending ∨ g.status = .inProgress
    let engaged := g.state = .ready ∨ g.state = .active
    let lost (p : Panel) : Panel := { p with reasons := { p.reasons with segmentLost := true } }
    let marked := if engaged then s.track.map fun p => if p.state = .forming then lost p else p else s.track
    let feedsOn := ∃ j, j ≠ i ∧ (s.segs.get j).drive.isFeed = true
    ∃ t, exec c s = .next (State.served t)
      ∧ t.seq.line = (if stops then .held else s.seq.line) ∧ t.seq.hold.fault = true
      ∧ t.segs.get i = { g with
          drive := .none, cause := cause, active := { g.active with engage := false }, state := .faulted
          status := if busy then .rejFaulted else g.status, waiting := if busy then none else g.waiting }
      ∧ (∀ j, j ≠ i → (t.segs.get j).state =
          if stops ∧ (s.segs.get j).state = .active then .ready else (s.segs.get j).state)
      ∧ t.flagSet (.segFault i) = true ∧ t.flagSet (.segState i) = true ∧ (busy → t.flagSet (.applyDone i) = true)
      ∧ (stops → t.flagSet .held = true ∧ t.flagSet .lineState = true)
      ∧ (engaged → ∀ x, s.forming? = some x → ∃ y ∈ t.track, y.number = x.number ∧ y.reasons.segmentLost = true)
      ∧ t.conv = s.conv ∧ t.standing = s.standing
      -- no feed end comes with the fault
      ∧ ((∀ x, s.seq.step = some x → x.phase = .feed ∨ x.phase = .feedCut → feedsOn) →
        t.web = s.web ∧ t.track = marked
          ∧ t.seq.step = s.seq.step.map (fun x => { x with phase := match x.phase with
            | .feed | .feedCut => .feedCut
            | .stroke | .backoff | .strokeCut => .strokeCut
            | .fed => .fed })
          ∧ ∀ j, j ≠ i → (t.segs.get j).drive =
            if s.seq.step.map (·.phase) = some .stroke ∧ (s.segs.get j).engaged = true then .withdraw
            else (s.segs.get j).drive)
      -- the feed end is made at once
      ∧ (∀ x, s.seq.step = some x → x.phase = .feed ∨ x.phase = .feedCut → ¬ feedsOn →
        t.web = s.web + s.webAdvance
          ∧ (s.rcc.splice ≠ .slotted → (∀ a, s.rcc.activeRoll = some a → s.webAdvance < a.remaining) →
            t.seq.step = some { x with phase := .fed }))

/-- R56, R91: SEG-CLEAR: RANGE for a bad mask, STATE in ESTOP; otherwise every FAULTED segment of the mask parks, and
FAULT leaves the hold requester set where none is FAULTED any more. The answer names those cleared and every state of
the mask (one list, log 7). The line stays as it is where none is cleared, where some segment is still FAULTED, in IDLE,
and in HELD with another member in the set. With FAULT alone in the set it leaves HELD as R56's table says
(`State.leaveHeld`, whose table HoldAndRelease states); with a stop NOW pending that is IDLE. -/
def Obligations.SegClearParksFaulted : Prop :=
  ∀ (tag : Byte) (mask : Nat) (s : State), s.Accepts tag →
    let run := exec (.segClear tag mask) s
    let cleared := (maskSegs mask).filter fun i => decide ((s.segs.get i).state = .faulted)
    let segs : Six Segment := Six.tabulate fun i =>
      if i ∈ cleared then { s.segs.get i with drive := .park, state := .parking } else s.segs.get i
    let faultLeft := segs.any fun g => decide (g.state = .faulted)
    let hold := if cleared = [] ∨ faultLeft = true then s.seq.hold else { s.seq.hold with fault := false }
    let parked : State := { cleared.foldl (fun t i => State.raise (.segState i) t) s.processing with
      segs := segs, seq := { s.seq with hold := hold } }
    let answer (t : State) : Host.Outcome State Fault Refusal := .next (State.replied 0x12#8 tag .ok
      (u8 (segMask (Six.tabulate fun i => decide (i ∈ cleared)))
        ++ perSegment 1 mask fun i => u8 (t.segs.get i).state.byte) t)
    (mask = 0 ∨ 64 ≤ mask → run = .next (State.replied 0x12#8 tag .range [] s.processing))
    ∧ (1 ≤ mask → mask < 64 → s.seq.line = .estop → run = .next (State.replied 0x12#8 tag .state [] s.processing))
    ∧ (1 ≤ mask → mask < 64 → s.seq.line ≠ .estop →
      cleared = [] ∨ s.seq.line = .idle ∨ (s.seq.line ≠ .waiting ∧ faultLeft = true)
        ∨ (s.seq.line = .held ∧ (s.seq.hold.host = true ∨ s.seq.hold.splice = true ∨ s.seq.hold.rollOut = true)) →
      run = answer parked)
    ∧ (1 ≤ mask → mask < 64 → s.seq.line = .held → s.seq.hold = ⟨false, false, false, true⟩ → cleared ≠ [] →
      faultLeft = false →
      run = answer parked.leaveHeld
        ∧ (s.seq.stop = .now →
          ∃ t, run = answer t ∧ t.seq.line = .idle ∧ t.seq.hold = ⟨false, false, false, false⟩
            ∧ ∀ i ∈ cleared, (t.segs.get i).state = .parking))

/-! ## Rolls and splices -/

/-- R56, R57a, R115, R121: ROLL-LOAD: RANGE, then STATE for a spindle that is not EMPTY. An accepted one with no ACTIVE
roll makes the roll ACTIVE, and ROLL_OUT leaves the hold requester set, where it sets no line in motion but one HELD for
it alone; that line leaves HELD as R56's table says (`State.leaveHeld`), for IDLE with a stop NOW pending. With an
ACTIVE roll the roll becomes STANDBY, IDLE becomes ARMED, and the trigger is tested. The class match is answered as an
optional yes/no item (log 7). -/
def Obligations.RollLoadFillsSpindle : Prop :=
  ∀ (tag : Byte) (spindle rollId cls length : Nat) (n : SpindleName) (s : State), s.Accepts tag →
    let named := spindle = 0 ∧ n = .u1 ∨ spindle = 1 ∧ n = .u2
    let r := s.rcc
    let roll : Roll := ⟨rollId, cls, length, length⟩
    let inRange := cls < 16 ∧ s.class? cls ≠ none ∧ spindle ≤ 1 ∧ 1000000 ≤ length ∧ length ≤ 4000000000
      ∧ r.settings.trigger + 1000000 ≤ length
    let allowed := inRange ∧ named
    let matching (t : State) : List Byte := match t.orders with
      | o :: _ => if o.cls = cls then [1#8, 1#8] else [1#8, 0#8]
      | [] => [0#8, 0#8]
    let run := exec (.rollLoad tag spindle rollId cls length) s
    let answer (t : State) : Host.Outcome State Fault Refusal :=
      .next (State.replied 0x18#8 tag .ok (spindleItems t.rcc.u1 ++ spindleItems t.rcc.u2 ++ matching t) t)
    let made : State := { s.processing with
      rcc := { r.setSpindle n (.active roll) with standbyNeeded := false }
      seq := { s.seq with hold := { s.seq.hold with rollOut := false } } }
    (¬ inRange → run = .next (State.replied 0x18#8 tag .range [] s.processing))
    ∧ (allowed → r.spindle n ≠ .empty → run = .next (State.replied 0x18#8 tag .state [] s.processing))
    ∧ (allowed → r.spindle n = .empty → r.activeRoll = none →
      (s.seq.hold.rollOut = false ∨ (s.seq.line ≠ .holding ∧ s.seq.line ≠ .held)
        ∨ s.seq.hold.host = true ∨ s.seq.hold.splice = true ∨ s.seq.hold.fault = true) →
      run = answer (State.thenReevaluate s made))
    ∧ (allowed → r.spindle n = .empty → r.activeRoll = none → s.seq.hold = ⟨false, false, true, false⟩ →
      s.seq.line = .held →
      run = answer made.leaveHeld
        ∧ (s.seq.stop = .now → r.pressDue = none →
          ∃ t, run = answer t ∧ t.seq.line = .idle ∧ t.seq.hold = ⟨false, false, false, false⟩
            ∧ t.rcc.spindle n = .active roll))
    ∧ (∀ a, allowed → r.spindle n = .empty → r.activeRoll = some a →
      let loaded : RollChange := { r.setSpindle n (.standby roll) with
        splice := if r.splice = .idle then .armed else r.splice, standbyNeeded := false }
      run = answer (State.thenReevaluate s { s.processing with
        rcc := if (r.splice = .idle ∨ r.splice = .armed) ∧ s.seq.line ≠ .estop
            ∧ a.remaining ≤ r.settings.trigger then
          { loaded with splice := .preparing, matchTimer := true, spindleCommand := some r.settings.mode }
          else loaded }))

/-- R116, R119, R57a: ROLL-REMOVE by its tests; an accepted one empties the record, takes an ARMED splice back to
IDLE with its STANDBY roll, and evaluates the standby warning, which may raise STANDBY_NEEDED (log 27, DEDUCED). -/
def Obligations.RollRemoveEmptiesSpindle : Prop :=
  ∀ (tag : Byte) (spindle : Nat) (n : SpindleName) (s : State), s.Accepts tag →
    let named := spindle = 0 ∧ n = .u1 ∨ spindle = 1 ∧ n = .u2
    let r := s.rcc
    let busy := r.splice = .preparing ∨ r.splice = .slotted ∨ r.splice = .pressing ∨ ∃ c, r.splice = .missed c
    let may := match r.spindle n with
      | .empty => False
      | .expiring _ => False
      | .standby _ => ¬ busy
      | .active _ => ¬ busy ∧ (s.seq.line = .idle ∨ s.seq.line = .estop
          ∨ s.seq.line = .held ∧ s.seq.hold.rollOut = true)
      | .spent _ => True
    let emptied : RollChange := { r.setSpindle n .empty with
      splice := match r.spindle n with
        | .standby _ => if r.splice = .armed then .idle else r.splice
        | _ => r.splice }
    let t : State := { s.processing with rcc := { emptied with standbyNeeded := emptied.needsStandby } }
    let t := State.thenReevaluate s
      (if emptied.needsStandby = true ∧ r.standbyNeeded = false then t.raise .standbyNeeded else t)
    (2 ≤ spindle → exec (.rollRemove tag spindle) s = .next (State.replied 0x19#8 tag .range [] s.processing))
    ∧ (named → ¬ may → exec (.rollRemove tag spindle) s = .next (State.replied 0x19#8 tag .state [] s.processing))
    ∧ (named → may → exec (.rollRemove tag spindle) s =
      .next (State.replied 0x19#8 tag .ok (spindleItems t.rcc.u1 ++ spindleItems t.rcc.u2) t))

/-- R119, R120, R121: a SPLICE-SET write: STATE while a splice is in progress or missed; RANGE outside Table 7.3.1 or
with a tail reserve not less than the trigger; otherwise all nine settings are replaced, the standby warning is
evaluated, and an ARMED splice tests its new trigger. The debounce and the confirm timeout are sent as choices, numbered
in the order of Table 7.3.1 (log 7, DEDUCED). -/
def Obligations.SpliceSetReplacesSettings : Prop :=
  ∀ (tag : Byte) (b : SpliceBody) (s : State), s.Accepts tag →
    let r := s.rcc
    let allowed := b.mode ≤ 1 ∧ (200000 ≤ b.trigger ∧ b.trigger ≤ 2000000)
      ∧ (2000 ≤ b.clearance ∧ b.clearance ≤ 100000) ∧ (20000 ≤ b.tailReserve ∧ b.tailReserve ≤ 500000)
      ∧ (30 ≤ b.ceiling ∧ b.ceiling ≤ 100) ∧ b.debounce ≤ 3 ∧ b.polarity ≤ 1 ∧ b.confirm ≤ 7
      ∧ b.sbNeed ≤ 1000 ∧ b.tailReserve < b.trigger
    let x : SpliceSettings := {
      mode := if b.mode = 0 then .flying else .stopped, trigger := b.trigger, clearance := b.clearance
      tailReserve := b.tailReserve, ceiling := b.ceiling, debounce := [2, 5, 10, 20].getD b.debounce 0
      rising := decide (b.polarity = 0)
      confirm := [250, 500, 1000, 2000, 3000, 5000, 8000, 12000].getD b.confirm 0, sbNeed := b.sbNeed }
    let set : RollChange := { r with settings := x }
    let set : RollChange := { set with standbyNeeded := set.needsStandby }
    let after : RollChange := if r.splice = .armed ∧ s.seq.line ≠ .estop ∧ set.triggered = true then
        { set with splice := .preparing, matchTimer := true, spindleCommand := some x.mode }
      else set
    let t : State := { s.processing with rcc := after }
    let run := exec (.spliceSet tag (some b)) s
    (r.splice.underWay = true →
      run = .next (State.replied 0x1A#8 tag .state (spliceItems r.settings) s.processing))
    ∧ (r.splice.underWay = false → ¬ allowed →
      run = .next (State.replied 0x1A#8 tag .range (spliceItems r.settings) s.processing))
    ∧ (r.splice.underWay = false → allowed → run = .next (State.replied 0x1A#8 tag .ok (spliceItems x)
      (if set.standbyNeeded = true ∧ r.standbyNeeded = false then t.raise .standbyNeeded else t)))

/-- R56, R129 to R132: SPLICE-RESOLVE: RANGE for an action that is none, STATE outside MISSED; then, in IDLE or in HELD,
by cause and action: the seam records made, the splice in ARMED or IDLE, SPLICE_DONE, and SPLICE (with ROLL_OUT, where
BREAK makes a roll ACTIVE) out of the hold requester set. A HELD line whose set is then empty leaves HELD as R56's table
says (`State.leaveHeld`). BREAK of a NO_MATCH makes the STANDBY roll of either spindle ACTIVE; with no ACTIVE roll the old
roll id of its seam is a free value (log 11). BREAK ends a FORMING panel with INTERRUPTED and drops its step (log 10); no
panel is FORMING in the other BREAK clauses. -/
def Obligations.SpliceResolveByCause : Prop :=
  ∀ (tag : Byte) (s : State), s.Accepts tag →
    let r := s.rcc
    let resting : SpliceState := if r.standbyRoll.isSome then .armed else .idle
    let stands := s.seq.line = .idle ∨ s.seq.line = .held
    let off (h : HoldSet) : Seq := { s.seq with hold := h }
    let noSplice : HoldSet := { s.seq.hold with splice := false }
    let neither : HoldSet := { s.seq.hold with splice := false, rollOut := false }
    let leaves (h : HoldSet) (t : State) : State :=
      if s.seq.line = .held ∧ s.seq.hold ≠ ⟨false, false, false, false⟩ ∧ h = ⟨false, false, false, false⟩ then
        t.leaveHeld else t
    -- a panel that is FORMING still is, or none was: what R69 says of a panel ended by BREAK does not come in
    let steady (t : State) : Prop := s.forming? = none ∨ t.seq.line.moving = false ∨ t.seq.step.isSome = true
    let answer (t : State) : Host.Outcome State Fault Refusal := .next (State.replied 0x1B#8 tag .ok
      (u8 t.rcc.splice.byte ++ (spindleItems t.rcc.u1 ++ spindleItems t.rcc.u2) ++ seamItems t.rcc.seams) t)
    (∀ a, 2 ≤ a → exec (.spliceResolve tag a) s = .next (State.replied 0x1B#8 tag .range [] s.processing))
    ∧ (∀ a, a ≤ 1 → (∀ c, r.splice ≠ .missed c) →
      exec (.spliceResolve tag a) s = .next (State.replied 0x1B#8 tag .state [] s.processing))
    ∧ (∀ u, (r.splice = .missed .noConfirm ∨ r.splice = .missed .estop) → stands →
      r.unconfirmed = some u →
      let t := leaves noSplice (State.raise .spliceDone
        { s.processing with
          seq := off noSplice
          rcc := { r with
            seams := if u.crossed then r.seams
              else insertSeam ⟨u.position, u.oldId, u.newId, s.clock, .accept⟩ r.seams
            unconfirmed := none, detectPoint := none, confirmTimer := none, splice := resting } })
      steady t → exec (.spliceResolve tag 0) s = answer t)
    ∧ (r.splice = .missed .noMatch → stands →
      let t := leaves noSplice { s.processing with
        seq := off noSplice
        rcc := if resting = .armed ∧ r.triggered = true then
            { r with splice := .preparing, matchTimer := true, spindleCommand := some r.settings.mode }
          else { r with splice := resting } }
      steady t → exec (.spliceResolve tag 0) s = answer t)
    ∧ (∀ u, (r.splice = .missed .noConfirm ∨ r.splice = .missed .estop) → stands →
      s.forming? = none → r.unconfirmed = some u →
      exec (.spliceResolve tag 1) s = answer (leaves noSplice (State.raise .spliceDone { s.processing with
        seq := off noSplice
        rcc := { r with
          unconfirmed := none, splice := resting
          seams := insertSeam ⟨s.web + s.geometry.seamPath, u.oldId, u.newId, s.clock, .break_⟩ r.seams } })))
    ∧ (∀ a b n m, m ≠ n → r.splice = .missed .noMatch → stands → s.forming? = none → r.seams.length < 3 →
      r.spindle n = .active a → r.spindle m = .standby b →
      let t : State := { s.processing with
        seq := off neither
        rcc := { (r.setSpindle n (.expiring a)).setSpindle m (.active b) with
          tailTimer := true, splice := .idle
          standbyNeeded := decide (b.remaining ≤ r.settings.trigger)
          seams := insertSeam ⟨s.web + s.geometry.seamPath, a.id, b.id, s.clock, .break_⟩ r.seams } }
      exec (.spliceResolve tag 1) s = answer (leaves neither (State.raise .spliceDone
        (if b.remaining ≤ r.settings.trigger ∧ r.standbyNeeded = false then t.raise .standbyNeeded else t))))
    ∧ (∀ b n m, m ≠ n → r.splice = .missed .noMatch → stands → s.forming? = none → r.seams.length < 3 →
      r.activeRoll = none → r.spindle m = .standby b → (∀ x, r.spindle n ≠ .standby x) →
      let t : State := { s.processing with
        seq := off neither, freeIndex := s.freeIndex + 1
        rcc := { r.setSpindle m (.active b) with
          splice := .idle, standbyNeeded := decide (b.remaining ≤ r.settings.trigger)
          seams := insertSeam ⟨s.web + s.geometry.seamPath, Config.oldRollId s.freeIndex, b.id, s.clock, .break_⟩ r.seams } }
      exec (.spliceResolve tag 1) s = answer (leaves neither (State.raise .spliceDone
        (if b.remaining ≤ r.settings.trigger ∧ r.standbyNeeded = false then t.raise .standbyNeeded else t))))
    ∧ (∀ u x, (r.splice = .missed .noConfirm ∨ r.splice = .missed .estop) → r.unconfirmed = some u →
      s.forming? = some x → s.seq.step ≠ none → (∀ y, s.seq.step = some y → y.kind ≠ .gap) →
      s.seq.line = .idle ∨ s.seq.line = .held ∧ (s.seq.hold.host = true ∨ s.seq.hold.rollOut = true
        ∨ s.seq.hold.fault = true) →
      ∃ t, exec (.spliceResolve tag 1) s = answer t ∧ t.seq.line = s.seq.line ∧ t.seq.hold = noSplice
        ∧ t.seq.step = none ∧ t.seq.plan = none ∧ t.rcc.splice = resting ∧ t.rcc.unconfirmed = none
        ∧ t.track = s.track.map fun p => if p.state = .forming then { p with
            state := .travelling, tail := some s.conv, reasons := { p.reasons with interrupted := true } } else p)
    ∧ (r.splice = .missed .noMatch → 3 ≤ r.seams.length →
      exec (.spliceResolve tag 1) s = .next (State.replied 0x1B#8 tag .noRoom [] s.processing))

/-- R122, R126, R128, R130: the match timeout and, in PRESSING, the confirm timeout make the splice MISSED: its timers,
request, points and spindle command are dropped (what R126 and R130 do not name, the detect point, the press due and the
fire point among it, by log 26, and in PRESSING the request and the spindle command by log 28; both DEDUCED),
SPLICE_MISSED is raised and SPLICE joins the hold requester set; a RUNNING line inside a step enters HOLDING. -/
def Obligations.SpliceTimeoutsMiss : Prop :=
  ∀ (c : Instr) (cause : MissCause) (s : State),
    let r := s.rcc
    (c = .matchTimeout ∧ cause = .noMatch ∧ r.matchTimer = true
      ∨ c = .confirmTimeout ∧ cause = .noConfirm ∧ r.confirmTimer.isSome = true ∧ r.splice = .pressing) →
    let held : Seq := { s.seq with hold := { s.seq.hold with splice := true } }
    let t : State := State.raise .spliceMissed { s with
      seq := held
      rcc := { r with
        splice := .missed cause, matchTimer := false, spindleCommand := none, slotRequest := false
        firePoint := none, pressDue := none, confirmTimer := none, detectPoint := none } }
    ((s.seq.line = .idle ∨ s.seq.line = .holding ∨ s.seq.line = .held ∨ s.seq.line = .estop) →
      exec c s = .next (State.served t))
    ∧ (s.seq.line = .running → s.seq.step.isSome = true →
      exec c s = .next (State.served (State.raise .lineState
        { t with seq := { held with holdingFrom := .running, line := .holding } })))

/-- R90, R109, R122, R126, R127: an event without what it ends is discarded: a drive's timeout without its drive
outstanding, a fault report of a FAULTED segment, a "spindle matched" outside PREPARING, a "sealed" outside a
STOPPED-mode PRESSING. The model does the same with the expiry or timeout of a timer that does not run (log 3, DESIGN
CHOICE; the rules that start and stop these timers do not speak of it). -/
def Obligations.StrayEventsDiscarded : Prop :=
  ∀ (i : Fin 6) (z : Fin 4) (s : State),
    let g := s.segs.get i
    let same : Host.Outcome State Fault Refusal := .next (State.served s)
    (g.drive.isFeed = false → exec (.feedTimeout i) s = same)
    ∧ (g.drive.isStroke = false → exec (.strokeTimeout i) s = same)
    ∧ (g.drive ≠ .withdraw → exec (.withdrawTimeout i) s = same)
    ∧ (g.drive ≠ .home → exec (.homeTimeout i) s = same)
    ∧ (g.drive ≠ .park → exec (.parkTimeout i) s = same)
    ∧ (g.state = .faulted → exec (.driveFault i) s = same)
    ∧ (s.rcc.splice ≠ .preparing → exec .spindleMatched s = same)
    ∧ (s.rcc.splice ≠ .pressing ∨ s.rcc.settings.mode = .flying → exec .sealed s = same)
    ∧ (s.rcc.matchTimer = false → exec .matchTimeout s = same)
    ∧ (s.rcc.confirmTimer = none → exec .confirmTimeout s = same)
    ∧ (s.rcc.debounce = none → exec .debounceTimerExpiry s = same)
    ∧ (s.rcc.tailTimer = false → exec .tailTimerExpiry s = same)
    ∧ ((s.zones.get z).silenceTimer = false → exec (.zoneSilenceTimeout z) s = same)
    ∧ (s.steam.supplyTimer = false → exec .supplyWatchTimeout s = same)
    ∧ (s.steam.stallTimer = none → exec .stallTimerExpiry s = same)
    ∧ (s.verify.timer = false → exec .snapshotTimerExpiry s = same)

/-- R122 to R124: "spindle matched" in PREPARING: the splice is SLOTTED and asks for a slot. With no panel FORMING, and
with the grant below SB_NEED and the tail long enough, that is all. A FORMING panel's planned end b with
b + c - SEAM_PATH at or above the web count is taken as the slot: the fire point is set and the seam gap planned. -/
def Obligations.SpindleMatchedAsksForSlot : Prop :=
  ∀ (a : Roll) (s : State),
    let r := s.rcc
    r.splice = .preparing → r.pressDue = none → r.firePoint = none → r.activeRoll = some a →
    s.steam.grants.sb < r.settings.sbNeed → r.settings.tailReserve ≤ a.remaining →
    let slotted : RollChange := { r with splice := .slotted, matchTimer := false, slotRequest := true }
    (s.forming? = none → exec .spindleMatched s = .next (State.served { s with rcc := slotted }))
    ∧ (∀ x p, s.forming? = some x → s.seq.plan = some p →
      p.plannedEnd + r.settings.clearance < s.web + s.geometry.seamPath →
      exec .spindleMatched s = .next (State.served { s with rcc := slotted }))
    ∧ (∀ x p f, s.forming? = some x → s.seq.plan = some p →
      f + s.geometry.seamPath = p.plannedEnd + r.settings.clearance → s.web ≤ f →
      r.settings.tailReserve + (f - s.web) ≤ a.remaining →
      exec .spindleMatched s = .next (State.served { s with
        rcc := { slotted with firePoint := some f, slotRequest := false }
        seq := { s.seq with plan := some { p with gap := 2 * r.settings.clearance, slotFirm := true } } }))

/-- R124: a SLOTTED splice passes its fire test when the seam list has room and either a tail condition holds, or SB has
its grant and the fire point is reached or the policy is MARK. In FLYING mode it then fires. R126: in STOPPED mode the
press is then due and SPLICE joins the hold requester set: a line that makes steps enters HOLDING, or HELD at once where
it stands at an open boundary with no step in progress (log 8, DEDUCED); a WAITING line enters HELD. The press is made once the line is HELD or IDLE: on entry, at each
allocation round and at each fire test, with the grant, or without it where a tail condition made it due or holds by then
(log 17, DEDUCED). -/
def Obligations.FireTestFollowsTable : Prop :=
  ∀ (a : Roll) (s : State),
    let r := s.rcc
    let mark := ∃ o rest, s.orders = o :: rest ∧ o.seamPolicy = .mark
    let granted := r.settings.sbNeed ≤ s.steam.grants.sb
    r.splice = .slotted → r.activeRoll = some a →
    let short : Bool := match r.firePoint with
      | some f => decide (a.remaining + s.web < r.settings.tailReserve + f)
      | none => decide (a.remaining < r.settings.tailReserve)
    let reached := ∃ f, r.firePoint = some f ∧ f ≤ s.web
    let passes := r.seams.length < 3 ∧ (short = true ∨ (reached ∨ mark) ∧ granted)
    (r.pressDue = none → ¬ passes → s.fireTests = s)
    ∧ (r.pressDue = none → passes → r.settings.mode = .flying → s.fireTests = s.fire)
    ∧ (r.pressDue = none → passes → r.settings.mode = .stopped →
      let due : State := { s with
        rcc := { r with pressDue := some short }, seq := { s.seq with hold := { s.seq.hold with splice := true } } }
      let toHeld (q : Seq) : State := State.standReady (State.raise .held (State.raise .lineState
        { due with seq := { q with line := .held, pace := .stopped } }))
      (s.seq.line = .idle ∨ s.seq.line = .held → s.fireTests = due.fire)
      ∧ (s.seq.line = .estop ∨ s.seq.line = .holding → s.fireTests = due)
      ∧ (s.seq.line = .waiting → s.fireTests = (toHeld due.seq).fire)
      ∧ (∀ was, s.seq.line = .running ∧ was = .running ∨ s.seq.line = .draining ∧ was = .draining →
        (s.seq.step.isSome = true ∨ s.boundaryClosed = true → s.fireTests = State.raise .lineState
          { due with seq := { due.seq with line := .holding, holdingFrom := was } })
        ∧ (s.seq.step = none → s.boundaryClosed = false → s.seq.stop ≠ .now →
          s.fireTests = (toHeld { due.seq with holdingFrom := was }).fire)))
    ∧ (∀ noGrant, r.pressDue = some noGrant →
      let stands := s.seq.line = .held ∨ s.seq.line = .idle
      let may (t : State) : Prop := noGrant = true ∨ short = true ∨ r.settings.sbNeed ≤ t.steam.grants.sb
      (stands → may s → s.fireTests = s.fire)
      ∧ (¬ (stands ∧ may s) → s.fireTests = s)
      ∧ (may s → s.enterHeld = (s.enter .held).fire ∧ s.enterIdle = (s.enter .idle).fire)
      ∧ (¬ may s → s.enterHeld = s.enter .held ∧ s.enterIdle = s.enter .idle)
      ∧ ∀ v : Int, stands →
        let supply := if v < 0 then 0 else if 8000 < v then 8000 else v.toNat
        let t : State := State.round supply { s with
          steam := { s.steam with reading := some supply, supplyTimer := true, meterLost := false } }
        (may t → exec (.supplyReading v) s = .next (State.served t.fire))
        ∧ (¬ may t → exec (.supplyReading v) s = .next (State.served t)))

/-- R125, R126, R119: what a fire does with the ACTIVE roll on one spindle and the STANDBY roll on the other: the rolls
change, the tail timer starts, the slot is used up, the press is commanded, with the knife in FLYING mode, the unconfirmed
seam lies SEAM_PATH on, and the splice is PRESSING with its detect point (FLYING) or its confirm timer (STOPPED). A slot
request still standing and the standby spindle's command end with it (log 28, DEDUCED). R114: "tail cut done" and the tail
timer then make the EXPIRING record SPENT; the other record stays. -/
def Obligations.RollsChange : Prop :=
  (∀ (a b : Roll) (n m : SpindleName) (s : State),
    let r := s.rcc
    m ≠ n → r.spindle n = .active a → r.spindle m = .standby b →
    let t : State := { s with rcc := { (r.setSpindle n (.expiring a)).setSpindle m (.active b) with
      tailTimer := true, firePoint := none, slotRequest := false
      pressDue := none, spindleCommand := none, splice := .pressing
      pressCommand := if r.settings.mode = .flying then some .pressAndKnife else some .press
      unconfirmed := some ⟨s.web + s.geometry.seamPath, a.id, b.id, false⟩
      detectPoint := if r.settings.mode = .flying then some (s.web + s.geometry.detectPath) else none
      confirmTimer := if r.settings.mode = .flying then none else some r.settings.confirm
      standbyNeeded := decide (b.remaining ≤ r.settings.trigger) } }
    s.fire = if b.remaining ≤ r.settings.trigger ∧ r.standbyNeeded = false then t.raise .standbyNeeded else t)
  ∧ (∀ s : State,
    let spend (x : Spindle) : Spindle := match x with
      | .expiring r => .spent r
      | y => y
    let spent : Host.Outcome State Fault Refusal := .next (State.served { s with
      rcc := { s.rcc with u1 := spend s.rcc.u1, u2 := spend s.rcc.u2, tailTimer := false } })
    (∀ r, s.rcc.u1 = .expiring r ∨ s.rcc.u2 = .expiring r → exec .tailCutDone s = spent)
    ∧ (s.rcc.tailTimer = true → exec .tailTimerExpiry s = spent)
    ∧ ((∀ r, s.rcc.u1 ≠ .expiring r ∧ s.rcc.u2 ≠ .expiring r) →
      exec .tailCutDone s = .next (State.served s)))

/-- R56, R126, R129: "sealed" of a STOPPED-mode splice in PRESSING, the line IDLE or HELD: the unconfirmed seam becomes
a record, the splice is done, and SPLICE leaves the hold requester set; a line HELD for it alone leaves HELD as R56's
table says (`State.leaveHeld`). R127, R128: a detector level other than the stable one becomes the candidate and starts
the debounce timer; a return to the stable level drops it. At the timer's expiry the candidate is the stable level; an
edge of the set polarity is remembered in PRESSING, where it confirms a FLYING splice whose confirm timer runs, and
elsewhere does nothing. -/
def Obligations.SpliceConfirmed : Prop :=
  (∀ (u : Unconfirmed) (s : State),
    let r := s.rcc
    r.splice = .pressing → r.settings.mode = .stopped → r.unconfirmed = some u →
    s.seq.line = .idle ∨ s.seq.line = .held →
    let t : State := State.raise .spliceDone { s with
      seq := { s.seq with hold := { s.seq.hold with splice := false } }
      rcc := { r with
        seams := if u.crossed then r.seams
          else insertSeam ⟨u.position, u.oldId, u.newId, s.clock, .sealed⟩ r.seams
        unconfirmed := none, detectPoint := none, confirmTimer := none
        splice := if r.standbyRoll.isSome then .armed else .idle } }
    exec .sealed s = .next (State.served
      (if s.seq.line = .held ∧ s.seq.hold = ⟨false, true, false, false⟩ then t.leaveHeld else t)))
  ∧ (∀ (level : Bool) (s : State),
    let r := s.rcc
    exec (.seamDetectorChange level) s = .next (State.served { s with
      rcc := if level = r.stable then { r with candidate := none, debounce := none }
        else { r with candidate := some level, debounce := some r.settings.debounce } })
    ∧ (∀ ms, r.candidate = some level → r.debounce = some ms →
      let settled : RollChange := { r with stable := level, candidate := none, debounce := none }
      (level ≠ r.settings.rising ∨ r.splice ≠ .pressing →
        exec .debounceTimerExpiry s = .next (State.served { s with rcc := settled }))
      ∧ (level = r.settings.rising → r.splice = .pressing →
        r.settings.mode = .stopped ∨ r.confirmTimer = none →
        exec .debounceTimerExpiry s = .next (State.served { s with rcc := { settled with edgeSeen := true } }))
      ∧ (∀ u timer, level = r.settings.rising → r.splice = .pressing → r.settings.mode = .flying →
        r.confirmTimer = some timer → r.unconfirmed = some u →
        exec .debounceTimerExpiry s = .next (State.served (State.raise .spliceDone { s with rcc := { settled with
          edgeSeen := true
          seams := if u.crossed then r.seams
            else insertSeam ⟨u.position, u.oldId, u.newId, s.clock, .detector⟩ r.seams
          unconfirmed := none, detectPoint := none, confirmTimer := none
          splice := if r.standbyRoll.isSome then .armed else .idle } })))))

/-! ## The line -/

/-- R55 to R60, R34, R35, R62 to R64: LINE-RUN. Refused with STATE unless the line is IDLE with an ACTIVE roll and a
READY segment. With a member in the hold requester set the line enters HELD. At a panel start it waits with every
inhibit of Table 4.3.1 that stands; with none, and the panel fitting, it runs: the panel gets its record and its
credit, and its first step starts; a panel that does not fit waits with ROLL_SHORT alone (R60). With a gap pending, the
gap step starts. A step cut short is taken up with the pace timer (R74) once its point of cut is reached: a stroke by
its stroke phase, a flat step by its delivery, the next step or the panel's gap then waiting for the timer, a gap step
by its delivery. That delivery, and a gap delivery kept after an e-stop, made before anything else (R75), move the
conveyor count, make the exit test, and leave the work at a panel boundary with no gap pending: a panel start follows. R61, R123, R124: with a splice SLOTTED
and asking, the new panel's planned end b is offered at its start: accepted with b + c - SEAM_PATH at or above the web
count, it makes the slot firm at that fire point and plans the seam gap; refused, it leaves the request. The fire tests
follow the start, and one that fires in WAITING evaluates the inhibits again (R57a, log 16). -/
def Obligations.LineRunStartsPanel : Prop :=
  ∀ (tag : Byte) (s : State), s.Accepts tag →
    let run := exec (.lineRun tag) s
    let answer (code : ResultCode) (t : State) : Host.Outcome State Fault Refusal :=
      .next (State.replied 0x20#8 tag code [] t)
    let period := 600000 / max 20 (s.seq.baseRate * min s.steam.ceiling s.rcc.spliceCeiling / 100)
    (s.seq.line ≠ .idle ∨ s.rcc.activeRoll = none ∨ (∀ i, (s.segs.get i).state ≠ .ready) →
      run = answer .state s.processing)
    ∧ (∀ a i, s.seq.line = .idle → s.rcc.activeRoll = some a → (s.segs.get i).state = .ready →
      let inhibits : Inhibits := {
        noOrder := s.orders.isEmpty
        classMismatch := match s.orders with
          | o :: _ => decide (o.cls ≠ a.cls)
          | [] => false
        trackFull := decide (24 ≤ s.track.length)
        outletFull := match s.orders with
          | o :: _ => o.prefs.all fun n =>
            decide ((s.outlets.counts n).capacity ≤ (s.outlets.counts n).occupied + (s.outlets.counts n).reserved)
          | [] => false
        rejectFull := s.outlets.binFull
        engaging := s.segs.any fun g => decide (g.state = .engaging) || decide (g.state = .parking)
        noSegment := false, rollShort := false }
      let atStart := s.forming? = none ∧ s.seq.step = none ∧ s.seq.gap = none ∧ s.seq.kept = none
        ∧ ∀ j, (s.segs.get j).waiting ≠ some .boundary
      (s.seq.hold ≠ ⟨false, false, false, false⟩ → s.rcc.pressDue = none → (∀ j, (s.segs.get j).state ≠ .active) →
        run = answer .ok (State.raise .held (State.raise .lineState
          { s.processing with seq := { s.seq with line := .held, pace := .stopped } })))
      ∧ (s.seq.hold = ⟨false, false, false, false⟩ → s.rcc.splice ≠ .slotted → atStart →
        inhibits ≠ ⟨false, false, false, false, false, false, false, false⟩ →
        run = answer .ok (State.raise .inhibit (State.raise .lineState { s.processing with
          seq := { s.seq with line := .waiting, pace := .stopped, inhibits := inhibits } })))
      ∧ (∀ o rest x more out, s.seq.hold = ⟨false, false, false, false⟩ → s.rcc.splice ≠ .slotted → atStart →
        inhibits = ⟨false, false, false, false, false, false, false, false⟩ → s.orders = o :: rest →
        s.pattern? o.slot = some (x :: more) →
        o.prefs.find? (fun n => decide ((s.outlets.counts n).occupied + (s.outlets.counts n).reserved
          < (s.outlets.counts n).capacity)) = some out →
        ((s.makePlan o).ownNeed + s.geometry.panelGap + 2000 ≤ a.remaining
          ∨ ∃ b, s.rcc.standbyRoll = some b ∧ b.cls = o.cls) →
        ∃ t p kind, run = answer .ok t ∧ t.seq.line = .running ∧ t.seq.pace = .running period
          ∧ t.seq.step = some ⟨kind, (match x with
              | .pleat _ _ sp _ _ _ => gradedSpacing sp o.grade
              | .flat length => length), .feed⟩
          ∧ t.orders = { o with started := o.started + 1 } :: rest ∧ t.nextPanel = s.nextPanel + 1
          ∧ (t.outlets.counts out).reserved = (s.outlets.counts out).reserved + 1
          ∧ t.track = s.track ++ [p] ∧ p.state = .forming ∧ p.number = s.nextPanel ∧ p.order = o.tag
          ∧ p.slot = o.slot ∧ p.grade = o.grade ∧ p.cls = o.cls ∧ p.rollId = a.id ∧ p.head = s.conv
          ∧ p.tail = none ∧ p.strokes = 0 ∧ p.backoffs = 0 ∧ p.lead = ⟨0, 0, 0, 0⟩ ∧ p.tailDose = ⟨0, 0, 0, 0⟩
          ∧ p.outOfTol = 0 ∧ p.missing = 0 ∧ p.extra = 0 ∧ p.verified = Six.fill false
          ∧ p.reasons = ⟨false, false, false, false, false, false, false⟩ ∧ p.outlet = out)
      ∧ (∀ o rest out, s.seq.hold = ⟨false, false, false, false⟩ → s.rcc.splice ≠ .slotted → atStart →
        inhibits = ⟨false, false, false, false, false, false, false, false⟩ → s.orders = o :: rest →
        o.prefs.find? (fun n => decide ((s.outlets.counts n).occupied + (s.outlets.counts n).reserved
          < (s.outlets.counts n).capacity)) = some out →
        a.remaining < (s.makePlan o).ownNeed + s.geometry.panelGap + 2000 →
        (∀ b, s.rcc.standbyRoll = some b → b.cls ≠ o.cls) →
        run = answer .ok (State.raise .inhibit (State.raise .lineState { s.processing with
          seq := { s.seq with line := .waiting, pace := .stopped, inhibits := { inhibits with rollShort := true } } })))
      ∧ (s.seq.hold = ⟨false, false, false, false⟩ → s.rcc.splice = .slotted → atStart →
        let waits (b : Inhibits) : Host.Outcome State Fault Refusal :=
          let w : State := State.raise .inhibit (State.raise .lineState { s.processing with
            seq := { s.seq with line := .waiting, pace := .stopped, inhibits := b } })
          answer .ok (if w.fireTests.rcc.splice = .pressing ∧ w.fireTests.seq.line = .waiting then
            w.fireTests.startAttempt else w.fireTests)
        (inhibits ≠ ⟨false, false, false, false, false, false, false, false⟩ → run = waits inhibits)
        ∧ (∀ o rest out, inhibits = ⟨false, false, false, false, false, false, false, false⟩ → s.orders = o :: rest →
          o.prefs.find? (fun n => decide ((s.outlets.counts n).occupied + (s.outlets.counts n).reserved
            < (s.outlets.counts n).capacity)) = some out →
          let b := s.web + (s.makePlan o).ownNeed
          let taken := s.rcc.slotRequest = true ∧ s.web + s.geometry.seamPath ≤ b + s.rcc.settings.clearance
          let gap := if taken then 2 * s.rcc.settings.clearance else s.geometry.panelGap
          let fits := (s.makePlan o).ownNeed + gap + 2000 ≤ a.remaining ∨ ∃ x, s.rcc.standbyRoll = some x ∧ x.cls = o.cls
          (¬ fits → run = waits { inhibits with rollShort := true })
          ∧ (fits → (∀ p, s.pattern? o.slot = some p → p ≠ []) → s.pattern? o.slot ≠ none →
            ∃ (t : State) (p : Plan) (x : Panel), run = answer .ok t.fireTests ∧ t.seq.line = .running ∧ t.seq.step.isSome = true
              ∧ t.seq.plan = some p ∧ p.plannedEnd = b ∧ p.gap = gap ∧ p.slotFirm = decide taken
              ∧ t.rcc = { s.rcc with
                  edgeSeen := false, slotRequest := s.rcc.slotRequest && !decide taken
                  firePoint := if taken then some (b + s.rcc.settings.clearance - s.geometry.seamPath)
                    else s.rcc.firePoint }
              ∧ t.track = s.track ++ [x] ∧ x.state = .forming ∧ x.number = s.nextPanel)))
      ∧ (∀ g, s.seq.hold = ⟨false, false, false, false⟩ → s.seq.gap = some g → s.seq.step = none →
        s.seq.kept = none → ∃ t, run = answer .ok t ∧ t.seq.line = .running ∧ t.seq.gap = none
          ∧ t.seq.pace = .running period ∧ t.seq.step = some ⟨.gap, g.length, .feed⟩ ∧ t.track = s.track)
      ∧ (s.seq.hold = ⟨false, false, false, false⟩ → s.forming? = none → s.seq.gap = none → s.boundaryClosed = false →
        let delivered (len : Nat) (pace : PaceTimer) : State := State.exitsAndStall (State.raise .lineState
          { s.processing with
            conv := s.conv + len
            seq := { s.seq with line := .running, pace := pace, step := none, kept := none } })
        let starts (d : State) : Prop := d.atPanelStart = true ∧ run = answer .ok d.panelStart
        (∀ len, s.seq.kept = some len → s.seq.step = none →
          (delivered len s.seq.pace).conv = s.conv + len ∧ starts (delivered len s.seq.pace))
        ∧ (∀ adv, s.seq.kept = none → s.seq.step = some ⟨.gap, adv, .fed⟩ →
          (delivered adv (.running period)).conv = s.conv + adv ∧ starts (delivered adv (.running period))))
      ∧ (∀ dir adv ph, s.seq.hold = ⟨false, false, false, false⟩ → s.seq.kept = none →
        s.seq.step = some ⟨.stroke dir, adv, ph⟩ →
        ph = .fed ∨ ph = .strokeCut ∧ (∀ j, (s.segs.get j).drive ≠ .withdraw) →
        ∃ t, run = answer .ok t ∧ t.seq.line = .running
          ∧ t.seq.pace = .running period ∧ t.seq.step = some ⟨.stroke dir, adv, .stroke⟩ ∧ t.seq.backoffs = 0
          ∧ ∀ j, (s.segs.get j).engaged = true → (t.segs.get j).drive = .stroke (s.fmu.get j).depth dir)
      ∧ (∀ x, s.seq.hold = ⟨false, false, false, false⟩ → s.seq.kept = none → s.seq.step = some x →
        x.phase = .feedCut ∨ x.phase = .strokeCut ∧ (∃ j, (s.segs.get j).drive = .withdraw) →
        run = answer .ok (State.raise .lineState { s.processing with seq := { s.seq with line := .running } }))
      ∧ (∀ adv p f, s.seq.hold = ⟨false, false, false, false⟩ → s.seq.kept = none →
        s.seq.step = some ⟨.flat, adv, .fed⟩ → s.forming? = some f → s.seq.plan = some p →
        (∃ need, p.runs[p.run]? = some (.flat adv need)) →
        p.run + 1 < p.runs.length → (∀ o rest, s.orders = o :: rest → o.cancel ≠ .abandon) →
        ∃ t, run = answer .ok t ∧ t.seq.line = .running ∧ t.seq.pace = .running period ∧ t.seq.step = none
          ∧ t.conv = s.conv + adv ∧ t.seq.plan = some { p with run := p.run + 1, stroke := 0 })
      ∧ (∀ adv p f, s.seq.hold = ⟨false, false, false, false⟩ → s.seq.kept = none →
        s.seq.step = some ⟨.flat, adv, .fed⟩ → s.forming? = some f → s.seq.plan = some p → p.gap ≠ 0 →
        (∃ need, p.runs[p.run]? = some (.flat adv need)) → p.runs.length ≤ p.run + 1 →
        ∃ t, run = answer .ok t ∧ t.seq.line = .running ∧ t.seq.pace = .running period ∧ t.seq.step = none
          ∧ t.conv = s.conv + adv ∧ t.seq.plan = none ∧ t.seq.gap = some ⟨p.gap, p.cls⟩ ∧ t.forming? = none))

/-- R57 (log 8): LINE-STOP by its mode and the line state. `toIdle` is the entry into IDLE: the sequencer's own items
as R54 and R57a give, LINE_STATE raised, every ACTIVE segment READY. No press of a splice is due. -/
def Obligations.LineStopByState : Prop :=
  ∀ (tag : Byte) (mode : Nat) (s : State), s.Accepts tag → s.rcc.pressDue = none →
    let run := exec (.lineStop tag mode) s
    let answer (code : ResultCode) (t : State) : Host.Outcome State Fault Refusal :=
      .next (State.replied 0x21#8 tag code [] t)
    let withSeq (q : Seq) : State := { s.processing with seq := q }
    let idle (q : Seq) : State := State.standReady (State.raise .lineState (withSeq { q with
      line := .idle, pace := .stopped, stop := .none
      inhibits := ⟨false, false, false, false, false, false, false, false⟩ }))
    (2 ≤ mode → run = answer .range s.processing)
    ∧ (mode ≤ 1 → s.seq.line = .estop → run = answer .state s.processing)
    ∧ (mode ≤ 1 → s.seq.line = .idle → run = answer .ok s.processing)
    ∧ (mode ≤ 1 → s.seq.line = .waiting → run = answer .ok (idle s.seq))
    ∧ (mode = 0 → s.seq.line = .held → run = answer .ok (idle s.seq))
    ∧ (mode = 0 → s.seq.line = .holding → run = answer .ok (withSeq { s.seq with stop := .now }))
    ∧ (∀ was, mode = 0 → (s.seq.line = .running ∧ was = .running ∨ s.seq.line = .draining ∧ was = .draining) →
      let holding : State := State.raise .lineState
        (withSeq { s.seq with stop := .now, holdingFrom := was, line := .holding })
      (s.seq.step.isSome = true → run = answer .ok holding)
      ∧ (s.seq.step = none → s.boundaryClosed = true → run = answer .ok holding)
      ∧ (s.seq.step = none → s.boundaryClosed = false →
        ∃ t, run = answer .ok t ∧ t.seq.line = .idle ∧ t.seq.stop = .none ∧ t.seq.pace = .stopped))
    ∧ (mode = 1 → s.seq.line = .holding ∨ s.seq.line = .held →
      run = answer .ok (withSeq { s.seq with stop := if s.seq.stop = .now then .now else .endOfPanel }))
    ∧ (mode = 1 → s.seq.line = .draining → run = answer .ok s.processing)
    ∧ (mode = 1 → s.seq.line = .running → s.forming?.isSome = true ∨ s.seq.step.isSome = true →
      run = answer .ok (State.raise .lineState (withSeq { s.seq with stop := .endOfPanel, line := .draining })))
    ∧ (mode = 1 → s.seq.line = .running → s.forming? = none → s.seq.step = none →
      ∃ t, run = answer .ok t ∧ t.seq.line = .idle ∧ t.seq.stop = .none ∧ t.seq.pace = .stopped)

/-- R56: LINE-HOLD adds HOST: a standing line takes note, a WAITING line enters HELD, a line inside a step enters
HOLDING, and one that waits between steps enters HOLDING at a closed boundary and stops at once at an open one (log 8,
DEDUCED). LINE-RELEASE removes it: with other members left, or outside HOLDING and HELD, nothing else happens; the last
member gone, HOLDING goes back to where it came from, or drains for a pending END_OF_PANEL, and a HELD line leaves HELD
(`State.leaveHeld`) as the table says by the stop pending and where the work stands (a gap delivery kept after an e-stop
counts as a panel boundary: log 13, DEDUCED): for IDLE, for a panel start, or for RUNNING or DRAINING, where the step cut
is taken up (R74), or the next step or the pending gap step starts, at once. A gap step's delivery, cut or kept (R75), is
made first, and the line then makes a panel start, or enters IDLE from DRAINING. With no segment READY or ACTIVE it
enters IDLE instead, before any panel start (log 26, DEDUCED), and a FORMING panel is ended with SEGMENT_LOST. No press
of a splice is due. -/
def Obligations.HoldAndRelease : Prop :=
  (∀ (tag : Byte) (s : State), s.Accepts tag → s.rcc.pressDue = none →
    let q := s.seq
    let withSeq (x : Seq) : State := { s.processing with seq := x }
    let held : Seq := { q with hold := { q.hold with host := true } }
    let freed : Seq := { q with hold := { q.hold with host := false } }
    let onHold (t : State) : Prop := exec (.lineHold tag) s = .next (State.replied 0x22#8 tag .ok [] t)
    let onRelease (t : State) : Prop := exec (.lineRelease tag) s = .next (State.replied 0x23#8 tag .ok [] t)
    (q.line = .idle ∨ q.line = .holding ∨ q.line = .held ∨ q.line = .estop → onHold (withSeq held))
    ∧ (q.line = .waiting → onHold (State.standReady (State.raise .held (State.raise .lineState
        (withSeq { held with line := .held, pace := .stopped })))))
    ∧ (∀ was, q.step.isSome = true → (q.line = .running ∧ was = .running ∨ q.line = .draining ∧ was = .draining) →
      onHold (State.raise .lineState (withSeq { held with holdingFrom := was, line := .holding })))
    ∧ (∀ was, q.step = none → (q.line = .running ∧ was = .running ∨ q.line = .draining ∧ was = .draining) →
      (s.boundaryClosed = true →
        onHold (State.raise .lineState (withSeq { held with holdingFrom := was, line := .holding })))
      ∧ (s.boundaryClosed = false → q.stop ≠ .now → onHold (State.standReady (State.raise .held (State.raise .lineState
        (withSeq { held with holdingFrom := was, line := .held, pace := .stopped })))))
      ∧ (s.boundaryClosed = false → q.stop = .now → onHold (State.standReady (State.raise .lineState
        (withSeq { held with
          holdingFrom := was, line := .idle, pace := .stopped, stop := .none
          inhibits := ⟨false, false, false, false, false, false, false, false⟩ })))))
    ∧ (freed.hold ≠ ⟨false, false, false, false⟩ ∨ q.hold.host = false ∨ (q.line ≠ .holding ∧ q.line ≠ .held)
        ∨ (q.line = .holding ∧ q.stop = .now) → onRelease (withSeq freed))
    ∧ (q.hold = ⟨true, false, false, false⟩ → q.line = .holding → q.stop ≠ .now →
      onRelease (State.raise .lineState (withSeq { freed with
        line := if q.stop = .endOfPanel ∨ q.holdingFrom = .draining then .draining else .running })))
    ∧ (q.hold = ⟨true, false, false, false⟩ → q.line = .held → onRelease (withSeq freed).leaveHeld)
    ∧ (q.hold = ⟨true, false, false, false⟩ → q.line = .held → q.stop = .now →
      onRelease (State.standReady (State.raise .lineState (withSeq { freed with
        line := .idle, pace := .stopped, stop := .none
        inhibits := ⟨false, false, false, false, false, false, false, false⟩ }))))
    ∧ (∀ g, q.hold = ⟨true, false, false, false⟩ → q.line = .held → q.stop = .none → q.gap = some g →
      q.step = none → q.kept = none → s.someEngaged = true →
      ∃ t, onRelease t ∧ t.seq.line = .running ∧ t.seq.gap = none ∧ t.seq.step = some ⟨.gap, g.length, .feed⟩
        ∧ t.track = s.track))
  ∧ (∀ s : State, s.seq.line = .held → s.rcc.pressDue = none →
    let q := s.seq
    let left := s.leaveHeld
    let idle : State := State.standReady (State.raise .lineState { s with seq := { q with
      line := .idle, pace := .stopped, stop := .none
      inhibits := ⟨false, false, false, false, false, false, false, false⟩ } })
    let period := 600000 / max 20 (q.baseRate * min s.steam.ceiling s.rcc.spliceCeiling / 100)
    (q.stop = .now → left = idle)
    ∧ (q.stop = .endOfPanel → s.forming? = none → q.step = none → left = idle)
    ∧ (q.stop ≠ .now → s.someEngaged = false → s.forming? = none → left = idle)
    ∧ (∀ x, q.stop ≠ .now → s.someEngaged = false → s.forming? = some x →
      left.seq.line = .idle ∧ left.forming? = none ∧ left.seq.plan = none ∧ left.conv = s.conv
        ∧ (∀ y, q.step = some y → y.kind ≠ .gap → left.seq.step = none)
        ∧ left.track = s.track.map fun p => if p.state = .forming then { p with
            state := .travelling, tail := some s.conv, reasons := { p.reasons with segmentLost := true } } else p)
    ∧ (q.stop = .none → s.someEngaged = true → s.forming? = none → q.step = none → q.gap = none → q.kept = none →
      left = s.panelStart)
    ∧ (∀ l, q.stop = .none ∧ l = .running ∨ q.stop = .endOfPanel ∧ l = .draining → s.someEngaged = true →
      q.kept = none →
      (∀ dir adv ph, q.step = some ⟨.stroke dir, adv, ph⟩ →
        ph = .fed ∨ ph = .strokeCut ∧ (∀ j, (s.segs.get j).drive ≠ .withdraw) →
        left.seq.line = l ∧ left.seq.step = some ⟨.stroke dir, adv, .stroke⟩ ∧ left.seq.pace = .running period
          ∧ ∀ j, (s.segs.get j).engaged = true → (left.segs.get j).drive = .stroke (s.fmu.get j).depth dir)
      ∧ (∀ x, q.step = some x →
        x.phase = .feedCut ∨ x.phase = .strokeCut ∧ (∃ j, (s.segs.get j).drive = .withdraw) →
        left = State.raise .lineState { s with seq := { q with line := l } })
      ∧ (∀ adv p f, q.step = some ⟨.flat, adv, .fed⟩ → s.forming? = some f → q.plan = some p →
        (∃ need, p.runs[p.run]? = some (.flat adv need)) → p.run + 1 < p.runs.length →
        (∀ o rest, s.orders = o :: rest → o.cancel ≠ .abandon) →
        left.seq.line = l ∧ left.seq.pace = .running period ∧ left.seq.step = none ∧ left.conv = s.conv + adv
          ∧ left.seq.plan = some { p with run := p.run + 1, stroke := 0 })
      ∧ (∀ x p run, q.step = none → q.gap = none → s.forming? = some x → q.plan = some p →
        p.runs[p.run]? = some run →
        left.seq.line = l ∧ left.seq.pace = .running period ∧ ∃ kind, left.seq.step = some ⟨kind, (match run with
          | .pleat _ _ _ spacing _ _ _ => spacing
          | .flat length _ => length), .feed⟩)
      ∧ (∀ g, l = .running → q.step = none → q.gap = some g →
        left.seq.line = .running ∧ left.seq.pace = .running period ∧ left.seq.gap = none
          ∧ left.seq.step = some ⟨.gap, g.length, .feed⟩))
    ∧ (∀ l, q.stop = .none ∧ l = .running ∨ q.stop = .endOfPanel ∧ l = .draining → s.someEngaged = true →
      s.forming? = none → q.gap = none → s.boundaryClosed = false →
      let delivered (len : Nat) (pace : PaceTimer) : State := State.exitsAndStall (State.raise .lineState { s with
        conv := s.conv + len, seq := { q with line := l, pace := pace, step := none, kept := none } })
      (∀ len, l = .running → q.kept = some len → q.step = none →
        (delivered len q.pace).conv = s.conv + len ∧ left = (delivered len q.pace).panelStart)
      ∧ (∀ adv, q.kept = none → q.step = some ⟨.gap, adv, .fed⟩ →
        (delivered adv (.running period)).conv = s.conv + adv
          ∧ left = if l = .running then (delivered adv (.running period)).panelStart
            else (delivered adv (.running period)).enter .idle)))

/-- R78 with R48, R95, R136, R156, R171, R184, R194: LINE-RESET, refused with STATE in a line that waits, makes or holds
steps; accepted, what every block drops and what it keeps, and the flags it raises. The feed metering unit drops the
lists of the step dropped and keeps its carries and samples (Table 6.1.2). -/
def Obligations.LineResetClears : Prop :=
  ∀ (tag : Byte) (s : State), s.Accepts tag →
    let spend (x : Spindle) : Spindle := match x with
      | .expiring r => .spent r
      | y => y
    let parks (g : Segment) : Bool :=
      decide (g.state = .engaging) || decide (g.state = .ready) || decide (g.state = .active)
    (s.seq.line = .waiting ∨ s.seq.line = .running ∨ s.seq.line = .holding ∨ s.seq.line = .draining →
      exec (.lineReset tag) s = .next (State.replied 0x26#8 tag .state [] s.processing))
    ∧ (s.seq.line = .idle ∨ s.seq.line = .held ∨ s.seq.line = .estop →
      ∃ t, exec (.lineReset tag) s = .next (State.replied 0x26#8 tag .ok [] t)
        ∧ t.seq = { s.seq with
            line := if s.seq.line = .estop then .estop else .idle
            hold := ⟨false, false, s.seq.hold.rollOut && s.rcc.activeRoll.isNone,
              s.seq.hold.fault && s.segs.any (fun g => decide (g.state = .faulted))⟩
            stop := .none, inhibits := ⟨false, false, false, false, false, false, false, false⟩
            pace := .stopped, step := none, gap := none, kept := none, plan := none, backoffs := 0 }
        ∧ t.orders = (match s.orders with
            | o :: rest => (if s.forming?.isSome = true then { o with started := o.started - 1 } else o) :: rest
            | [] => []).filter (fun o => decide (o.cancel = CancelPending.none))
        ∧ t.track = [] ∧ t.nextPanel = s.nextPanel ∧ t.web = s.web ∧ t.conv = s.conv
        ∧ t.outlets = { s.outlets with
            stackA := { s.outlets.stackA with reserved := 0 }, stackB := { s.outlets.stackB with reserved := 0 }
            rewind := { s.outlets.rewind with reserved := 0 }, exits := [] }
        ∧ t.verify = { s.verify with checkers := s.verify.checkers.map fun _ => {
            queue := [], locked := false, run := 0, last := none, matched := 0, outOfTol := 0, missing := 0
            extra := 0 } }
        ∧ t.zones = s.zones ∧ t.steam = { s.steam with
            starved := ⟨0, 0, 0, 0⟩, satisfied := 0, stallTimer := none, stalled := false, ceiling := 100 }
        ∧ t.rcc = { s.rcc with
            u1 := spend s.rcc.u1, u2 := spend s.rcc.u2, tailTimer := false, spindleCommand := none
            matchTimer := false, confirmTimer := none, detectPoint := none, slotRequest := false, firePoint := none
            pressDue := none, unconfirmed := none, seams := []
            splice := if s.rcc.standbyRoll.isSome = true then .armed else .idle
            standbyNeeded := s.rcc.needsStandby }
        ∧ t.fmu = s.fmu.map (fun f => { f with inStep := false, left := [], commanded := 0, completed := 0 })
        ∧ (∀ i, let g := s.segs.get i
            t.segs.get i = if parks g then { g with
                status := .none, waiting := none, retryNow := 0, state := .parking, drive := .park
                active := { g.active with engage := false } }
              else { g with status := .none, waiting := none, retryNow := 0 })
        ∧ (∀ f, t.flagSet f = (s.flagSet f || (match f with
            | .resetDone => true
            | .lineState => decide (s.seq.line = .held)
            | .orderDone => s.orders.any fun o => decide (o.cancel ≠ .none)
            | .ceilingChanged => decide (s.steam.ceiling ≠ 100)
            | .standbyNeeded => s.rcc.needsStandby && !s.rcc.standbyNeeded
            | .segState i => parks (s.segs.get i)
            | .lock i => (s.verify.checkers.get i).locked
            | _ => false)))
        ∧ t.standing = s.standing)

/-! ## Settings of the zones, the steam, the outlets and the verifier -/

/-- R62, R138, R144, R151: LINE-RATE, a ZONE-SET write and a STEAM-SET write: RANGE and no change outside their
ranges; otherwise the settings are replaced. A stall limit at or below the time measured stalls the tunnel at once. -/
def Obligations.RateAndSteamSettingsWritten : Prop :=
  ∀ (tag : Byte) (s : State), s.Accepts tag →
    let rates (base : Nat) : List Byte :=
      u8 base ++ u8 (max 20 (base * min s.steam.ceiling s.rcc.spliceCeiling / 100))
    (∀ rate, exec (.lineRate tag rate) s = .next (if 20 ≤ rate ∧ rate ≤ 240 then
        State.replied 0x24#8 tag .ok (rates rate) { s.processing with seq := { s.seq with baseRate := rate } }
      else State.replied 0x24#8 tag .range (rates s.seq.baseRate) s.processing))
    ∧ (∀ zone, 4 ≤ zone → ∀ b, exec (.zoneSet tag zone b) s =
      .next (State.replied 0x28#8 tag .range [] s.processing))
    ∧ (∀ (z : Fin 4) (b : ZoneBody),
      let t : State := { s.processing with
        zones := s.zones.set z { s.zones.get z with sp := b.sp, standby := b.standby, kp := b.kp } }
      exec (.zoneSet tag z.val (some b)) s = .next (if b.sp ≤ 2800 ∧ b.standby ≤ b.sp ∧ b.kp ≤ 255 then
          State.replied 0x28#8 tag .ok (zoneItems z t) t
        else State.replied 0x28#8 tag .range [] s.processing))
    ∧ (∀ b : SteamBody,
      let r := b.reservations
      let allowed := (r.sb ≤ 2000 ∧ r.z1 ≤ 2000 ∧ r.z2 ≤ 2000 ∧ r.z3 ≤ 2000 ∧ r.z4 ≤ 2000)
        ∧ r.sb + r.z1 + r.z2 + r.z3 + r.z4 ≤ 8000 ∧ 5 ≤ b.stallLimit ∧ b.stallLimit ≤ 120
      let t : State := { s.processing with
        steam := { s.steam with reservations := r, stallLimit := b.stallLimit } }
      let u : State := State.raise .stall { t with
        steam := { t.steam with stalled := true, stallTimer := none }
        track := s.track.map fun p => if s.probeInTunnel p = true then { p with stalled := true } else p }
      let run := exec (.steamSet tag (some b)) s
      (¬ allowed → run = .next (State.replied 0x29#8 tag .range (steamItems s) s.processing))
      ∧ (allowed → (∀ ms, s.steam.stallTimer = some ms → ms < b.stallLimit * 1000) →
        run = .next (State.replied 0x29#8 tag .ok (steamItems t) t))
      ∧ (∀ ms, allowed → s.steam.stallTimer = some ms → b.stallLimit * 1000 ≤ ms →
        run = .next (State.replied 0x29#8 tag .ok (steamItems u) u)))

/-- R175, R176, R6, R168, R169: an OUTLET-SET write, OUTLET-UNLOAD and a VERIFY-SET write, with their refusals. The
snapshot period is sent as a choice, numbered in the order of its table (log 7, DEDUCED). -/
def Obligations.OutletAndVerifierSettingsWritten : Prop :=
  ∀ (tag : Byte) (s : State), s.Accepts tag →
    (∀ (b : OutletBody) (n : Outlet), (b.outlet = 0 ∧ n = .stackA ∨ b.outlet = 1 ∧ n = .stackB) →
      let c := s.outlets.counts n
      let t : State := { s.processing with outlets := s.outlets.setCounts n { c with capacity := b.capacity } }
      let t := if c.occupied + c.reserved = b.capacity then
          t.raise (if b.outlet = 0 then .stackFullA else .stackFullB)
        else t
      let t := State.thenReevaluate s t
      exec (.outletSet tag (some b)) s = .next (
        if b.capacity < 1 ∨ 200 < b.capacity then
          State.replied 0x2A#8 tag .range (outletItems s) s.processing
        else if b.capacity < c.occupied + c.reserved then
          State.replied 0x2A#8 tag .inUse (outletItems s) s.processing
        else State.replied 0x2A#8 tag .ok (outletItems t) t))
    ∧ (∀ b : OutletBody, 2 ≤ b.outlet →
      exec (.outletSet tag (some b)) s = .next (State.replied 0x2A#8 tag .range (outletItems s) s.processing))
    ∧ (∀ outlet count n, (outlet = 0 ∧ n = .stackA ∨ outlet = 1 ∧ n = .stackB ∨ outlet = 2 ∧ n = .rewind) →
      let c := s.outlets.counts n
      let t := State.thenReevaluate s { s.processing with
        outlets := s.outlets.setCounts n { c with occupied := c.occupied - count } }
      exec (.outletUnload tag outlet count) s =
        .next (State.replied 0x2B#8 tag .ok (u16 (min count c.occupied) ++ outletItems t) t))
    ∧ (∀ outlet count, 3 ≤ outlet →
      exec (.outletUnload tag outlet count) s = .next (State.replied 0x2B#8 tag .range [] s.processing))
    ∧ (∀ b : VerifyBody,
      let v := s.verify
      let allowed := (50 ≤ b.window ∧ b.window ≤ 2000) ∧ b.window + s.geometry.verifyDist ≤ 12600
        ∧ b.action ≤ 2 ∧ b.period ≤ 2
      let frozen := if b.action = 0 then v.frozen else decide (b.action = 2)
      let t : State := { s.processing with verify := { v with
        window := b.window, frozen := frozen
        checkers := if b.action = 1 then
            v.checkers.map fun k => { k with matched := 0, outOfTol := 0, missing := 0, extra := 0 }
          else v.checkers
        period := if b.period = 0 then .off else if b.period = 1 then .s1 else .s5
        timer := !frozen && decide (b.period ≠ 0) } }
      exec (.verifySet tag (some b)) s = .next (if allowed then
          State.replied 0x2C#8 tag .ok (verifyItems t) t
        else State.replied 0x2C#8 tag .range [] s.processing))

/-! ## The steam tunnel -/

/-- R146, R147: the grants of a round with supply `c`. First pass, in priority order: the least of demand, reservation
and what is left of the supply, which then falls by it. Shared pass: the whole unmet amounts where the leftover covers
them; else the truncated shares, and what the truncation leaves one unit each, in priority order, to consumers with an
unmet amount. The grants never exceed the supply, nor a grant its demand. -/
def Obligations.RoundGrantsByPriority : Prop :=
  ∀ (c : Nat) (demand reserve : Five Nat),
    let at_ (v : Five Nat) (k : Nat) : Nat := v.toList.getD k 0
    let first := firstGrants c demand reserve
    let grants := roundGrants c demand reserve
    let available (k : Nat) : Nat := c - (first.toList.take k).sum
    let unmet (k : Nat) : Nat := at_ demand k - at_ first k
    let all := unmet 0 + unmet 1 + unmet 2 + unmet 3 + unmet 4
    let leftover := c - first.total
    (∀ k, k < 5 → at_ first k = min (at_ demand k) (min (at_ reserve k) (available k))
      ∧ (available k = 0 → at_ first k = 0) ∧ at_ first k ≤ at_ demand k)
    ∧ first.total ≤ c
    ∧ (all ≤ leftover → ∀ k, k < 5 → at_ grants k = at_ first k + unmet k)
    ∧ (leftover < all → ∃ extra : Five Nat,
      (∀ k, k < 5 → at_ grants k = at_ first k + leftover * unmet k / all + at_ extra k
        ∧ at_ extra k ≤ 1 ∧ (unmet k = 0 → at_ extra k = 0)
        ∧ (0 < unmet k → leftover * unmet k / all < unmet k)
        ∧ ∀ j, j < k → at_ extra k = 1 → 0 < unmet j → at_ extra j = 1)
      ∧ leftover * unmet 0 / all + leftover * unmet 1 / all + leftover * unmet 2 / all + leftover * unmet 3 / all
        + leftover * unmet 4 / all + extra.total = leftover
      ∧ extra.total < ((List.range 5).filter fun k => decide (0 < unmet k)).length)
    ∧ grants.total ≤ c ∧ (∀ k, k < 5 → at_ grants k ≤ at_ demand k)
    ∧ (c ≤ 8000 → (∀ k, k < 5 → at_ demand k ≤ 1000) → ∀ k, k < 5 → leftover * unmet k ≤ 8000000)

/-- R145, R148 to R150, R155: what makes a round, and what a round does: the demands as they stand are used and kept,
the grants are those of `roundGrants`, the zones that get less than nine tenths are counted, and the third such round
lowers the heat ceiling, the fourth satisfied one raises it. In ESTOP the grants are 0 and nothing is counted. The
round of a supply watch timeout has supply 0, while the last reading stays held (log 18, DEDUCED). The fire tests of a
SLOTTED splice follow. -/
def Obligations.RoundCountsAndSetsCeiling : Prop :=
  ∀ (c : Nat) (v : Int) (s : State),
    let demands : Five Nat := ⟨s.rcc.sbDemand, s.zones.z1.demand, s.zones.z2.demand, s.zones.z3.demand,
      s.zones.z4.demand⟩
    let grants := roundGrants c demands s.steam.reservations
    let short (z : Fin 4) : Bool := decide (10 * grants.toList.getD (z.val + 1) 0 < 9 * (s.zones.get z).demand)
    let some_ := short 0 || short 1 || short 2 || short 3
    let count (z : Fin 4) : Nat := if short z then s.steam.starved.get z + 1 else 0
    let satisfied := if some_ then 0 else s.steam.satisfied + 1
    let counted : Steam := { s.steam with
      demands := demands, grants := grants, starved := ⟨count 0, count 1, count 2, count 3⟩
      satisfied := satisfied }
    let third := 3 ≤ count 0 ∨ 3 ≤ count 1 ∨ 3 ≤ count 2 ∨ 3 ≤ count 3
    let cleared (z : Fin 4) : Nat := if 3 ≤ count z then 0 else count z
    let changed (t : State) : State := if t.steam.ceiling = s.steam.ceiling then t else t.raise .ceilingChanged
    let supply := if v < 0 then 0 else if 8000 < v then 8000 else v.toNat
    let read : State := { s with
      steam := { s.steam with reading := some supply, supplyTimer := true, meterLost := false } }
    let lost : State := { s with steam := { s.steam with supplyTimer := true, meterLost := true } }
    (s.seq.line = .estop → s.round c =
      { s with steam := { s.steam with demands := demands, grants := ⟨0, 0, 0, 0, 0⟩ } })
    ∧ (s.seq.line ≠ .estop → third → s.round c = State.raise .zoneStarved (changed { s with steam := { counted with
        starved := ⟨cleared 0, cleared 1, cleared 2, cleared 3⟩, ceiling := max 40 (s.steam.ceiling - 10) } }))
    ∧ (s.seq.line ≠ .estop → ¬ third → 4 ≤ satisfied → s.round c = changed { s with steam := { counted with
        satisfied := 0, ceiling := min 100 (s.steam.ceiling + 10) } })
    ∧ (s.seq.line ≠ .estop → ¬ third → satisfied < 4 → s.round c = { s with steam := counted })
    ∧ exec (.supplyReading v) s = .next (State.served (read.round supply).fireTestsAgain)
    ∧ (s.steam.supplyTimer = true → exec .supplyWatchTimeout s = .next (State.served (State.fireTestsAgain
        (State.round 0 (if s.steam.meterLost = true then lost else lost.raise .steamMeter)))))
    ∧ (s.rcc.splice ≠ .slotted → s.fireTestsAgain = s)

/-- R139 to R141, R43: a zone sample: the clamped temperature is held, the demand computed, the timer restarted, every
probe in the zone accrues its excess, and every record with a probe there and a Tmax below the sample is SCORCHED.
R142, R151, R152: a silent zone goes cold at once, without demand or grant, and COLD_ZONE marks the records in it; the
stall timer's expiry stalls the tunnel and STALLED marks the records in it. -/
def Obligations.TunnelEvents : Prop :=
  (∀ (z : Fin 4) (temp : Int) (s : State),
    let t : Int := if temp < -400 then -400 else if 3000 < temp then 3000 else temp
    let x := s.zones.get z
    let setpoint := if s.steam.stalled = true then x.standby else x.sp
    let raw : Int := ((x.kp : Int) * ((setpoint : Int) - t)).tdiv 16
    let demand := if raw < 0 then 0 else if 1000 < raw then 1000 else raw.toNat
    let zone := s.geometry.zones.get z
    let inZone (crossing : Nat) : Prop := zone.start ≤ s.conv - crossing ∧ s.conv - crossing < zone.stop
    let tailIn (p : Panel) : Prop := ∃ c, p.tail = some c ∧ inZone c
    let grown (p : Panel) (d : Four Nat) : Four Nat :=
      d.set z (min 4294967295 (d.get z + (t - ((s.classFields p.cls).tb : Int)).toNat))
    let hot (p : Panel) : Prop := (inZone p.head ∨ tailIn p) ∧ ((s.classFields p.cls).tmax : Int) < t
    ∃ r : State, exec (.zoneSample z temp) s = .next (State.served r)
      ∧ r.zones = s.zones.set z { x with temp := some t, silenceTimer := true, cold := false, demand := demand }
      ∧ r.track.length = s.track.length
      ∧ (∀ (k : Nat) (p : Panel), s.track[k]? = some p → ∃ y : Panel, r.track[k]? = some y
        ∧ (inZone p.head → y.lead = grown p p.lead) ∧ (¬ inZone p.head → y.lead = p.lead)
        ∧ (tailIn p → y.tailDose = grown p p.tailDose) ∧ (¬ tailIn p → y.tailDose = p.tailDose)
        ∧ (hot p → y.reasons = { p.reasons with scorched := true }) ∧ (¬ hot p → y.reasons = p.reasons)
        ∧ { y with lead := p.lead, tailDose := p.tailDose, reasons := p.reasons } = p)
      ∧ ((∀ p ∈ s.track, ¬ hot p) → r = { s with zones := r.zones, track := r.track })
      ∧ ((∃ p ∈ s.track, hot p) → r = State.raise .scorch { s with zones := r.zones, track := r.track }))
  ∧ (∀ (z : Fin 4) (s : State),
    (let x := s.zones.get z
      let cold (p : Panel) : Panel := { p with reasons := { p.reasons with coldZone := true } }
      x.silenceTimer = true → exec (.zoneSilenceTimeout z) s = .next (State.served (State.raise (.zoneSensor z) { s with
        zones := s.zones.set z { x with demand := 0, cold := true, silenceTimer := false }
        steam := { s.steam with grants := s.steam.grants.setZone z 0 }
        track := s.track.map fun p => if s.probeIn z p = true then cold p else p })))
    ∧ (s.steam.stallTimer.isSome = true →
      exec .stallTimerExpiry s = .next (State.served (State.raise .stall { s with
        steam := { s.steam with stalled := true, stallTimer := none }
        track := s.track.map fun p => if s.probeInTunnel p = true then { p with stalled := true } else p }))))

/-! ## The verifier -/

/-- R160 to R167: a fold event on a watching checker. `outcome` writes one outcome: the panel record (UNVERIFIED_SEEN
while UNLOCKED), the counters in COUNTING mode, the run count, and LOCK_n at the 8th match or the 4th fault in a row.
Overdue front entries are popped as MISSING; then the front entry within the window is MATCHED, its pitch tested; any
other event is EXTRA. R169, R193: the snapshot timer's expiry: the counters and lock states of the six checkers with
the conveyor count enter the transmit queue, replace a snapshot not yet sent, or are discarded when there is no free
entry for a notice. -/
def Obligations.VerifierEvents : Prop :=
  (∀ (i : Fin 6) (s : State),
    let x := s.conv
    let w := s.verify.window
    let k := s.verify.checkers.get i
    let add (b : Bool) (top n : Nat) : Nat := if b then min top (n + 1) else n
    -- the outcome with what it adds: matched, out of tolerance, missing, extra; then the checker's queue and last
    let outcome (m o d e : Bool) (panel : Option Nat) (before : Checker) (s : State) : State :=
      let step := decide (m ≠ before.locked)
      let flips := step && decide (before.run + 1 = if before.locked then 4 else 8)
      let counts (b : Bool) (n : Nat) : Nat := if s.verify.frozen then n else add b 4294967295 n
      let after : Checker := { before with
        locked := if flips then m else before.locked
        run := if flips then 0 else if step then before.run + 1 else 0
        matched := counts m before.matched, outOfTol := counts o before.outOfTol
        missing := counts d before.missing, extra := counts e before.extra }
      let write (p : Panel) : Panel := if panel = some p.number then { p with
          outOfTol := add o 65535 p.outOfTol, missing := add d 65535 p.missing, extra := add e 65535 p.extra
          reasons := { p.reasons with unverifiedSeen := p.reasons.unverifiedSeen || !before.locked } }
        else p
      let t : State := { s with
        track := s.track.map write
        verify := { s.verify with checkers := s.verify.checkers.set i after } }
      if flips then t.raise (.lock i) else t
    let watching := k.queue ≠ [] ∨ (s.segs.get i).engaged = true ∧ (s.segs.get i).active.verify = true
    let run := exec (.foldEvent i) s
    (¬ watching → run = .next (State.served s))
    ∧ (watching → k.queue = [] → run = .next (State.served (outcome false false false true none k s)))
    ∧ (∀ e rest, k.queue = e :: rest → x ≤ e.count + w → w < absDiff x e.count →
      run = .next (State.served (outcome false false false true (some e.panel) k s)))
    ∧ (∀ e rest, k.queue = e :: rest → x ≤ e.count + w → absDiff x e.count ≤ w →
      let tested := e.first = false ∧ ∃ stamp, k.last = some (e.panel, stamp)
        ∧ (x - stamp + e.tol < e.spacing ∨ e.spacing + e.tol < x - stamp)
      let popped : Checker := { k with queue := rest, last := some (e.panel, x) }
      (tested → run = .next (State.served (outcome true true false false (some e.panel) popped s)))
      ∧ (¬ tested → run = .next (State.served (outcome true false false false (some e.panel) popped s))))
    ∧ (∀ e rest, k.queue = e :: rest → e.count + w < x →
      let popped : Checker := { k with queue := rest, last := none }
      run = .next (State.served ((State.sweep i x (outcome false false true false (some e.panel) popped s)).matchFold i x))
      ∧ s.sweep i x = State.sweep i x (outcome false false true false (some e.panel) popped s)))
  ∧ (∀ s : State,
    let snapshot : Snapshot := {
      lines := s.verify.checkers.map fun k => ⟨k.matched, k.outOfTol, k.missing, k.extra, k.locked⟩
      conv := s.conv }
    let queued (q : List TxEntry) : Host.Outcome State Fault Refusal :=
      .next (State.served { s with link := { s.link with queue := q } })
    let run := exec .snapshotTimerExpiry s
    s.verify.timer = true →
    ((∀ x, TxEntry.snapshot x ∉ s.link.queue) → s.link.queue.length < 28 →
      run = queued (s.link.queue ++ [.snapshot snapshot]))
    ∧ ((∀ x, TxEntry.snapshot x ∉ s.link.queue) → 28 ≤ s.link.queue.length → run = .next (State.served s))
    ∧ (∀ before x after, s.link.queue = before ++ .snapshot x :: after →
      (∀ y, TxEntry.snapshot y ∉ before) → (∀ y, TxEntry.snapshot y ∉ after) →
      run = queued (before ++ .snapshot snapshot :: after)))

/-! ## Feed metering -/

/-- R98 to R108: the figures of a feed: graded spacing, taper depth, blade depth, stretch, the feed and its carry, the
sum of a panel's feeds, the drive steps, and what a step start commands. -/
def Obligations.FeedFigures : Prop :=
  (∀ sp grade, gradedSpacing sp grade = max 200 (min 8000 ((sp * grade + 500) / 1000)))
  ∧ (∀ dw dh i, i ≤ 5 → (taperDepth dw dh i : Int)
      = if dw ≤ dh then (dw : Int) + (((dh : Int) - dw) * i + 2) / 5 else (dw : Int) - (((dw : Int) - dh) * i + 2) / 5)
  ∧ (∀ (taper : Nat) (trim : Int), (bladeDepth taper trim : Int) = max 0 (min 4500 ((taper : Int) + trim)))
  ∧ (∀ (c : FabricClass) (tm : Nat) (trim : Int),
      (stretch c tm trim : Int) = max 0 (min 20000 (((c.ecls : Int) * tm) / c.tref + trim)))
  ∧ (∀ length e carry, feedOf length e carry = (length * (100000 + e) + carry) / 100000
      ∧ carryOf length e carry = (length * (100000 + e) + carry) % 100000)
  ∧ (∀ steps : List (Nat × Nat),
      let exact := (steps.map fun x => x.1 * (100000 + x.2)).sum
      steps.foldl (fun (total, carry) x => (total + feedOf x.1 x.2 carry, carryOf x.1 x.2 carry)) (0, 50000)
        = ((exact + 50000) / 100000, (exact + 50000) % 100000))
  ∧ (∀ f, (driveSteps f).sum = f ∧ (driveSteps f).length = (f + 5999) / 6000
      ∧ (∀ x ∈ driveSteps f, x ≤ 6000 ∧ (x = f / ((f + 5999) / 6000) ∨ x = f / ((f + 5999) / 6000) + 1))
      ∧ (driveSteps f).Pairwise (· ≥ ·))
  ∧ (∀ (f : FeedSeg) (isGap : Bool) (c : FabricClass) (trim : Int) (x : StepFigures),
      let e := stretch c (f.tension.getD c.tref) trim
      let carry := if isGap then 50000 else f.panelCarry
      ∀ d more, driveSteps ((x.length * (100000 + e) + carry) / 100000) = d :: more →
      f.startStep isGap c trim x = ({ f with
        inStep := true, depth := x.depth, left := more, commanded := 1, completed := 0
        panelCarry := if isGap then f.panelCarry else (x.length * (100000 + e) + carry) % 100000
        gapCarry := if isGap then (x.length * (100000 + e) + carry) % 100000 else f.gapCarry }, .feed d))

/-! ## The stroke cycle -/

/-- R62 to R65, R67, R83, R102, R112, R89, R92: the pace timer's expiry. Inside a step, or in a line that makes no
steps, it is remembered. At a boundary of a line that makes steps the pending gap step starts, or else the panel's next
step: the NOW copies waiting are carried out, the timer restarts at the effective rate, READY segments become ACTIVE for
a stroke, and every engaged segment is commanded its first drive step with the settings so copied. DEPTH_CLAMPED joins
the FORMING record where the depth clamp acts for an engaged segment. The expiry of a timer that does not run changes
nothing (log 3, DESIGN CHOICE). -/
def Obligations.PaceStartsNextStep : Prop :=
  ∀ s : State,
    let run := exec .paceTimerExpiry s
    let moving := s.seq.line = .running ∨ s.seq.line = .holding ∨ s.seq.line = .draining
    let period := 600000 / max 20 (s.seq.baseRate * min s.steam.ceiling s.rcc.spliceCeiling / 100)
    let active (i : Fin 6) : SegSettings :=
      let g := s.segs.get i
      if g.waiting = some .now then { g.active with
          depthTrim := g.staged.depthTrim, feedTrim := g.staged.feedTrim, tensionLimit := g.staged.tensionLimit }
        else g.active
    let starts (step : StepRec) (isGap : Bool) (cls : Nat) (figures : Fin 6 → StepFigures) (t : State) : Prop :=
      run = .next (State.served t) ∧ t.seq.step = some step ∧ t.seq.pace = .running period
        ∧ t.seq.line = s.seq.line ∧ t.seq.gap = none ∧ t.web = s.web ∧ t.conv = s.conv
        ∧ ∀ i, let g := s.segs.get i
          (t.segs.get i).active = active i
          ∧ (if g.waiting = some .now then
              (t.segs.get i).status = .done ∧ (t.segs.get i).waiting = none
                ∧ (g.status = .pending → t.flagSet (.applyDone i) = true)
            else (t.segs.get i).status = g.status ∧ (t.segs.get i).waiting = g.waiting)
          ∧ if g.engaged = true then
              (t.fmu.get i, (t.segs.get i).drive)
                = (s.fmu.get i).startStep isGap (s.classFields cls) (active i).feedTrim (figures i)
            else (t.segs.get i).drive = g.drive ∧ (t.fmu.get i).inStep = false
    ((∀ p, s.seq.pace ≠ .running p) → run = .next (State.served s))
    ∧ (∀ p, s.seq.pace = .running p → s.seq.step.isSome = true ∨ ¬ moving →
      run = .next (State.served { s with seq := { s.seq with pace := .expired } }))
    ∧ (∀ p, s.seq.pace = .running p → s.seq.step = none → moving →
      (∀ g, s.seq.gap = some g → ∃ t, starts ⟨.gap, g.length, .feed⟩ true g.cls (fun _ => ⟨g.length, 0⟩) t
        ∧ t.track = s.track)
      ∧ (∀ plan length need, s.seq.gap = none → s.seq.plan = some plan →
        plan.runs[plan.run]? = some (.flat length need) →
        ∃ t, starts ⟨.flat, length, .feed⟩ false plan.cls (fun _ => ⟨length, 0⟩) t ∧ t.track = s.track)
      ∧ (∀ plan n form locked spacing taper planned need, s.seq.gap = none → s.seq.plan = some plan →
        plan.runs[plan.run]? = some (.pleat n form locked spacing taper planned need) →
        let depth (i : Fin 6) : Nat := bladeDepth (taper.get i) (active i).depthTrim
        let left := form = .knifeL ∨ form = .box ∧ plan.stroke % 2 = 0 ∨ form = .inverted ∧ plan.stroke % 2 = 1
        let clamps := ∃ i, (s.segs.get i).engaged = true ∧ ((taper.get i : Int) + (active i).depthTrim < 0
          ∨ 4500 < (taper.get i : Int) + (active i).depthTrim)
        ∃ t, starts ⟨.stroke (if left then .left else .right), spacing, .feed⟩ false plan.cls
            (fun i => ⟨spacing + 2 * depth i, depth i⟩) t
          ∧ t.seq.backoffs = 0
          ∧ (clamps → t.track = s.track.map fun p =>
            if p.state = .forming then { p with depthClamped := true } else p)
          ∧ (¬ clamps → t.track = s.track)
          ∧ ∀ i, (t.segs.get i).retryNow = 0
            ∧ (t.segs.get i).state = if (s.segs.get i).state = .ready then .active else (s.segs.get i).state))

/-- R64, R65, R74, R109, R111, R117: "feed done". Without a drive step outstanding on an engaged segment it is
discarded; with drive steps left the next is commanded, unless the phase is cut; with other segments still feeding the
segment waits. The last one makes the feed end: the web count advances by the largest completed feed of the step's
segments and the ACTIVE roll is debited; a stroke's blades are then commanded, any other step is delivered. A step that
was cut is FED; where the line runs again it is taken up at once with the pace timer. The seams that cross, and the
unconfirmed seam, mark the FORMING panel SEAMED (R132, R133). The detect point reached confirms a FLYING splice whose edge
was seen, or starts its confirm timer (R128). A roll run out is SPENT: the line is HELD at once, the FORMING panel ends
INTERRUPTED, its step is dropped, and a gap step keeps its delivery (R73, R118). A SLOTTED splice makes its fire tests
after the crossings, with the roll as debited (R117, R124): a FLYING one fires, before the roll-out test, and a slot
request that still stands ends with the fire (log 28, DEDUCED); a STOPPED one makes the press due and the line HOLDING, or fires at once in a line that is HELD or IDLE (R126; the test at a feed end
in HELD: log 17, DEDUCED). Either spindle may hold the ACTIVE roll. -/
def Obligations.FeedDoneEndsPhase : Prop :=
  ∀ (i : Fin 6) (s : State),
    let g := s.segs.get i
    let f := s.fmu.get i
    let r := s.rcc
    let run := exec (.feedDone i) s
    let after (len : Nat) (left : List Nat) (n : Nat) (d : Drive) : State := { s with
      fmu := s.fmu.set i { f with completed := f.completed + len, left := left, commanded := n }
      segs := s.segs.set i { g with drive := d } }
    let phase := s.seq.step.map (·.phase)
    let moving := s.seq.line = .running ∨ s.seq.line = .holding ∨ s.seq.line = .draining
    let forming (h : Panel → Panel) (track : List Panel) : List Panel :=
      track.map fun p => if p.state = .forming then h p else p
    (g.drive.isFeed = false ∨ g.engaged = false → run = .next (State.served s))
    ∧ (∀ len next rest, g.drive = .feed len → g.engaged = true → phase = some .feed → f.left = next :: rest →
      run = .next (State.served (after len rest (f.commanded + 1) (.feed next))))
    ∧ (∀ len j, g.drive = .feed len → g.engaged = true → phase = some .feed ∧ f.left = [] ∨ phase = some .feedCut →
      j ≠ i → (s.segs.get j).drive.isFeed = true →
      run = .next (State.served (after len f.left f.commanded .none)))
    ∧ (∀ len x a n m, g.drive = .feed len → g.engaged = true → s.seq.step = some x →
      x.phase = .feed ∧ f.left = [] ∧ moving ∨ x.phase = .feedCut ∧ s.seq.line ≠ .waiting →
      (∀ j, j ≠ i → (s.segs.get j).drive.isFeed = false) →
      m ≠ n → r.spindle n = .active a → (∀ b, r.spindle m ≠ .active b) →
      let w := [0, 1, 2, 3, 4, 5].foldl (fun (w : Nat) (j : Fin 6) =>
        let y := (after len f.left f.commanded .none).fmu.get j
        if y.inStep = true ∧ w < y.completed then y.completed else w) 0
      let c := s.web + w
      let debited : Roll := { a with remaining := a.remaining - w }
      let crosses := r.seams.any (fun m => decide (m.position ≤ c)) || (match r.unconfirmed with
        | some u => !u.crossed && decide (u.position ≤ c)
        | none => false)
      let kept := r.seams.filter fun m => decide (c < m.position)
      let marked := if crosses then forming (fun p => { p with reasons := { p.reasons with seamed := true } }) s.track
        else s.track
      -- the fire tests of a SLOTTED splice
      let mark := ∃ o rest, s.orders = o :: rest ∧ o.seamPolicy = .mark
      let short := (∀ f, r.firePoint = some f → debited.remaining + c < r.settings.tailReserve + f)
        ∧ (r.firePoint = none → debited.remaining < r.settings.tailReserve)
      let reached := ∃ f, r.firePoint = some f ∧ f ≤ c
      let passes := r.splice = .slotted ∧ r.pressDue = none ∧ kept.length < 3
        ∧ (short ∨ (reached ∨ mark) ∧ r.settings.sbNeed ≤ s.steam.grants.sb)
      let quiet := r.splice ≠ .slotted ∨ r.pressDue = none ∧ ¬ passes
      -- a panel start, which makes the tests again, may follow the delivery of a flat or gap step
      let noStart := r.splice ≠ .slotted ∨ (∃ dir, x.kind = .stroke dir) ∨ ¬ moving
      (w < a.remaining → quiet → (r.splice = .pressing → ∀ d, r.detectPoint = some d → c < d) →
        ∃ t, run = .next (State.served t) ∧ t.web = c
          ∧ (noStart → t.rcc.spindle n = .active debited ∧ t.rcc.spindle m = r.spindle m ∧ t.rcc.seams = kept
            ∧ t.rcc.unconfirmed = r.unconfirmed.map (fun u => { u with crossed := u.crossed || decide (u.position ≤ c) })
            ∧ (r.splice = .slotted → t.rcc.splice = .slotted ∧ t.rcc.pressDue = none
              ∧ t.rcc.firePoint = r.firePoint ∧ t.rcc.slotRequest = r.slotRequest))
          ∧ (∀ dir, x.kind = .stroke dir → moving →
            t.seq.step = some ⟨x.kind, x.advance, .stroke⟩ ∧ t.conv = s.conv ∧ t.track = marked
              ∧ t.flagSet .seamInPanel = (s.flagSet .seamInPanel || (crosses && s.forming?.isSome))
              ∧ (∀ j, (s.segs.get j).engaged = true → (t.segs.get j).drive = .stroke (s.fmu.get j).depth dir)
              ∧ (x.phase = .feedCut → t.seq.backoffs = 0 ∧ t.seq.pace = .running
                (600000 / max 20 (t.seq.baseRate * min t.steam.ceiling t.rcc.spliceCeiling / 100))))
          ∧ (x.kind = .flat ∨ x.kind = .gap → moving → t.conv = s.conv + x.advance)
          ∧ (¬ moving → t.seq.step = some ⟨x.kind, x.advance, .fed⟩ ∧ t.conv = s.conv ∧ t.track = marked))
      ∧ (∀ b, passes → r.settings.mode = .flying ∨ s.seq.line = .held ∨ s.seq.line = .idle →
        r.spindle m = .standby b → 0 < b.remaining → 0 < s.geometry.detectPath →
        ∃ t, run = .next (State.served t) ∧ t.web = c ∧ t.rcc.spindle n = .expiring debited
          ∧ t.rcc.spindle m = .active b ∧ t.rcc.splice = .pressing ∧ t.rcc.tailTimer = true ∧ t.rcc.firePoint = none
          ∧ t.rcc.slotRequest = false ∧ t.rcc.pressDue = none ∧ t.rcc.seams = kept
          ∧ t.rcc.unconfirmed = some ⟨c + s.geometry.seamPath, a.id, b.id, false⟩
          ∧ t.rcc.standbyNeeded = decide (b.remaining ≤ r.settings.trigger)
          ∧ (r.settings.mode = .flying → t.rcc.pressCommand = some .pressAndKnife
            ∧ t.rcc.detectPoint = some (c + s.geometry.detectPath) ∧ t.rcc.confirmTimer = none)
          ∧ (r.settings.mode = .stopped → t.rcc.pressCommand = some .press ∧ t.seq.hold.splice = true
            ∧ t.rcc.detectPoint = none ∧ t.rcc.confirmTimer = some r.settings.confirm)
          ∧ (x.kind = .flat ∨ x.kind = .gap → moving → t.conv = s.conv + x.advance)
          ∧ (∀ dir, x.kind = .stroke dir → moving → t.seq.step = some ⟨x.kind, x.advance, .stroke⟩)
          ∧ (¬ moving → t.seq.step = some ⟨x.kind, x.advance, .fed⟩))
      ∧ (∀ dir, passes → r.settings.mode = .stopped → w < a.remaining → x.kind = .stroke dir → moving →
        ∃ t d, run = .next (State.served t) ∧ t.web = c ∧ t.seq.line = .holding
          ∧ t.seq.hold = { s.seq.hold with splice := true } ∧ t.rcc.splice = .slotted
          ∧ t.rcc.pressDue = some d ∧ (d = true ↔ short) ∧ t.rcc.spindle n = .active debited
          ∧ t.seq.step = some ⟨x.kind, x.advance, .stroke⟩ ∧ t.conv = s.conv)
      ∧ (∀ d u, w < a.remaining → r.splice = .pressing → r.settings.mode = .flying → r.confirmTimer = none →
        r.detectPoint = some d → d ≤ c → r.unconfirmed = some u →
        ∃ t, run = .next (State.served t) ∧ t.web = c
          ∧ (r.edgeSeen = false → t.rcc.splice = .pressing ∧ t.rcc.confirmTimer = some r.settings.confirm
            ∧ t.rcc.seams = kept)
          ∧ (r.edgeSeen = true → t.flagSet .spliceDone = true ∧ t.rcc.unconfirmed = none
            ∧ t.rcc.confirmTimer = none ∧ t.rcc.detectPoint = none ∧ (r.standbyRoll = none → t.rcc.splice = .idle)
            ∧ t.rcc.seams = if u.crossed = true ∨ u.position ≤ c then kept
              else insertSeam ⟨u.position, u.oldId, u.newId, s.clock, .detector⟩ kept))
      ∧ (a.remaining ≤ w → quiet → r.splice ≠ .pressing → r.pressDue = none → s.forming?.isSome = true ∨ x.kind = .gap →
        ∃ t, run = .next (State.served t) ∧ t.web = c ∧ t.conv = s.conv
          ∧ t.rcc.spindle n = .spent { a with remaining := 0 } ∧ t.rcc.spindle m = r.spindle m
          ∧ t.rcc.splice = (if r.splice = .preparing ∨ r.splice = .slotted then .armed else r.splice)
          ∧ (r.splice = .preparing ∨ r.splice = .slotted → t.rcc.slotRequest = false ∧ t.rcc.firePoint = none
            ∧ t.rcc.matchTimer = false ∧ t.rcc.spindleCommand = none)
          ∧ t.flagSet .rollOut = true ∧ t.seq.hold = { s.seq.hold with rollOut := true }
          ∧ t.seq.line = (if s.seq.line.moving = true then .held else s.seq.line)
          ∧ (x.kind = .gap → t.seq.step = some ⟨.gap, x.advance, .fed⟩) ∧ (x.kind ≠ .gap → t.seq.step = none)
          ∧ t.forming? = none ∧ t.track = forming (fun p => { p with
            state := .travelling, tail := some s.conv, reasons := { p.reasons with interrupted := true } }) marked))

/-- R65, R66, R37, R159, R160: "stroke done". Without a stroke outstanding it is discarded; with other blades out the
segment waits. The last one delivers the stroke: the conveyor count advances by its spacing, the panel's stroke count
grows, overdue folds leave every checker's queue, and one expected fold enters for each engaged verifying segment. The
last stroke of the pattern ends the panel: its tail is the conveyor count, its gap becomes pending, the head order's
ended count grows, and the order leaves when it is done (R41, R51, R66). At a closed boundary the next step goes on
whatever stands pending (R68). At an open one an ABANDON ends the panel, HOLDING stops in HELD or, with a stop NOW
pending, IDLE, and DRAINING stops in IDLE at a panel boundary (R69). The delivery ends a stall and starts the stall timer
afresh while a probe lies in a zone, or stops it (R151, R153). -/
def Obligations.StrokeDoneDelivers : Prop :=
  ∀ (i : Fin 6) (s : State),
    let g := s.segs.get i
    let run := exec (.strokeDone i) s
    let after : State := { s with segs := s.segs.set i { g with drive := .none } }
    (g.drive.isStroke = false → run = .next (State.served s))
    ∧ (∀ j, g.drive.isStroke = true → j ≠ i → (s.segs.get j).drive.isStroke = true →
      run = .next (State.served after))
    ∧ (∀ dir adv x, g.drive.isStroke = true → (∀ j, j ≠ i → (s.segs.get j).drive.isStroke = false) →
      s.seq.step = some ⟨.stroke dir, adv, .stroke⟩ → s.forming? = some x → 0 < s.geometry.outletDist →
      let c := s.conv + adv
      let fold : ExpectedFold := {
        panel := x.number, spacing := adv, count := c + s.geometry.verifyDist, first := decide (x.strokes = 0)
        tol := (s.classFields x.cls).pitchTol }
      ∃ t, run = .next (State.served t) ∧ t.conv = c ∧ t.web = s.web
        ∧ (∃ y ∈ t.track, y.number = x.number ∧ y.strokes = min 2000 (x.strokes + 1))
        ∧ ∀ j, (t.verify.checkers.get j).queue
          = ((s.verify.checkers.get j).queue.dropWhile fun e => decide (e.count + s.verify.window < c))
            ++ if (s.segs.get j).engaged = true ∧ (s.segs.get j).active.verify = true then [fold] else [])
    ∧ (∀ dir adv x p n form locked spacing taper planned need, g.drive.isStroke = true →
      (∀ j, j ≠ i → (s.segs.get j).drive.isStroke = false) →
      s.seq.step = some ⟨.stroke dir, adv, .stroke⟩ → s.forming? = some x → 0 < s.geometry.outletDist →
      s.seq.plan = some p → p.runs[p.run]? = some (.pleat n form locked spacing taper planned need) →
      s.seq.gap = none →
      let last := n ≤ p.stroke + 1 ∧ p.runs.length ≤ p.run + 1
      let place : Plan := if p.stroke + 1 < n then { p with stroke := p.stroke + 1 }
        else { p with run := p.run + 1, stroke := 0 }
      let closed := p.stroke + 1 < n ∧ (locked = true ∨ (form = .box ∨ form = .inverted) ∧ p.stroke % 2 = 0)
      let abandon := ∃ o rest, s.orders = o :: rest ∧ o.cancel = .abandon
      let stopsIn : LineState :=
        if s.seq.line = .draining ∨ s.seq.stop = .now then .idle else .held
      let counted : List Order := match s.orders with
        | o :: rest => if o.ended + 1 = o.panels ∨ o.cancel ≠ .none then rest
            else { o with ended := o.ended + 1 } :: rest
        | [] => []
      let ended (t : State) : Prop := t.conv = s.conv + adv ∧ t.seq.plan = none ∧ t.orders = counted
        ∧ (counted.length < s.orders.length → t.flagSet .orderDone = true)
        ∧ ∃ y ∈ t.track, y.number = x.number ∧ y.state = .travelling ∧ y.tail = some (s.conv + adv)
          ∧ (last ∨ y.reasons.abandoned = true)
      let gap : Option Gap := if p.gap = 0 then none else some ⟨p.gap, p.cls⟩
      let stall (t : State) : Prop := t.steam = { s.steam with
        stalled := false, stallTimer := if t.track.any (fun q => t.probeInTunnel q) then some 0 else none }
      -- the panel ends in a line that is to stop
      (last ∨ ¬ closed ∧ abandon → s.seq.line = .holding ∨ s.seq.line = .draining →
        ∃ t, run = .next (State.served t) ∧ ended t ∧ t.seq.gap = gap ∧ t.seq.step = none ∧ t.forming? = none
          ∧ t.seq.line = stopsIn ∧ (last → stall t))
      -- it ends in a RUNNING line, its gap waiting for the pace timer or begun
      ∧ (last → s.seq.line = .running → p.gap ≠ 0 →
        ∃ t, run = .next (State.served t) ∧ ended t ∧ t.seq.line = .running ∧ t.forming? = none
          ∧ (∀ k, s.seq.pace = .running k → t.seq.gap = gap ∧ t.seq.step = none ∧ stall t)
          ∧ (s.seq.pace = .expired → t.seq.gap = none ∧ t.seq.step = some ⟨.gap, p.gap, .feed⟩))
      -- a line to be held stops inside the panel
      ∧ (¬ last → ¬ closed → ¬ abandon → s.seq.line = .holding →
        ∃ t, run = .next (State.served t) ∧ t.seq.line = stopsIn ∧ t.seq.plan = some place ∧ t.seq.step = none
          ∧ t.forming?.isSome = true ∧ stall t)
      -- the panel goes on
      ∧ (¬ last → s.seq.line.moving = true ∧ closed ∨ (s.seq.line = .running ∨ s.seq.line = .draining) ∧ ¬ abandon →
        ∃ t, run = .next (State.served t) ∧ t.seq.line = s.seq.line ∧ t.seq.plan = some place
          ∧ (∀ k, s.seq.pace = .running k → t.seq.step = none ∧ t.seq.pace = .running k ∧ stall t)
          ∧ (s.seq.pace = .expired → ∃ kind advance, t.seq.step = some ⟨kind, advance, .feed⟩)))

/-- R71, R92, R97, R37: a tension sample is clamped and held. A sample above the limit, or a jam report, of an engaged
segment in the stroke phase starts a backoff: every engaged blade is withdrawn and the counts grow; the fourth of one
stroke makes the segment FAULTED, and the line stands HELD. In a backoff whose withdraws are done, the stroke is
commanded again once every held tension is within its limit. R74: the last "withdraw done" of a cut stroke makes the
point of cut, and a line that runs again takes the stroke up there, with its pace timer restarted and its counts of
backoffs at 0. A "withdraw done" without a withdraw outstanding is discarded. That a sample above the limit or a jam
report of a segment that is not engaged begins no backoff is log 15 (DEDUCED). -/
def Obligations.BackoffFollowsTensions : Prop :=
  (∀ (i : Fin 6) (v : Int) (s : State),
    let g := s.segs.get i
    let value := if v < 0 then 0 else if 4095 < v then 4095 else v.toNat
    let sampled : State := { s with fmu := s.fmu.set i { s.fmu.get i with tension := some value } }
    let phase := s.seq.step.map (·.phase)
    let backoff (t : State) (x : StepRec) : State :=
      let segs : Six Segment := Six.tabulate fun j =>
        let h := s.segs.get j
        if h.engaged then { h with drive := .withdraw } else h
      { t with
        segs := segs.set i { segs.get i with
          retryNow := min 4 (g.retryNow + 1), retryTotal := min 65535 (g.retryTotal + 1) }
        track := s.track.map fun p =>
          if p.state = .forming then { p with backoffs := min 65535 (p.backoffs + 1) } else p
        seq := { s.seq with backoffs := s.seq.backoffs + 1, step := some { x with phase := .backoff } } }
    let offends (c : Instr) (t : State) : Prop :=
      c = .jamReport i ∧ t = s ∨ c = .tensionSample i v ∧ t = sampled ∧ g.active.tensionLimit < value
    (phase ≠ some .backoff → value ≤ g.active.tensionLimit ∨ phase ≠ some .stroke ∨ g.engaged = false →
      exec (.tensionSample i v) s = .next (State.served sampled))
    ∧ (phase ≠ some .stroke ∨ g.engaged = false → exec (.jamReport i) s = .next (State.served s))
    ∧ (∀ c t x, offends c t → g.engaged = true → s.seq.step = some x → x.phase = .stroke → s.seq.backoffs < 3 →
      exec c s = .next (State.served (backoff t x)))
    ∧ (∀ c t x, offends c t → g.engaged = true → s.seq.step = some x → x.phase = .stroke → 3 ≤ s.seq.backoffs →
      (s.seq.line = .running ∨ s.seq.line = .holding ∨ s.seq.line = .draining) →
      ∃ u, exec c s = .next (State.served u) ∧ u.seq.line = .held ∧ u.seq.hold.fault = true
        ∧ (u.segs.get i).state = .faulted ∧ (u.segs.get i).cause = .backoffLimit)
    ∧ (∀ dir adv, s.seq.step = some ⟨.stroke dir, adv, .backoff⟩ →
      (∀ j, (s.segs.get j).drive ≠ .withdraw) →
      let tensionsOk := ∀ j w, (s.segs.get j).engaged = true → (sampled.fmu.get j).tension = some w →
        w ≤ (s.segs.get j).active.tensionLimit
      (¬ tensionsOk → exec (.tensionSample i v) s = .next (State.served sampled))
      ∧ (tensionsOk → exec (.tensionSample i v) s = .next (State.served { sampled with
          segs := Six.tabulate fun j =>
            let h := s.segs.get j
            if h.engaged then { h with drive := .stroke (s.fmu.get j).depth dir } else h
          seq := { s.seq with step := some ⟨.stroke dir, adv, .stroke⟩ } }))))
  ∧ (∀ (i : Fin 6) (s : State),
    let g := s.segs.get i
    let run := exec (.withdrawDone i) s
    let out := s.segs.set i { g with drive := .none }
    let after : State := { s with segs := out }
    let tensionsOk := ∀ j w, (s.segs.get j).engaged = true → (s.fmu.get j).tension = some w →
      w ≤ (s.segs.get j).active.tensionLimit
    let stroking (dir : Direction) (f : Segment → Segment) : Six Segment := Six.tabulate fun j =>
      let h := f (out.get j)
      if h.engaged then { h with drive := .stroke (s.fmu.get j).depth dir } else h
    (g.drive ≠ .withdraw → run = .next (State.served s))
    ∧ (∀ j x, g.drive = .withdraw → j ≠ i → (s.segs.get j).drive = .withdraw → s.seq.step = some x →
      x.phase = .backoff ∨ x.phase = .strokeCut → run = .next (State.served after))
    ∧ (∀ dir adv, g.drive = .withdraw → (∀ j, j ≠ i → (s.segs.get j).drive ≠ .withdraw) →
      (s.seq.step = some ⟨.stroke dir, adv, .backoff⟩ →
        (¬ tensionsOk → run = .next (State.served after))
        ∧ (tensionsOk → run = .next (State.served { s with
          segs := stroking dir id
          seq := { s.seq with step := some ⟨.stroke dir, adv, .stroke⟩ } })))
      ∧ (s.seq.step = some ⟨.stroke dir, adv, .strokeCut⟩ →
        (s.seq.line.moving = false → run = .next (State.served after))
        ∧ (s.seq.line.moving = true → run = .next (State.served { s with
          segs := stroking dir fun h => { h with retryNow := 0 }
          seq := { s.seq with
            backoffs := 0
            pace := .running (600000 / max 20 (s.seq.baseRate * min s.steam.ceiling s.rcc.spliceCeiling / 100))
            step := some ⟨.stroke dir, adv, .stroke⟩ } })))))

/-! ## Exit, e-stop, bin -/

/-- R44, R178 to R182: the exit test with one record at the outlet: the reject causes of Table 10.2.1, the credit
settled, the exit record made, kept and reported. A track whose oldest record has not reached it stays. -/
def Obligations.ExitSettlesPanel : Prop :=
  ∀ (p : Panel) (rest : List Panel) (s : State), s.track = p :: rest →
    let gone (q : Panel) : Prop := q.state = .travelling ∧ ∃ t, q.tail = some t ∧ s.geometry.outletDist ≤ s.conv - t
    let c := s.classFields p.cls
    let lead := p.lead.z1 + p.lead.z2 + p.lead.z3 + p.lead.z4
    let tail := p.tailDose.z1 + p.tailDose.z2 + p.tailDose.z3 + p.tailDose.z4
    let causes : Causes := {
      reason := p.reasons.seamed || p.reasons.scorched || p.reasons.interrupted || p.reasons.abandoned
        || p.reasons.segmentLost || p.reasons.coldZone
      underdosed := decide (lead < c.doseMin ∨ tail < c.doseMin)
      overdosed := match c.doseMax with
        | some m => decide (m < lead ∨ m < tail)
        | none => false
      foldErrors := decide (p.foldLimit < p.outOfTol + p.missing + p.extra)
      unverified := p.reasons.unverifiedSeen && p.verifyRequired }
    let reject := decide (causes ≠ ⟨false, false, false, false, false⟩)
    let final : FinalOutlet := if reject then .reject else .good p.outlet
    let record : ExitRecord := {
      number := s.outlets.nextExit, panel := p, leadTotal := lead, tailTotal := tail, causes := causes
      final := final, binFull := reject && s.outlets.binFull, conv := s.conv }
    let n := s.outlets.counts p.outlet
    let out := s.outlets.setCounts p.outlet
      { n with reserved := n.reserved - 1, occupied := if reject then n.occupied else n.occupied + 1 }
    let out : Outlets := { out with
      port := some final, nextExit := s.outlets.nextExit + 1
      exits := if s.outlets.exits.length < 16 then s.outlets.exits ++ [record]
        else s.outlets.exits.drop 1 ++ [record] }
    (¬ gone p → s.exitTest = s)
    ∧ (gone p → (∀ q, rest.head? = some q → ¬ gone q) →
      s.exitTest = if s.link.queue.length < 28 then { s with
          track := rest, outlets := out, link := { s.link with queue := s.link.queue ++ [.panelOut record] } }
        else State.raise .exitReportSkipped { s with
          track := rest, outlets := { out with skipped := min 65535 (s.outlets.skipped + 1) } })

/-- R76, R41, R47, R51, R94, R117, R134, R154: the e-stop input goes active in a line that is not in ESTOP: what every
block drops, parks and marks. A feed phase in flight makes its feed end. A FORMING panel ends there with INTERRUPTED: the
head order's ended count grows, the order leaves when it is done or cancelled, and the panel's gap becomes pending. A
panel's step is dropped, a gap step's delivery kept. A config status PENDING or IN_PROGRESS becomes NONE with
APPLY_DONE, the waiting copy dropped. A splice asked for or slotted is ARMED again without its points, a due press taking
SPLICE out of the hold requester set; a pressed one is MISSED, and beside its confirm timer and detect point (R134) its
match timer, fire point and press due are dropped by log 26, its slot request and the spindle command by logs 26 and 28.
An input already active changes nothing (log 14). Logs 14, 26 and 28 are DEDUCED. -/
def Obligations.EstopStopsEverything : Prop :=
  ∀ s : State,
    (s.estopInput = true → exec .estopActive s = .next (State.served s))
    ∧ (s.estopInput = false → s.seq.line ≠ .estop →
      ∃ t, exec .estopActive s = .next (State.served t) ∧ t.estopInput = true ∧ t.seq.line = .estop
        ∧ t.seq.pace = .stopped ∧ t.seq.stop = .none
        ∧ t.seq.inhibits = ⟨false, false, false, false, false, false, false, false⟩
        ∧ t.seq.step = none ∧ t.seq.hold.fault = false ∧ t.conv = s.conv
        ∧ (∀ x, s.seq.step = some x → x.kind = .gap → t.seq.kept = some x.advance)
        ∧ t.web = s.web + (match s.seq.step with
            | some x => if x.phase = .feed ∨ x.phase = .feedCut then s.webAdvance else 0
            | none => 0)
        ∧ t.seq.hold.host = s.seq.hold.host ∧ t.seq.backoffs = 0
        ∧ t.seq.plan = (if s.forming?.isSome = true then none else s.seq.plan)
        ∧ t.seq.gap = (match s.forming?, s.seq.plan with
            | some _, some p => if p.gap = 0 then none else some ⟨p.gap, p.cls⟩
            | _, _ => s.seq.gap)
        ∧ t.orders = (match s.forming?, s.orders with
            | some _, o :: rest => if o.ended + 1 = o.panels ∨ o.cancel ≠ .none then rest
                else { o with ended := o.ended + 1 } :: rest
            | _, orders => orders)
        ∧ (t.orders.length < s.orders.length → t.link.flags.getLsbD 4 = true)
        ∧ t.forming? = none ∧ t.track.length = s.track.length
        ∧ (∀ (k : Nat) (p : Panel), s.track[k]? = some p → ∃ y, t.track[k]? = some y ∧ y.number = p.number
          ∧ y.reasons.interrupted = true ∧ y.tail = if p.state = .forming then some s.conv else p.tail)
        ∧ (∀ i, let g := s.segs.get i
            let busy := g.status = .pending ∨ g.status = .inProgress
            t.segs.get i = { g with
                drive := .none, active := { g.active with engage := false }, retryNow := 0, state := .parked
                status := if busy then .none else g.status, waiting := if busy then none else g.waiting }
              ∧ (busy → t.flagSet (.applyDone i) = true) ∧ (g.state ≠ .parked → t.flagSet (.segState i) = true))
        ∧ t.fmu = s.fmu.map (fun f => { f with
            tension := none, inStep := false, left := [], commanded := 0, completed := 0 })
        ∧ t.steam.grants = ⟨0, 0, 0, 0, 0⟩ ∧ t.steam.ceiling = s.steam.ceiling
        ∧ t.rcc.splice = (match s.rcc.splice with
            | .preparing | .slotted => .armed
            | .pressing => .missed .estop
            | x => x)
        ∧ (s.rcc.splice = .preparing ∨ s.rcc.splice = .slotted ∨ s.rcc.splice = .pressing →
          t.rcc.matchTimer = false ∧ t.rcc.spindleCommand = none ∧ t.rcc.slotRequest = false ∧ t.rcc.firePoint = none
            ∧ t.rcc.pressDue = none)
        ∧ (s.rcc.splice = .preparing ∨ s.rcc.splice = .slotted →
          t.seq.hold.splice = (s.seq.hold.splice && s.rcc.pressDue.isNone))
        ∧ (s.rcc.splice = .pressing → t.seq.hold.splice = true ∧ t.rcc.confirmTimer = none
          ∧ t.rcc.detectPoint = none ∧ t.link.flags.getLsbD 26 = true)
        ∧ t.verify.checkers = s.verify.checkers ∧ t.outlets = s.outlets
        ∧ t.link.flags.getLsbD 3 = true ∧ t.link.flags.getLsbD 1 = true)

/-- R77, R135: the e-stop input goes inactive: the line enters IDLE, HOST and SPLICE leave the hold requester set, and a
splice that is MISSED adds SPLICE again. R177: the reject bin input's level is held; REJECT_BIN_FULL is raised when it
becomes full; a WAITING line evaluates its inhibits again on either edge. An input change event at the level already held
changes nothing: for the e-stop by log 14 (DEDUCED), for the bin because R177 speaks of changes of level only. -/
def Obligations.EstopReleasedAndBinLevel : Prop :=
  ∀ (full : Bool) (s : State),
    (s.estopInput = false → exec .estopInactive s = .next (State.served s))
    ∧ (s.estopInput = true → s.seq.line = .estop → s.rcc.pressDue = none → (∀ i, (s.segs.get i).state ≠ .active) →
      let missed := match s.rcc.splice with
        | .missed _ => true
        | _ => false
      exec .estopInactive s = .next (State.served (State.raise .lineState { s with
        estopInput := false
        seq := { s.seq with
          line := .idle, hold := ⟨false, missed, s.seq.hold.rollOut, s.seq.hold.fault⟩
          pace := .stopped, stop := .none
          inhibits := ⟨false, false, false, false, false, false, false, false⟩ } })))
    ∧ (full = s.outlets.binFull → exec (.rejectBinInputChange full) s = .next (State.served s))
    ∧ (full ≠ s.outlets.binFull →
      let t : State := { s with outlets := { s.outlets with binFull := full } }
      exec (.rejectBinInputChange full) s = .next (State.served (State.thenReevaluate s
        (if full = true then t.raise .rejectBinFull else t))))
end

