-- ==== Sys2Proof/Laws/Word.lean ====
section
/-! SUPPORT. Laws of the containers of Word.lean: reading after writing, and tables in canonical form. -/

namespace Sys2Proof

namespace Six

@[simp] theorem get_set_same {α : Type} (v : Six α) (i : Fin 6) (a : α) : (v.set i a).get i = a := by
  fin_cases i <;> rfl

theorem get_set_of_ne {α : Type} (v : Six α) {i j : Fin 6} (a : α) (h : j ≠ i) :
    (v.set i a).get j = v.get j := by
  fin_cases i <;> fin_cases j <;> first | rfl | exact absurd rfl h

theorem ext_get {α : Type} {v w : Six α} (h : ∀ i, v.get i = w.get i) : v = w := by
  cases v; cases w
  have h0 := h 0; have h1 := h 1; have h2 := h 2; have h3 := h 3; have h4 := h 4; have h5 := h 5
  simp only [get] at h0 h1 h2 h3 h4 h5
  subst h0 h1 h2 h3 h4 h5; rfl

@[simp] theorem get_map {α β : Type} (f : α → β) (v : Six α) (i : Fin 6) : (v.map f).get i = f (v.get i) := by
  fin_cases i <;> rfl

@[simp] theorem get_tabulate {α : Type} (f : Fin 6 → α) (i : Fin 6) : (tabulate f).get i = f i := by
  fin_cases i <;> rfl

@[simp] theorem get_fill {α : Type} (a : α) (i : Fin 6) : (fill a).get i = a := by
  fin_cases i <;> rfl

theorem map_set {α β : Type} (f : α → β) (v : Six α) (i : Fin 6) (a : α) :
    (v.set i a).map f = (v.map f).set i (f a) := by
  fin_cases i <;> rfl

@[simp] theorem set_get_self {α : Type} (v : Six α) (i : Fin 6) : v.set i (v.get i) = v := by
  fin_cases i <;> rfl

/-- A write that leaves what `f` reads as it was leaves the whole family `f` reads as it was. -/
theorem map_set_eq {α β : Type} (f : α → β) (v : Six α) (i : Fin 6) (a : α) (h : f a = f (v.get i)) :
    (v.set i a).map f = v.map f := by
  rw [map_set, h, ← get_map f v i, set_get_self]

theorem map_map {α β γ : Type} (f : β → γ) (g : α → β) (v : Six α) :
    (v.map g).map f = v.map (fun a => f (g a)) := rfl

theorem all_set {α : Type} (p : α → Bool) (v : Six α) (i : Fin 6) (a : α) (hv : v.all p = true)
    (ha : p a = true) : (v.set i a).all p = true := by
  simp only [all, toList, List.all_cons, List.all_nil, Bool.and_true, Bool.and_eq_true] at hv ⊢
  fin_cases i <;> simp_all [set]

theorem all_get {α : Type} {p : α → Bool} {v : Six α} (hv : v.all p = true) (i : Fin 6) :
    p (v.get i) = true := by
  simp only [all, toList, List.all_cons, List.all_nil, Bool.and_true, Bool.and_eq_true] at hv
  fin_cases i <;> simp_all [get]

theorem all_map {α β : Type} {p : β → Bool} {q : α → Bool} {f : α → β} {v : Six α}
    (h : ∀ a, q a = true → p (f a) = true) (hv : v.all q = true) : (v.map f).all p = true := by
  simp only [all, toList, map, List.all_cons, List.all_nil, Bool.and_true, Bool.and_eq_true] at hv ⊢
  obtain ⟨h0, h1, h2, h3, h4, h5⟩ := hv
  exact ⟨h _ h0, h _ h1, h _ h2, h _ h3, h _ h4, h _ h5⟩

end Six

namespace Four

@[simp] theorem get_set_same {α : Type} (v : Four α) (i : Fin 4) (a : α) : (v.set i a).get i = a := by
  fin_cases i <;> rfl

theorem get_set_of_ne {α : Type} (v : Four α) {i j : Fin 4} (a : α) (h : j ≠ i) :
    (v.set i a).get j = v.get j := by
  fin_cases i <;> fin_cases j <;> first | rfl | exact absurd rfl h

@[simp] theorem get_map {α β : Type} (f : α → β) (v : Four α) (i : Fin 4) : (v.map f).get i = f (v.get i) := by
  fin_cases i <;> rfl

theorem map_set {α β : Type} (f : α → β) (v : Four α) (i : Fin 4) (a : α) :
    (v.set i a).map f = (v.map f).set i (f a) := by
  fin_cases i <;> rfl

@[simp] theorem set_get_self {α : Type} (v : Four α) (i : Fin 4) : v.set i (v.get i) = v := by
  fin_cases i <;> rfl

theorem map_set_eq {α β : Type} (f : α → β) (v : Four α) (i : Fin 4) (a : α) (h : f a = f (v.get i)) :
    (v.set i a).map f = v.map f := by
  rw [map_set, h, ← get_map f v i, set_get_self]

end Four

namespace Table

@[simp] theorem get?_insert_same {α : Type} (t : Table α) (n : Nat) (a : α) :
    (t.insert n a).get? n = some a := by
  induction t with
  | nil => simp [insert, get?]
  | cons e t ih =>
    simp only [insert]
    split
    · simp [get?]
    · split
      · simp [get?]
      · rename_i h; simp only [get?, ih]; rw [if_neg (by omega)]

theorem get?_insert_of_ne {α : Type} (t : Table α) {n m : Nat} (a : α) (h : m ≠ n) :
    (t.insert n a).get? m = t.get? m := by
  induction t with
  | nil => simp only [insert, get?]; rw [if_neg (by omega)]
  | cons e t ih =>
    simp only [insert]
    split
    · simp only [get?]; rw [if_neg (by omega)]
    · split
      · rename_i h2; subst h2; simp only [get?]; rw [if_neg (by omega), if_neg (by omega)]
      · simp only [get?, ih]

theorem get?_erase_of_ne {α : Type} (t : Table α) {n m : Nat} (h : m ≠ n) :
    (t.erase n).get? m = t.get? m := by
  induction t with
  | nil => rfl
  | cons e t ih =>
    simp only [erase]
    split
    · rename_i h2; subst h2; simp only [get?]; rw [if_neg (by omega)]
    · simp only [get?, ih]

theorem get?_of_above {α : Type} {k n : Nat} {t : Table α} (h : above k t = true) (hn : n ≤ k) :
    t.get? n = none := by
  induction t generalizing k with
  | nil => rfl
  | cons e t ih =>
    simp only [above, Bool.and_eq_true, decide_eq_true_eq] at h
    simp only [get?]; rw [if_neg (by omega)]; exact ih h.2 (by omega)

theorem get?_erase_same {α : Type} {t : Table α} (n : Nat) (h : t.wf = true) : (t.erase n).get? n = none := by
  induction t with
  | nil => rfl
  | cons e t ih =>
    simp only [wf] at h
    simp only [erase]
    split
    · rename_i h2; subst h2; exact get?_of_above h (Nat.le_refl _)
    · rename_i h2; simp only [get?]; rw [if_neg h2]
      refine ih ?_
      cases t with
      | nil => rfl
      | cons e' t => simp only [above, Bool.and_eq_true] at h; exact h.2

theorem above_mono {α : Type} {k j : Nat} {t : Table α} (h : above k t = true) (hj : j ≤ k) :
    above j t = true := by
  cases t with
  | nil => rfl
  | cons e t =>
    simp only [above, Bool.and_eq_true, decide_eq_true_eq] at h ⊢; exact ⟨by omega, h.2⟩

theorem above_insert {α : Type} {k n : Nat} {t : Table α} (a : α) (h : above k t = true) (hn : k < n) :
    above k (t.insert n a) = true := by
  induction t generalizing k with
  | nil => simp [insert, above, hn]
  | cons e t ih =>
    simp only [above, Bool.and_eq_true, decide_eq_true_eq] at h
    simp only [insert]
    split
    · simp only [above, Bool.and_eq_true, decide_eq_true_eq]; exact ⟨hn, by omega, h.2⟩
    · split
      · rename_i h2; subst h2; simp only [above, Bool.and_eq_true, decide_eq_true_eq]; exact h
      · simp only [above, Bool.and_eq_true, decide_eq_true_eq]; exact ⟨h.1, ih h.2 (by omega)⟩

/-- A write keeps the canonical form. -/
theorem wf_insert {α : Type} {t : Table α} (n : Nat) (a : α) (h : t.wf = true) : (t.insert n a).wf = true := by
  cases t with
  | nil => rfl
  | cons e t =>
    simp only [wf] at h
    simp only [insert]
    split
    · simp only [wf, above, Bool.and_eq_true, decide_eq_true_eq]; exact ⟨by assumption, h⟩
    · split
      · rename_i h2; subst h2; exact h
      · exact above_insert a h (by omega)

theorem above_erase {α : Type} {k : Nat} {t : Table α} (n : Nat) (h : above k t = true) :
    above k (t.erase n) = true := by
  induction t generalizing k with
  | nil => rfl
  | cons e t ih =>
    simp only [above, Bool.and_eq_true, decide_eq_true_eq] at h
    simp only [erase]
    split
    · exact above_mono h.2 (by omega)
    · simp only [above, Bool.and_eq_true, decide_eq_true_eq]; exact ⟨h.1, ih h.2⟩

/-- A removal keeps the canonical form. -/
theorem wf_erase {α : Type} {t : Table α} (n : Nat) (h : t.wf = true) : (t.erase n).wf = true := by
  cases t with
  | nil => rfl
  | cons e t =>
    simp only [wf] at h
    simp only [erase]
    split
    · cases t with
      | nil => rfl
      | cons e' t => simp only [above, Bool.and_eq_true] at h; exact h.2
    · exact above_erase n h

end Table

end Sys2Proof
end

