-- ==== Sys2Proof/Laws/Standing.lean ====
section
/-! SUPPORT. What stands (`State.standing`) through every shared operation and every request that sets
nothing: one law for each. -/

namespace Sys2Proof.Machine

/-! ## Writes of one part -/

section Parts
variable (s : State)

@[simp] theorem standing_freeIndex (x : Nat) : State.standing { s with freeIndex := x } = s.standing := rfl
@[simp] theorem standing_web (x : Nat) : State.standing { s with web := x } = s.standing := rfl
@[simp] theorem standing_conv (x : Nat) : State.standing { s with conv := x } = s.standing := rfl
@[simp] theorem standing_orders (x : List Order) : State.standing { s with orders := x } = s.standing := rfl
@[simp] theorem standing_track (x : List Panel) : State.standing { s with track := x } = s.standing := rfl
@[simp] theorem standing_trackNext (x : List Panel) (n : Nat) :
    State.standing { s with track := x, nextPanel := n } = s.standing := rfl
@[simp] theorem standing_fmu (x : Six FeedSeg) : State.standing { s with fmu := x } = s.standing := rfl

/-- A write of the segment controls that leaves the staged sets. -/
@[simp] theorem standing_segs {x : Six Segment} (h : x.map Segment.staged = s.segs.map Segment.staged) :
    State.standing { s with segs := x } = s.standing := by simp [State.standing, h]

/-- A write of the sequencer that leaves the base rate. -/
@[simp] theorem setSeq_standing {f : Seq → Seq} (h : (f s.seq).baseRate = s.seq.baseRate) :
    (s.setSeq f).standing = s.standing := by simp [State.standing, State.setSeq, h]

/-- A write of the roll change controller that leaves the splice settings. -/
@[simp] theorem setRcc_standing {f : RollChange → RollChange} (h : (f s.rcc).settings = s.rcc.settings) :
    (s.setRcc f).standing = s.standing := by simp [State.standing, State.setRcc, h]

/-- A write of the steam allocator that leaves its settings. -/
@[simp] theorem setSteam_standing {f : Steam → Steam} (h : (f s.steam).reservations = s.steam.reservations)
    (g : (f s.steam).stallLimit = s.steam.stallLimit) : (s.setSteam f).standing = s.standing := by
  simp [State.standing, State.setSteam, h, g]

/-- A write of the link that leaves the masks. -/
@[simp] theorem setLink_standing {f : Link → Link} (h : (f s.link).masks = s.link.masks) :
    (s.setLink f).standing = s.standing := by simp [State.standing, State.setLink, h]

/-- A write of a zone controller that leaves its settings. -/
@[simp] theorem setZone_standing {z : Fin 4} {x : Zone} (h : x.settings = (s.zones.get z).settings) :
    (s.setZone z x).standing = s.standing := by
  simp only [State.standing, State.setZone]; rw [Four.map_set_eq _ _ _ _ h]

/-- A write of a segment control that leaves its staged set. -/
@[simp] theorem setSeg_standing {i : Fin 6} {g : Segment} (h : g.staged = (s.segs.get i).staged) :
    (s.setSeg i g).standing = s.standing := by
  simp only [State.standing, State.setSeg]; rw [Six.map_set_eq _ _ _ _ h]

end Parts

/-- What every step of a fold leaves, the fold leaves. -/
theorem foldl_leaves {α β : Type} (g : State → α) (f : State → β → State)
    (h : ∀ s b, g (f s b) = g s) (l : List β) (s : State) : g (l.foldl f s) = g s := by
  induction l generalizing s with
  | nil => rfl
  | cons b l ih => rw [List.foldl_cons, ih, h]

/-- A fold whose every step leaves what stands leaves it. -/
@[simp] theorem foldl_standing {β : Type} {f : State → β → State}
    (h : ∀ s b, (f s b).standing = s.standing) (l : List β) (s : State) :
    (l.foldl f s).standing = s.standing := foldl_leaves State.standing f h l s

@[simp] theorem standing_verify {s : State} {v : Verifier} (h1 : v.window = s.verify.window)
    (h2 : v.frozen = s.verify.frozen) (h3 : v.period = s.verify.period) :
    State.standing { s with verify := v } = s.standing := by simp [State.standing, h1, h2, h3]

@[simp] theorem standing_outlets {s : State} {o : Outlets} (h1 : o.stackA.capacity = s.outlets.stackA.capacity)
    (h2 : o.stackB.capacity = s.outlets.stackB.capacity) (h3 : o.rewind.capacity = s.outlets.rewind.capacity) :
    State.standing { s with outlets := o } = s.standing := by simp [State.standing, h1, h2, h3]


/-! ## The line link -/

@[simp] theorem joinNotice_masks (n : Nat) (l : Link) : (l.joinNotice n).masks = l.masks := by
  unfold Link.joinNotice; split <;> (try split) <;> rfl
@[simp] theorem link_raise_masks' (n : Nat) (l : Link) : (l.raise n).masks = l.masks := by
  unfold Link.raise; split <;> (try split) <;> simp
@[simp] theorem admitReply_masks (l : Link) : l.admitReply.masks = l.masks := by
  unfold Link.admitReply; split <;> (try split) <;> rfl
@[simp] theorem admitNotice_masks (l : Link) : l.admitNotice.masks = l.masks := by
  unfold Link.admitNotice; split <;> rfl
@[simp] theorem admit_masks (l : Link) : l.letIn.masks = l.masks := by simp [Link.letIn]
@[simp] theorem start_masks (l : Link) : l.start.masks = l.masks := by
  unfold Link.start; split <;> (try split) <;> simp
@[simp] theorem service_masks (l : Link) : l.service.masks = l.masks := by simp [Link.service]
@[simp] theorem pushReply_masks (e : TxEntry) (l : Link) : (l.pushReply e).masks = l.masks := by
  unfold Link.pushReply; dsimp only; split <;> simp
@[simp] theorem pushSnapshot_masks (n : Snapshot) (l : Link) : (l.pushSnapshot n).masks = l.masks := by
  unfold Link.pushSnapshot; split <;> (try split) <;> rfl
@[simp] theorem countError_masks (l : Link) : l.countError.masks = l.masks := rfl
@[simp] theorem frameDone_masks (l : Link) : l.frameDone.masks = l.masks := by
  unfold Link.frameDone; split <;> rfl

/-! ## Parts of the roll change controller -/

@[simp] theorem setSpindle_settings (n : SpindleName) (x : Spindle) (r : RollChange) :
    (r.setSpindle n x).settings = r.settings := by cases n <;> rfl
@[simp] theorem mapSpindles_settings (f : Spindle → Spindle) (r : RollChange) :
    (r.mapSpindles f).settings = r.settings := rfl
@[simp] theorem takeBack_settings (r : RollChange) : r.takeBack.settings = r.settings := rfl
@[simp] theorem rollReset_settings (r : RollChange) : r.reset.settings = r.settings := rfl
@[simp] theorem countStarved_reservations (a : Steam) : a.countStarved.reservations = a.reservations := rfl
@[simp] theorem countStarved_stallLimit (a : Steam) : a.countStarved.stallLimit = a.stallLimit := rfl

/-! ## Outlets -/

/-- The three capacities. -/
def Outlets.capacities (o : Outlets) : Nat × Nat × Nat :=
  (o.stackA.capacity, o.stackB.capacity, o.rewind.capacity)

@[simp] theorem setCounts_capacityA (n : Outlet) (c : OutletCounts) (o : Outlets)
    (h : c.capacity = (o.counts n).capacity) : (o.setCounts n c).stackA.capacity = o.stackA.capacity := by
  cases n <;> first | exact h | rfl
@[simp] theorem setCounts_capacityB (n : Outlet) (c : OutletCounts) (o : Outlets)
    (h : c.capacity = (o.counts n).capacity) : (o.setCounts n c).stackB.capacity = o.stackB.capacity := by
  cases n <;> first | exact h | rfl
@[simp] theorem setCounts_capacityR (n : Outlet) (c : OutletCounts) (o : Outlets)
    (h : c.capacity = (o.counts n).capacity) : (o.setCounts n c).rewind.capacity = o.rewind.capacity := by
  cases n <;> first | exact h | rfl
@[simp] theorem settle_capacity (b : Bool) (c : OutletCounts) : (c.settle b).capacity = c.capacity := by
  cases b <;> rfl

theorem map_staged_same {f : Segment → Segment} (h : ∀ g, (f g).staged = g.staged) (v : Six Segment) :
    (v.map f).map Segment.staged = v.map Segment.staged := by
  simp only [Six.map_map, h]

/-! ## The operations -/

@[simp] theorem State.raise_standing (f : Flag) (s : State) : (State.raise f s).standing = s.standing := by
  simp [State.raise, State.standing]

@[simp] theorem State.setFmu_standing (i : Fin 6) (f : FeedSeg) (s : State) :
    (State.setFmu i f s).standing = s.standing := by
  simp [State.setFmu]

@[simp] theorem State.setDrive_standing (i : Fin 6) (d : Drive) (s : State) :
    (State.setDrive i d s).standing = s.standing := by
  simp [State.setDrive]

@[simp] theorem State.setSegState_standing (i : Fin 6) (st : SegState) (s : State) :
    (State.setSegState i st s).standing = s.standing := by
  simp [State.setSegState, apply_ite State.standing]

@[simp] theorem State.setStatus_standing (i : Fin 6) (st : ConfigStatus) (s : State) :
    (State.setStatus i st s).standing = s.standing := by
  simp [State.setStatus, apply_ite State.standing]

@[simp] theorem State.setWaiting_standing (i : Fin 6) (m : ApplyMode) (s : State) :
    (State.setWaiting i m s).standing = s.standing := by
  simp [State.setWaiting]

@[simp] theorem State.commandEngaged_standing (d : Fin 6 → Drive) (s : State) :
    (State.commandEngaged d s).standing = s.standing := by
  unfold State.commandEngaged
  apply standing_segs
  have h (g : Segment) (x : Drive) : (if g.engaged then { g with drive := x } else g).staged = g.staged := by
    split <;> rfl
  simp only [Six.tabulate, Six.map]
  congr 1 <;> exact h _ _

@[simp] theorem State.clearStepDrives_standing (s : State) : (State.clearStepDrives s).standing = s.standing := by
  unfold State.clearStepDrives
  exact standing_segs _ (map_staged_same (fun g => by split <;> rfl) _)

@[simp] theorem State.mapForming_standing (f : Panel → Panel) (s : State) :
    (State.mapForming f s).standing = s.standing := by
  simp [State.mapForming]

@[simp] theorem State.writePanel_standing (n : Nat) (f : Panel → Panel) (s : State) :
    (State.writePanel n f s).standing = s.standing := by
  simp [State.writePanel]

@[simp] theorem State.raise?_standing (f : Option Flag) (s : State) : (State.raise? f s).standing = s.standing := by
  unfold State.raise?; split <;> simp

@[simp] theorem State.takeFree_standing (s : State) : (State.takeFree s).standing = s.standing := by
  simp [State.takeFree]

@[simp] theorem State.setChecker_standing (i : Fin 6) (k : Checker) (s : State) :
    (State.setChecker i k s).standing = s.standing := by
  simp [State.setChecker]

@[simp] theorem State.recordOutcome_standing (i : Fin 6) (o : FoldOutcome) (panel : Option Nat) (s : State) :
    (State.recordOutcome i o panel s).standing = s.standing := by
  unfold State.recordOutcome; split <;> simp [apply_ite State.standing]

@[simp] theorem State.sweepFrom_standing (i : Fin 6) (c : Nat) (es : List ExpectedFold) (s : State) :
    (State.sweepFrom i c es s).standing = s.standing := by
  induction es generalizing s with
  | nil => rfl
  | cons e es ih => simp only [State.sweepFrom]; split <;> simp [ih]

@[simp] theorem State.sweep_standing (i : Fin 6) (c : Nat) (s : State) :
    (State.sweep i c s).standing = s.standing := by
  simp [State.sweep]

@[simp] theorem State.sweepAll_standing (c : Nat) (s : State) : (State.sweepAll c s).standing = s.standing := by
  simp [State.sweepAll]

@[simp] theorem State.pushFold_standing (e : ExpectedFold) (s : State) (i : Fin 6) :
    (State.pushFold e s i).standing = s.standing := by
  simp [State.pushFold, apply_ite State.standing]

@[simp] theorem State.pushFolds_standing (spacing : Nat) (s : State) :
    (State.pushFolds spacing s).standing = s.standing := by
  unfold State.pushFolds; split <;> simp

@[simp] theorem State.matchFold_standing (i : Fin 6) (x : Nat) (s : State) :
    (State.matchFold i x s).standing = s.standing := by
  unfold State.matchFold; dsimp only; split <;> simp [apply_ite State.standing]

@[simp] theorem State.foldEvent_standing (i : Fin 6) (s : State) : (State.foldEvent i s).standing = s.standing := by
  simp [State.foldEvent, apply_ite State.standing]

@[simp] theorem State.emptyFolds_standing (s : State) : (State.emptyFolds s).standing = s.standing := by
  simp [State.emptyFolds]

@[simp] theorem State.startFeeds_standing (isGap : Bool) (c : FabricClass) (figures : Fin 6 → StepFigures) (s : State) :
    (State.startFeeds isGap c figures s).standing = s.standing := by
  simp [State.startFeeds, apply_ite State.standing]

@[simp] theorem State.startCarries_standing (s : State) : (State.startCarries s).standing = s.standing := by
  simp [State.startCarries]

@[simp] theorem State.reserve_standing (n : Outlet) (s : State) : (s.reserve n).standing = s.standing := by
  simp [State.reserve, apply_ite State.standing]

@[simp] theorem State.reportExit_standing (x : ExitRecord) (s : State) :
    (State.reportExit x s).standing = s.standing := by
  simp [State.reportExit, apply_ite State.standing]

@[simp] theorem State.handOver_standing (p : Panel) (s : State) : (State.handOver p s).standing = s.standing := by
  simp [State.handOver]

@[simp] theorem State.exitFrom_standing (ps : List Panel) (s : State) :
    (State.exitFrom ps s).standing = s.standing := by
  induction ps generalizing s with
  | nil => rfl
  | cons p ps ih => simp only [State.exitFrom]; split <;> simp [ih]

@[simp] theorem State.exitTest_standing (s : State) : (State.exitTest s).standing = s.standing := by
  simp [State.exitTest]

@[simp] theorem State.scorch_standing (z : Fin 4) (t : Int) (s : State) :
    (State.scorch z t s).standing = s.standing := by
  simp [State.scorch, apply_ite State.standing]

@[simp] theorem State.zoneSample_standing (z : Fin 4) (t : Int) (s : State) :
    (State.zoneSample z t s).standing = s.standing := by
  unfold State.zoneSample; dsimp only
  rw [State.scorch_standing, standing_track]; exact setZone_standing s rfl

@[simp] theorem State.zoneSilent_standing (z : Fin 4) (s : State) : (State.zoneSilent z s).standing = s.standing := by
  unfold State.zoneSilent; dsimp only; split
  · rw [standing_track, State.raise_standing, setSteam_standing _ rfl rfl]; exact setZone_standing s rfl
  · rfl

@[simp] theorem State.setCeiling_standing (c : Nat) (s : State) : (State.setCeiling c s).standing = s.standing := by
  simp [State.setCeiling, apply_ite State.standing]

@[simp] theorem State.actCeiling_standing (s : State) : (State.actCeiling s).standing = s.standing := by
  simp [State.actCeiling, apply_ite State.standing]

@[simp] theorem State.round_standing (c : Nat) (s : State) : (State.round c s).standing = s.standing := by
  unfold State.round; dsimp only; split
  · exact setSteam_standing _ rfl rfl
  · rw [State.actCeiling_standing]; exact setSteam_standing _ rfl rfl

@[simp] theorem State.stallNow_standing (s : State) : (State.stallNow s).standing = s.standing := by
  simp [State.stallNow]

@[simp] theorem State.stallAfterDelivery_standing (s : State) :
    (State.stallAfterDelivery s).standing = s.standing := by
  simp [State.stallAfterDelivery]

@[simp] theorem State.nowCopy_standing (i : Fin 6) (s : State) : (State.nowCopy i s).standing = s.standing := by
  simp [State.nowCopy]

@[simp] theorem State.nowCopies_standing (s : State) : (State.nowCopies s).standing = s.standing := by
  simp [State.nowCopies, apply_ite State.standing]

@[simp] theorem State.boundaryCopy_standing (i : Fin 6) (s : State) :
    (State.boundaryCopy i s).standing = s.standing := by
  simp [State.boundaryCopy, apply_ite State.standing]

@[simp] theorem State.jointCopy_standing (refuse : Bool) (s : State) (i : Fin 6) :
    (State.jointCopy refuse s i).standing = s.standing := by
  simp [State.jointCopy, apply_ite State.standing]

@[simp] theorem State.boundaryCopies_standing (is : List (Fin 6)) (s : State) :
    (State.boundaryCopies is s).standing = s.standing := by
  simp [State.boundaryCopies]

@[simp] theorem State.faultSeg_standing (i : Fin 6) (c : FaultCause) (s : State) :
    (State.faultSeg i c s).standing = s.standing := by
  simp [State.faultSeg, apply_ite State.standing]

@[simp] theorem State.standReady_standing (s : State) : (State.standReady s).standing = s.standing := by
  simp [State.standReady, apply_ite State.standing]

@[simp] theorem State.goActive_standing (s : State) : (State.goActive s).standing = s.standing := by
  simp [State.goActive, apply_ite State.standing]

@[simp] theorem State.clearRetries_standing (s : State) : (State.clearRetries s).standing = s.standing := by
  have h := map_staged_same (f := fun g => { g with retryNow := 0 }) (fun _ => rfl) s.segs
  simp [State.clearRetries, State.standing, h]

@[simp] theorem State.estopSeg_standing (s : State) (i : Fin 6) : (State.estopSeg s i).standing = s.standing := by
  simp [State.estopSeg, apply_ite State.standing]

@[simp] theorem State.resetSeg_standing (s : State) (i : Fin 6) : (State.resetSeg s i).standing = s.standing := by
  unfold State.resetSeg; dsimp only; split <;> simp

@[simp] theorem State.evalStandby_standing (s : State) : (State.evalStandby s).standing = s.standing := by
  simp [State.evalStandby, apply_ite State.standing]

@[simp] theorem State.triggerTest_standing (s : State) : (State.triggerTest s).standing = s.standing := by
  simp [State.triggerTest, apply_ite State.standing]

@[simp] theorem State.seamInPanel_standing (s : State) : (State.seamInPanel s).standing = s.standing := by
  unfold State.seamInPanel; split <;> simp

@[simp] theorem State.crossSeams_standing (s : State) : (State.crossSeams s).standing = s.standing := by
  simp [State.crossSeams, apply_ite State.standing]

@[simp] theorem State.crossUnconfirmed_standing (s : State) : (State.crossUnconfirmed s).standing = s.standing := by
  unfold State.crossUnconfirmed; split <;> simp [apply_ite State.standing]

@[simp] theorem State.fire_standing (s : State) : (State.fire s).standing = s.standing := by
  unfold State.fire; split <;> simp

@[simp] theorem State.pressTest_standing (s : State) : (State.pressTest s).standing = s.standing := by
  unfold State.pressTest; split <;> simp [apply_ite State.standing]

@[simp] theorem State.recordSeam_standing (how : ConfirmedBy) (s : State) :
    (State.recordSeam how s).standing = s.standing := by
  unfold State.recordSeam; split <;> simp

@[simp] theorem State.confirmSplice_standing (how : ConfirmedBy) (s : State) :
    (State.confirmSplice how s).standing = s.standing := by
  simp [State.confirmSplice]

@[simp] theorem State.detectTest_standing (s : State) : (State.detectTest s).standing = s.standing := by
  unfold State.detectTest; (repeat' split) <;> simp

@[simp] theorem State.firmSlot_standing (b : Nat) (s : State) : (State.firmSlot b s).standing = s.standing := by
  simp [State.firmSlot]

@[simp] theorem State.offerForming_standing (s : State) : (State.offerForming s).standing = s.standing := by
  unfold State.offerForming; split <;> simp [apply_ite State.standing]

@[simp] theorem State.enter_standing (l : LineState) (s : State) : (State.enter l s).standing = s.standing := by
  unfold State.enter; dsimp only; split
  · rfl
  · have h : (Seq.enterLine l s.seq).baseRate = s.seq.baseRate := by cases l <;> rfl
    split <;> simp [h]

@[simp] theorem State.enterHeld_standing (s : State) : (State.enterHeld s).standing = s.standing := by
  simp [State.enterHeld]

@[simp] theorem State.enterIdle_standing (s : State) : (State.enterIdle s).standing = s.standing := by
  simp [State.enterIdle]

@[simp] theorem State.stopAtBoundary_standing (s : State) : (State.stopAtBoundary s).standing = s.standing := by
  simp [State.stopAtBoundary, apply_ite State.standing]

@[simp] theorem State.enterHolding_standing (s : State) : (State.enterHolding s).standing = s.standing := by
  unfold State.enterHolding; split <;> simp

@[simp] theorem State.addHold_standing (f : HoldSet → HoldSet) (s : State) :
    (State.addHold f s).standing = s.standing := by
  unfold State.addHold; dsimp only; split <;> simp

@[simp] theorem State.addHoldAtOnce_standing (f : HoldSet → HoldSet) (s : State) :
    (State.addHoldAtOnce f s).standing = s.standing := by
  unfold State.addHoldAtOnce; dsimp only; split <;> simp

@[simp] theorem State.fireTests_standing (s : State) : (State.fireTests s).standing = s.standing := by
  unfold State.fireTests; (repeat' split) <;> simp

@[simp] theorem State.endHeadPanel_standing (s : State) : (State.endHeadPanel s).standing = s.standing := by
  unfold State.endHeadPanel; split <;> simp [apply_ite State.standing]

@[simp] theorem State.withdrawSlot_standing (p : Plan) (s : State) :
    (State.withdrawSlot p s).standing = s.standing := by
  unfold State.withdrawSlot; split <;> simp [apply_ite State.standing]

@[simp] theorem State.endForming_standing (early : Bool) (f : Reasons → Reasons) (s : State) :
    (State.endForming early f s).standing = s.standing := by
  unfold State.endForming; dsimp only; split <;> (try split) <;> simp [apply_ite State.standing]

@[simp] theorem State.dropPanelStep_standing (s : State) : (State.dropPanelStep s).standing = s.standing := by
  unfold State.dropPanelStep; split <;> simp [apply_ite State.standing]

@[simp] theorem State.restartPace_standing (s : State) : (State.restartPace s).standing = s.standing := by
  simp [State.restartPace]

@[simp] theorem State.beginStep_standing (kind : StepKind) (advance cls : Nat) (figures : State → Fin 6 → StepFigures) (s : State) :
    (State.beginStep kind advance cls figures s).standing = s.standing := by
  unfold State.beginStep; split <;> simp

@[simp] theorem State.markClamped_standing (taper : Six Nat) (s : State) :
    (State.markClamped taper s).standing = s.standing := by
  simp [State.markClamped, apply_ite State.standing]

@[simp] theorem State.nextStep_standing (s : State) : (State.nextStep s).standing = s.standing := by
  unfold State.nextStep; (repeat' split) <;> simp

@[simp] theorem State.pacedNext_standing (s : State) : (State.pacedNext s).standing = s.standing := by
  unfold State.pacedNext; split <;> simp

@[simp] theorem State.waitWith_standing (b : Inhibits) (s : State) : (State.waitWith b s).standing = s.standing := by
  simp [State.waitWith]

@[simp] theorem State.startPanel_standing (o : Order) (rest : List Order) (r : Roll) (out : Outlet) (p : Plan) (s : State) :
    (State.startPanel o rest r out p s).standing = s.standing := by
  simp [State.startPanel, apply_ite State.standing]

@[simp] theorem State.startAttempt_standing (s : State) : (State.startAttempt s).standing = s.standing := by
  unfold State.startAttempt; dsimp only; split
  · simp
  · split
    · split
      · split <;> simp
      · simp
    · simp

@[simp] theorem State.fireTestsAgain_standing (s : State) : (State.fireTestsAgain s).standing = s.standing := by
  simp [State.fireTestsAgain, apply_ite State.standing]

@[simp] theorem State.panelStart_standing (s : State) : (State.panelStart s).standing = s.standing := by
  simp [State.panelStart]

@[simp] theorem State.reevaluate_standing (s : State) : (State.reevaluate s).standing = s.standing := by
  simp [State.reevaluate, apply_ite State.standing]

@[simp] theorem State.abandonTest_standing (s : State) : (State.abandonTest s).standing = s.standing := by
  unfold State.abandonTest; split <;> simp [apply_ite State.standing]

@[simp] theorem State.openBoundary_standing (s : State) : (State.openBoundary s).standing = s.standing := by
  unfold State.openBoundary; split <;> simp [apply_ite State.standing]

@[simp] theorem State.boundary_standing (s : State) : (State.boundary s).standing = s.standing := by
  simp [State.boundary, apply_ite State.standing]

@[simp] theorem State.exitsAndStall_standing (s : State) : (State.exitsAndStall s).standing = s.standing := by
  simp [State.exitsAndStall]

@[simp] theorem State.deliver_standing (s : State) : (State.deliver s).standing = s.standing := by
  unfold State.deliver
  split
  · rfl
  · rename_i x _
    rcases x with ⟨_ | _ | _, _, _⟩ <;> dsimp only <;> (try split) <;> simp [apply_ite State.standing]

@[simp] theorem State.deliverAndGo_standing (s : State) : (State.deliverAndGo s).standing = s.standing := by
  simp [State.deliverAndGo]

@[simp] theorem State.deliverKept_standing (len : Nat) (s : State) :
    (State.deliverKept len s).standing = s.standing := by
  simp [State.deliverKept]

@[simp] theorem State.setPhase_standing (ph : Phase) (s : State) : (State.setPhase ph s).standing = s.standing := by
  simp [State.setPhase]

@[simp] theorem State.beginStroke_standing (dir : Direction) (s : State) :
    (State.beginStroke dir s).standing = s.standing := by
  simp [State.beginStroke]

@[simp] theorem State.takeUpStroke_standing (dir : Direction) (s : State) :
    (State.takeUpStroke dir s).standing = s.standing := by
  simp [State.takeUpStroke]

@[simp] theorem State.takeUp_standing (s : State) : (State.takeUp s).standing = s.standing := by
  unfold State.takeUp; (repeat' split) <;> simp

@[simp] theorem State.resume_standing (s : State) : (State.resume s).standing = s.standing := by
  unfold State.resume; split <;> simp [apply_ite State.standing]

@[simp] theorem State.rollOutTest_standing (s : State) : (State.rollOutTest s).standing = s.standing := by
  unfold State.rollOutTest; split
  · rfl
  · dsimp only; split
    · simp [apply_ite State.standing, setRcc_standing _ (f := RollChange.takeBack) rfl,
        setRcc_standing _ (f := RollChange.mapSpindles _) rfl]
    · rfl

@[simp] theorem State.feedEndRcc_standing (s : State) : (State.feedEndRcc s).standing = s.standing := by
  unfold State.feedEndRcc; dsimp only
  simp [setRcc_standing _ (f := RollChange.mapSpindles (Spindle.debit _)) rfl]

@[simp] theorem State.afterFeed_standing (s : State) : (State.afterFeed s).standing = s.standing := by
  unfold State.afterFeed; (repeat' split) <;> simp

@[simp] theorem State.feedEnd_standing (s : State) : (State.feedEnd s).standing = s.standing := by
  simp [State.feedEnd]

@[simp] theorem State.feedEndCut_standing (s : State) : (State.feedEndCut s).standing = s.standing := by
  simp [State.feedEndCut, apply_ite State.standing]

@[simp] theorem State.cutPoint_standing (s : State) : (State.cutPoint s).standing = s.standing := by
  unfold State.cutPoint; (repeat' split) <;> simp

@[simp] theorem State.leaveLost_standing (s : State) : (State.leaveLost s).standing = s.standing := by
  simp [State.leaveLost, apply_ite State.standing]

@[simp] theorem State.leaveHeld_standing (s : State) : (State.leaveHeld s).standing = s.standing := by
  unfold State.leaveHeld; split <;> simp [apply_ite State.standing]

@[simp] theorem State.releaseHold_standing (f : HoldSet → HoldSet) (s : State) :
    (State.releaseHold f s).standing = s.standing := by
  unfold State.releaseHold; dsimp only; split <;> (try split) <;> simp [apply_ite State.standing]

@[simp] theorem State.cutStep_standing (s : State) : (State.cutStep s).standing = s.standing := by
  unfold State.cutStep; (repeat' split) <;> simp

@[simp] theorem State.segmentFault_standing (i : Fin 6) (c : FaultCause) (s : State) :
    (State.segmentFault i c s).standing = s.standing := by
  simp [State.segmentFault, apply_ite State.standing]

@[simp] theorem State.countBackoff_standing (i : Fin 6) (s : State) :
    (State.countBackoff i s).standing = s.standing := by
  simp [State.countBackoff]

@[simp] theorem State.beginBackoff_standing (i : Fin 6) (s : State) :
    (State.beginBackoff i s).standing = s.standing := by
  simp [State.beginBackoff, apply_ite State.standing]

@[simp] theorem State.retryTest_standing (s : State) : (State.retryTest s).standing = s.standing := by
  unfold State.retryTest; split <;> simp [apply_ite State.standing]

@[simp] theorem State.reqPatRead_standing (slot : Nat) (s : State) :
    (State.reqPatRead slot s).1.standing = s.standing := by
  unfold State.reqPatRead; (repeat' split) <;> simp [answered]

@[simp] theorem State.reqClassRead_standing (n : Nat) (s : State) :
    (State.reqClassRead n s).1.standing = s.standing := by
  unfold State.reqClassRead; split <;> simp [answered, refused]

@[simp] theorem State.reevaluateSince_standing (before s : State) :
    (State.reevaluateSince before s).standing = s.standing := by
  unfold State.reevaluateSince; split <;> simp

@[simp] theorem State.reqOrderAdd_standing (b : OrderBody) (s : State) :
    (State.reqOrderAdd b s).1.standing = s.standing := by
  unfold State.reqOrderAdd; split
  · rfl
  · (repeat' split) <;> first | rfl | exact (State.reevaluateSince_standing _ _).trans rfl

@[simp] theorem State.removeOrder_standing (tag : Nat) (s : State) :
    (State.removeOrder tag s).standing = s.standing := by
  simp [State.removeOrder]

@[simp] theorem State.cancelForming_standing (o : Order) (rest : List Order) (m : CancelPending) (s : State) :
    (State.cancelForming o rest m s).standing = s.standing := by
  simp [State.cancelForming, apply_ite State.standing]

@[simp] theorem State.cancelOrder_standing (tag : Nat) (m : CancelPending) (s : State) :
    (State.cancelOrder tag m s).standing = s.standing := by
  unfold State.cancelOrder; split <;> simp

@[simp] theorem State.reqOrderCancel_standing (tag mode : Nat) (s : State) :
    (State.reqOrderCancel tag mode s).1.standing = s.standing := by
  unfold State.reqOrderCancel; (repeat' split) <;> simp [answered, refused]

@[simp] theorem State.reqOrderList_standing (s : State) : (State.reqOrderList s).1.standing = s.standing := by
  simp [State.reqOrderList, answered]

@[simp] theorem State.applySeg_standing (m : ApplyMode) (atOnce : Bool) (s : State) (i : Fin 6) :
    (State.applySeg m atOnce s i).standing = s.standing := by
  unfold State.applySeg; split <;> simp [apply_ite State.standing]

@[simp] theorem State.applyAll_standing (mask : Nat) (m : ApplyMode) (s : State) :
    (State.applyAll mask m s).standing = s.standing := by
  unfold State.applyAll; dsimp only; split <;> simp

@[simp] theorem State.reqSegApply_standing (mask mode : Nat) (s : State) :
    (State.reqSegApply mask mode s).1.standing = s.standing := by
  unfold State.reqSegApply; split
  · rfl
  · dsimp only; (repeat' split) <;> simp [answered, refused]

@[simp] theorem State.clearSeg_standing (s : State) (i : Fin 6) : (State.clearSeg s i).standing = s.standing := by
  simp [State.clearSeg, apply_ite State.standing]

@[simp] theorem State.releaseFault_standing (s : State) : (State.releaseFault s).standing = s.standing := by
  simp [State.releaseFault, apply_ite State.standing]

@[simp] theorem State.reqSegClear_standing (mask : Nat) (s : State) :
    (State.reqSegClear mask s).1.standing = s.standing := by
  unfold State.reqSegClear; dsimp only; split <;> (try split) <;> simp [apply_ite State.standing, answered, refused]

@[simp] theorem State.reqSegRead_standing (mask : Nat) (s : State) :
    (State.reqSegRead mask s).1.standing = s.standing := by
  unfold State.reqSegRead; split <;> simp [answered, refused]

@[simp] theorem State.runLine_standing (s : State) : (State.runLine s).standing = s.standing := by
  simp [State.runLine, apply_ite State.standing]

@[simp] theorem State.reqLineRun_standing (s : State) : (State.reqLineRun s).1.standing = s.standing := by
  unfold State.reqLineRun; split <;> simp [refused, okBare]

@[simp] theorem State.setStop_standing (x : StopPending) (s : State) : (s.setStop x).standing = s.standing := by
  simp [State.setStop]

@[simp] theorem State.joinEndOfPanel_standing (s : State) : (State.joinEndOfPanel s).standing = s.standing := by
  simp [State.joinEndOfPanel, apply_ite State.standing]

@[simp] theorem State.stopNow_standing (s : State) : (State.stopNow s).standing = s.standing := by
  unfold State.stopNow; split <;> simp

@[simp] theorem State.stopAtEnd_standing (s : State) : (State.stopAtEnd s).standing = s.standing := by
  unfold State.stopAtEnd; split <;> simp [apply_ite State.standing]

@[simp] theorem State.reqLineStop_standing (mode : Nat) (s : State) :
    (State.reqLineStop mode s).1.standing = s.standing := by
  unfold State.reqLineStop; (repeat' split) <;> simp [refused, okBare]

@[simp] theorem State.reqLineHold_standing (s : State) : (State.reqLineHold s).1.standing = s.standing := by
  simp [State.reqLineHold, okBare]

@[simp] theorem State.reqLineRelease_standing (s : State) : (State.reqLineRelease s).1.standing = s.standing := by
  simp [State.reqLineRelease, okBare]

@[simp] theorem State.resetOrders_standing (s : State) : (State.resetOrders s).standing = s.standing := by
  simp [State.resetOrders, apply_ite State.standing]

@[simp] theorem State.resetTrack_standing (s : State) : (State.resetTrack s).standing = s.standing := by
  simp [State.resetTrack, State.standing]

@[simp] theorem State.resetChecker_standing (s : State) (i : Fin 6) :
    (State.resetChecker s i).standing = s.standing := by
  simp [State.resetChecker, apply_ite State.standing]

@[simp] theorem State.resetSteam_standing (s : State) : (State.resetSteam s).standing = s.standing := by
  simp [State.resetSteam]

@[simp] theorem State.resetLine_standing (s : State) : (State.resetLine s).standing = s.standing := by
  simp [State.resetLine, apply_ite State.standing]

@[simp] theorem State.dropFeeds_standing (s : State) : (State.dropFeeds s).standing = s.standing := by
  simp [State.dropFeeds]

@[simp] theorem State.lineReset_standing (s : State) : (State.lineReset s).standing = s.standing := by
  unfold State.lineReset; dsimp only
  rw [State.raise_standing, foldl_standing State.resetSeg_standing, State.dropFeeds_standing,
    State.resetLine_standing, setSeq_standing _ rfl, State.evalStandby_standing, setRcc_standing _ rfl]
  simp

@[simp] theorem State.reqLineReset_standing (s : State) : (State.reqLineReset s).1.standing = s.standing := by
  unfold State.reqLineReset; split <;> simp [refused, okBare]

@[simp] theorem State.fillSpindle_standing (n : SpindleName) (roll : Roll) (s : State) :
    (State.fillSpindle n roll s).standing = s.standing := by
  unfold State.fillSpindle; split <;> simp

@[simp] theorem State.loadRoll_standing (n : SpindleName) (roll : Roll) (s : State) :
    (State.loadRoll n roll s).standing = s.standing := by
  simp [State.loadRoll, apply_ite State.standing]

@[simp] theorem State.reqRollLoad_standing (spindle rollId cls length : Nat) (s : State) :
    (State.reqRollLoad spindle rollId cls length s).1.standing = s.standing := by
  unfold State.reqRollLoad; (repeat' split) <;> simp [answered, refused]

@[simp] theorem State.removeRoll_standing (n : SpindleName) (s : State) :
    (State.removeRoll n s).standing = s.standing := by
  simp [State.removeRoll]

@[simp] theorem State.reqRollRemove_standing (spindle : Nat) (s : State) :
    (State.reqRollRemove spindle s).1.standing = s.standing := by
  unfold State.reqRollRemove; (repeat' split) <;> simp [answered, refused]

@[simp] theorem State.breakPanel_standing (s : State) : (State.breakPanel s).standing = s.standing := by
  simp [State.breakPanel, apply_ite State.standing]

@[simp] theorem State.breakSeam_standing (old new : Nat) (s : State) :
    (State.breakSeam old new s).standing = s.standing := by
  simp [State.breakSeam]

@[simp] theorem State.resolved_standing (s : State) : (State.resolved s).standing = s.standing := by
  simp [State.resolved]

@[simp] theorem State.breakFired_standing (s : State) : (State.breakFired s).standing = s.standing := by
  unfold State.breakFired; dsimp only; split <;> simp

@[simp] theorem State.breakNoMatch_standing (s : State) : (State.breakNoMatch s).standing = s.standing := by
  simp [State.breakNoMatch, apply_ite State.standing]

@[simp] theorem State.goOn_standing (before s : State) : (State.goOn before s).standing = s.standing := by
  unfold State.goOn; split <;> simp

@[simp] theorem State.leaveSplice_standing (rollMade : Bool) (s before : State) :
    (State.leaveSplice rollMade s before).standing = s.standing := by
  simp [State.leaveSplice]

@[simp] theorem State.acceptFired_standing (s : State) : (State.acceptFired s).standing = s.standing := by
  simp [State.acceptFired]

@[simp] theorem State.acceptNoMatch_standing (s : State) : (State.acceptNoMatch s).standing = s.standing := by
  simp [State.acceptNoMatch]

@[simp] theorem State.reqSpliceResolve_standing (action : Nat) (s : State) :
    (State.reqSpliceResolve action s).1.standing = s.standing := by
  unfold State.reqSpliceResolve; split
  · rfl
  · split
    · rfl
    · split
      · rename_i a _ _ c _ _ t ht
        cases a <;> cases c <;> simp only [State.resolve?, Option.some.injEq, Option.ite_none_left_eq_some] at ht
          <;> first | (rw [← ht]; simp [answered]) | (rw [← ht.2]; simp [answered])
      · rfl

@[simp] theorem State.stallIfDue_standing (s : State) : (State.stallIfDue s).standing = s.standing := by
  simp [State.stallIfDue, apply_ite State.standing]

@[simp] theorem State.unload_standing (n : Outlet) (count : Nat) (s : State) :
    (s.unload n count).standing = s.standing := by
  simp [State.unload]

@[simp] theorem State.reqOutletUnload_standing (outlet count : Nat) (s : State) :
    (State.reqOutletUnload outlet count s).1.standing = s.standing := by
  unfold State.reqOutletUnload; split <;> simp [answered, refused]

@[simp] theorem State.reqReadTrack_standing (start : Nat) (s : State) :
    (State.reqReadTrack start s).1.standing = s.standing := by
  simp [State.reqReadTrack, answered]

@[simp] theorem State.reqReadExits_standing (start : Nat) (s : State) :
    (State.reqReadExits start s).1.standing = s.standing := by
  simp [State.reqReadExits, answered]

@[simp] theorem State.reqReadCounters_standing (s : State) : (State.reqReadCounters s).1.standing = s.standing := by
  simp [State.reqReadCounters, answered]

@[simp] theorem State.reqReadStatus_standing (s : State) : (State.reqReadStatus s).1.standing = s.standing := by
  simp [State.reqReadStatus, answered]

@[simp] theorem State.reqReadFlags_standing (s : State) : (State.reqReadFlags s).1.standing = s.standing := by
  simp [State.reqReadFlags]

@[simp] theorem State.setRx_standing (r : Receiver) (s : State) : (State.setRx r s).standing = s.standing := by
  simp [State.setRx]

@[simp] theorem State.takeBroken_standing (s : State) : (State.takeBroken s).standing = s.standing := by
  exact (setLink_standing _ rfl).trans (State.setRx_standing _ _)

@[simp] theorem State.missSplice_standing (c : MissCause) (s : State) :
    (State.missSplice c s).standing = s.standing := by
  simp [State.missSplice]

@[simp] theorem State.enterMissed_standing (c : MissCause) (s : State) :
    (State.enterMissed c s).standing = s.standing := by
  simp [State.enterMissed]

@[simp] theorem State.estopSplice_standing (s : State) : (State.estopSplice s).standing = s.standing := by
  unfold State.estopSplice; dsimp only; split
  · rw [setSeq_standing _ rfl]; exact setRcc_standing _ rfl
  · rw [setSeq_standing _ rfl]; exact setRcc_standing _ rfl
  · simp
  all_goals rfl

@[simp] theorem State.feedEndEstop_standing (s : State) : (State.feedEndEstop s).standing = s.standing := by
  unfold State.feedEndEstop; dsimp only
  simp [setRcc_standing _ (f := RollChange.mapSpindles (Spindle.debit _)) rfl]

@[simp] theorem State.estopFeed_standing (s : State) : (State.estopFeed s).standing = s.standing := by
  unfold State.estopFeed; split <;> simp [apply_ite State.standing]

@[simp] theorem State.estopStep_standing (s : State) : (State.estopStep s).standing = s.standing := by
  unfold State.estopStep; split <;> simp

@[simp] theorem State.interruptAll_standing (s : State) : (State.interruptAll s).standing = s.standing := by
  simp [State.interruptAll]

@[simp] theorem State.estopSegs_standing (s : State) : (State.estopSegs s).standing = s.standing := by
  simp [State.estopSegs]

@[simp] theorem State.estopFeeds_standing (s : State) : (State.estopFeeds s).standing = s.standing := by
  simp [State.estopFeeds]

@[simp] theorem State.estopGrants_standing (s : State) : (State.estopGrants s).standing = s.standing := by
  simp [State.estopGrants]

@[simp] theorem State.missedHolds_standing (s : State) : (State.missedHolds s).standing = s.standing := by
  unfold State.missedHolds; split <;> simp

@[simp] theorem State.paceExpires_standing (s : State) : (State.paceExpires s).standing = s.standing := by
  unfold State.paceExpires; split <;> simp [apply_ite State.standing]

@[simp] theorem State.feedStepDone_standing (i : Fin 6) (len : Nat) (s : State) :
    (State.feedStepDone i len s).standing = s.standing := by
  unfold State.feedStepDone; dsimp only; split <;> simp

@[simp] theorem State.feedEndTest_standing (s : State) : (State.feedEndTest s).standing = s.standing := by
  unfold State.feedEndTest; (repeat' split) <;> simp

@[simp] theorem State.feedIsDone_standing (i : Fin 6) (s : State) : (State.feedIsDone i s).standing = s.standing := by
  unfold State.feedIsDone; dsimp only; split <;> simp

@[simp] theorem State.driveTimeout_standing (i : Fin 6) (p : Drive → Bool) (c : FaultCause) (s : State) :
    (State.driveTimeout i p c s).standing = s.standing := by
  simp [State.driveTimeout, apply_ite State.standing]

@[simp] theorem State.strokeEndTest_standing (s : State) : (State.strokeEndTest s).standing = s.standing := by
  simp [State.strokeEndTest, apply_ite State.standing]

@[simp] theorem State.strokeIsDone_standing (i : Fin 6) (s : State) :
    (State.strokeIsDone i s).standing = s.standing := by
  simp [State.strokeIsDone, apply_ite State.standing]

@[simp] theorem State.holdSample_standing (i : Fin 6) (v : Int) (s : State) :
    (State.holdSample i v s).standing = s.standing := by
  simp [State.holdSample]

@[simp] theorem State.offend_standing (i : Fin 6) (s : State) : (State.offend i s).standing = s.standing := by
  simp [State.offend, apply_ite State.standing]

@[simp] theorem State.tensionArrives_standing (i : Fin 6) (v : Int) (s : State) :
    (State.tensionArrives i v s).standing = s.standing := by
  simp [State.tensionArrives, apply_ite State.standing]

@[simp] theorem State.withdrawIsDone_standing (i : Fin 6) (s : State) :
    (State.withdrawIsDone i s).standing = s.standing := by
  simp [State.withdrawIsDone, apply_ite State.standing]

@[simp] theorem State.moveDone_standing (i : Fin 6) (st : SegState) (s : State) :
    (State.moveDone i st s).standing = s.standing := by
  simp [State.moveDone, apply_ite State.standing]

@[simp] theorem State.homeIsDone_standing (i : Fin 6) (s : State) : (State.homeIsDone i s).standing = s.standing := by
  unfold State.homeIsDone; (repeat' split) <;> simp

@[simp] theorem State.parkIsDone_standing (i : Fin 6) (s : State) : (State.parkIsDone i s).standing = s.standing := by
  unfold State.parkIsDone; (repeat' split) <;> simp

@[simp] theorem State.readSupply_standing (v : Int) (s : State) : (State.readSupply v s).standing = s.standing := by
  simp [State.readSupply]

@[simp] theorem State.loseMeter_standing (s : State) : (State.loseMeter s).standing = s.standing := by
  simp [State.loseMeter, apply_ite State.standing]

@[simp] theorem State.supplySilent_standing (s : State) : (State.supplySilent s).standing = s.standing := by
  simp [State.supplySilent, apply_ite State.standing]

@[simp] theorem State.spendTail_standing (s : State) : (State.spendTail s).standing = s.standing := by
  unfold State.spendTail; simp

@[simp] theorem State.enterSlotted_standing (s : State) : (State.enterSlotted s).standing = s.standing := by
  simp [State.enterSlotted]

@[simp] theorem State.sealDone_standing (s : State) : (State.sealDone s).standing = s.standing := by
  simp [State.sealDone]

@[simp] theorem State.acceptEdge_standing (s : State) : (State.acceptEdge s).standing = s.standing := by
  simp [State.acceptEdge, apply_ite State.standing]

@[simp] theorem State.debounced_standing (s : State) : (State.debounced s).standing = s.standing := by
  unfold State.debounced; split <;> simp [apply_ite State.standing]

@[simp] theorem State.binLevel_standing (full : Bool) (s : State) :
    (State.binLevel full s).standing = s.standing := by
  unfold State.binLevel; (repeat' split) <;> simp


end Sys2Proof.Machine
end

