-- ==== Sys2Proof/Laws/Inv.lean ====
section
/-! SUPPORT. What keeps the invariant `State.Inv`: one law for each shared operation. -/

namespace Sys2Proof.Machine

/-! ## Writes of one part -/

section Parts
variable {s : State}

@[simp] theorem inv_freeIndex (h : s.Inv) (x : Nat) : State.Inv { s with freeIndex := x } := { h with }
@[simp] theorem inv_web (h : s.Inv) (x : Nat) : State.Inv { s with web := x } := { h with }
@[simp] theorem inv_conv (h : s.Inv) (x : Nat) : State.Inv { s with conv := x } := { h with }
@[simp] theorem inv_geometry (h : s.Inv) (x : Geometry) : State.Inv { s with geometry := x } := { h with }
@[simp] theorem inv_segs (h : s.Inv) (x : Six Segment) : State.Inv { s with segs := x } := { h with }
@[simp] theorem inv_verify (h : s.Inv) (x : Verifier) : State.Inv { s with verify := x } := { h with }
@[simp] theorem inv_orders (h : s.Inv) {x : List Order} (hx : x.length ≤ 16) :
    State.Inv { s with orders := x } := { h with orders := hx }
@[simp] theorem inv_fmu (h : s.Inv) {x : Six FeedSeg} (hx : x.all FeedSeg.carriesOk = true) :
    State.Inv { s with fmu := x } := { h with carries := hx }

/-- A line that is not in ESTOP has its e-stop input inactive. -/
theorem State.Inv.inactive (h : s.Inv) (hl : s.seq.line ≠ .estop) : s.standing.estopInput = false := by
  cases e : s.estopInput with
  | false => exact e
  | true => exact absurd (h.estop.mp e) hl

/-- A write of the sequencer that leaves the base rate and the line state. -/
@[simp] theorem setSeq_inv (h : s.Inv) {f : Seq → Seq} (hb : (f s.seq).baseRate = s.seq.baseRate)
    (hl : (f s.seq).line = s.seq.line) : (s.setSeq f).Inv :=
  { h with baseRate := by simpa [State.setSeq, hb] using h.baseRate
           estop := by simpa [State.setSeq, hl] using h.estop }

/-- A write of the roll change controller that keeps the spindles' rule. -/
theorem setRcc_inv_of (h : s.Inv) {f : RollChange → RollChange} (hs : (f s.rcc).spindlesOk = true) :
    (s.setRcc f).Inv := { h with spindles := hs }

/-- A write of the roll change controller that leaves the spindles. -/
@[simp] theorem setRcc_inv (h : s.Inv) {f : RollChange → RollChange} (h1 : (f s.rcc).u1 = s.rcc.u1)
    (h2 : (f s.rcc).u2 = s.rcc.u2) : (s.setRcc f).Inv :=
  setRcc_inv_of h (by simpa [RollChange.spindlesOk, h1, h2] using h.spindles)

/-- A write of the steam allocator that leaves the ceiling. -/
@[simp] theorem setSteam_inv (h : s.Inv) {f : Steam → Steam} (hc : (f s.steam).ceiling = s.steam.ceiling) :
    (s.setSteam f).Inv := { h with ceiling := by simpa [State.setSteam, hc] using h.ceiling }

/-- A write of the link that leaves its queue. -/
@[simp] theorem setLink_inv (h : s.Inv) {f : Link → Link} (hq : (f s.link).queue.length ≤ 32) :
    (s.setLink f).Inv := { h with queue := hq }

@[simp] theorem setZone_inv (h : s.Inv) (z : Fin 4) (x : Zone) : (s.setZone z x).Inv := { h with }
@[simp] theorem setSeg_inv (h : s.Inv) (i : Fin 6) (g : Segment) : (s.setSeg i g).Inv := { h with }
@[simp] theorem setFmu_inv (h : s.Inv) {i : Fin 6} {f : FeedSeg} (hf : f.carriesOk = true) :
    (s.setFmu i f).Inv := { h with carries := Six.all_set _ _ _ _ h.carries hf }

/-- A change of the records that leaves their numbers and outlets. -/
theorem inv_trackMap (h : s.Inv) {f : Panel → Panel} (hn : ∀ p, (f p).number = p.number)
    (ho : ∀ p, (f p).outlet = p.outlet) : State.Inv { s with track := s.track.map f } := by
  have e1 : (s.track.map f).map (·.number) = s.track.map (·.number) := by
    simp [Function.comp_def, hn]
  have e2 : (s.track.map f).map (·.outlet) = s.track.map (·.outlet) := by
    simp [Function.comp_def, ho]
  exact { h with
    track := ⟨by simpa using h.track.length, by rw [e1]; exact h.track.rising, by rw [e1]; exact h.track.below⟩
    credits := ⟨by rw [e2]; exact h.credits.reserved, h.credits.room⟩ }

end Parts

/-- What every step of a fold keeps, the fold keeps. -/
@[simp] theorem foldl_inv {β : Type} {f : State → β → State} (hf : ∀ s b, s.Inv → (f s b).Inv) (l : List β)
    {s : State} (h : s.Inv) : (l.foldl f s).Inv := by
  induction l generalizing s with
  | nil => exact h
  | cons b l ih => exact ih (hf s b h)

/-! ## The line link -/

theorem joinNotice_queue (n : Nat) {l : Link} (h : l.queue.length ≤ 32) : (l.joinNotice n).queue.length ≤ 32 := by
  unfold Link.joinNotice
  split
  · exact h
  · split
    · rename_i hl; simp only [Config.noticeCapacity] at hl; simp; omega
    · exact h
@[simp] theorem link_raise_queue_le (n : Nat) {l : Link} (h : l.queue.length ≤ 32) :
    (l.raise n).queue.length ≤ 32 := by
  unfold Link.raise; split
  · exact h
  · split
    · exact h
    · exact joinNotice_queue n h
theorem admit_queue {l : Link} (h : l.queue.length ≤ 32) : l.letIn.queue.length ≤ 32 := by
  have h1 : l.admitReply.queue.length ≤ 32 := by
    unfold Link.admitReply; split
    · split
      · rename_i hl; simp only [Config.queueCapacity] at hl; simp; omega
      · exact h
    · exact h
  unfold Link.letIn Link.admitNotice; split
  · rename_i hl
    have hl : l.admitReply.queue.length < 28 := of_decide_eq_true (Bool.and_eq_true_iff.mp hl).2
    simp; omega
  · exact h1
theorem start_queue {l : Link} (h : l.queue.length ≤ 32) : l.start.queue.length ≤ 32 := by
  unfold Link.start; split
  · rename_i e rest _ hq
    apply admit_queue
    have : rest.length ≤ 32 := by rw [hq] at h; simp at h; omega
    split <;> exact this
  · exact h
@[simp] theorem service_queue {l : Link} (h : l.queue.length ≤ 32) : l.service.queue.length ≤ 32 :=
  start_queue (admit_queue h)
@[simp] theorem pushReply_queue (e : TxEntry) {l : Link} (h : l.queue.length ≤ 32) :
    (l.pushReply e).queue.length ≤ 32 := by
  unfold Link.pushReply; dsimp only; split
  · rename_i hl; simp only [Config.queueCapacity] at hl; simp; omega
  · exact admit_queue h
@[simp] theorem pushSnapshot_queue (n : Snapshot) {l : Link} (h : l.queue.length ≤ 32) :
    (l.pushSnapshot n).queue.length ≤ 32 := by
  unfold Link.pushSnapshot; split
  · simpa using h
  · split
    · rename_i hl; simp only [Config.noticeCapacity] at hl; simp; omega
    · exact h
@[simp] theorem frameDone_queue {l : Link} (h : l.queue.length ≤ 32) : l.frameDone.queue.length ≤ 32 := by
  unfold Link.frameDone; split <;> exact h

/-! ## Feeds -/

@[simp] theorem carryOf_lt (length e carry : Nat) : carryOf length e carry < 100000 :=
  Nat.mod_lt _ (by decide)
@[simp] theorem outOfStep_carries {f : FeedSeg} (h : f.carriesOk = true) : f.outOfStep.carriesOk = true := h
theorem startStep_carries {f : FeedSeg} (h : f.carriesOk = true) (isGap : Bool) (c : FabricClass) (trim : Int)
    (x : StepFigures) : (f.startStep isGap c trim x).1.carriesOk = true := by
  simp only [FeedSeg.carriesOk, Bool.and_eq_true, decide_eq_true_eq] at h ⊢
  cases isGap <;> simp [FeedSeg.startStep, h]

/-! ## Spindles -/

@[simp] theorem takeBack_u1 (r : RollChange) : r.takeBack.u1 = r.u1 := rfl
@[simp] theorem takeBack_u2 (r : RollChange) : r.takeBack.u2 = r.u2 := rfl

/-- A change of each record that makes no roll ACTIVE or STANDBY keeps the spindles' rule. -/
theorem spindlesOk_map {r : RollChange} {f : Spindle → Spindle} (h : r.spindlesOk = true)
    (ha : ∀ x, (f x).active?.isSome = true → x.active?.isSome = true)
    (hb : ∀ x, (f x).standby?.isSome = true → x.standby?.isSome = true) :
    (r.mapSpindles f).spindlesOk = true := by
  have a1 := ha r.u1; have a2 := ha r.u2; have b1 := hb r.u1; have b2 := hb r.u2
  simp only [RollChange.spindlesOk, RollChange.mapSpindles] at h ⊢
  cases h1 : (f r.u1).active?.isSome <;> cases h2 : (f r.u2).active?.isSome <;>
    cases h3 : (f r.u1).standby?.isSome <;> cases h4 : (f r.u2).standby?.isSome <;>
    simp_all

/-- R125: a fire keeps the spindles' rule. -/
theorem spindlesOk_fired {r : RollChange} (h : r.spindlesOk = true) :
    (r.mapSpindles Spindle.fired).spindlesOk = true := by
  rcases r with ⟨u1, u2⟩
  cases u1 <;> cases u2 <;>
    simp_all [RollChange.spindlesOk, RollChange.mapSpindles, Spindle.fired, Spindle.active?, Spindle.standby?]

@[simp] theorem debit_inv {s : State} (h : s.Inv) (w : Nat) :
    (s.setRcc (RollChange.mapSpindles (Spindle.debit w))).Inv :=
  setRcc_inv_of h (spindlesOk_map h.spindles (by intro x; cases x <;> simp [Spindle.debit, Spindle.active?])
    (by intro x; cases x <;> simp [Spindle.debit, Spindle.standby?]))

@[simp] theorem spend_inv {s : State} (h : s.Inv) (f : RollChange → RollChange)
    (hf : (f s.rcc).spindlesOk = (s.rcc.mapSpindles Spindle.spend).spindlesOk) : (s.setRcc f).Inv :=
  setRcc_inv_of h (by
    rw [hf]
    exact spindlesOk_map h.spindles (by intro x; cases x <;> simp [Spindle.spend, Spindle.active?])
      (by intro x; cases x <;> simp [Spindle.spend, Spindle.standby?]))

/-! ## Track and outlets -/

theorem counts_setCounts (o : Outlets) (n m : Outlet) (c : OutletCounts) :
    (o.setCounts n c).counts m = if m = n then c else o.counts m := by
  cases n <;> cases m <;> rfl

/-- R174: a reservation with room, for the record that joins the track with its outlet. -/
theorem CreditsOk.reserve {track : List Panel} {o : Outlets} (h : CreditsOk track o) {p : Panel}
    (hr : (o.counts p.outlet).hasRoom = true) :
    CreditsOk (track ++ [p])
      (o.setCounts p.outlet { o.counts p.outlet with reserved := (o.counts p.outlet).reserved + 1 }) where
  reserved n := by
    have := h.reserved n
    rw [counts_setCounts]; split
    · rename_i e; subst e; simp [this]
    · rename_i e; simp [this, Ne.symm e]
  room n := by
    have := h.room n
    simp only [OutletCounts.hasRoom, decide_eq_true_eq] at hr
    rw [counts_setCounts]; split
    · simp; omega
    · exact this

/-- R179: the settled credit of the oldest record. -/
theorem CreditsOk.settle {p : Panel} {rest : List Panel} {o : Outlets} (h : CreditsOk (p :: rest) o) (b : Bool) :
    CreditsOk rest (o.setCounts p.outlet ((o.counts p.outlet).settle b)) where
  reserved n := by
    have := h.reserved n
    rw [counts_setCounts]; split
    · rename_i e; subst e; cases b <;> simp_all [OutletCounts.settle]
    · rename_i e; simp_all [Ne.symm e]
  room n := by
    have := h.room n; have hr := h.reserved p.outlet
    rw [counts_setCounts]; split
    · rename_i e; subst e
      simp only [List.map_cons, List.filter_cons, decide_true, if_true, List.length_cons] at hr
      cases b <;> simp [OutletCounts.settle] <;> omega
    · exact this

/-- R181: the exit list after one more exit. -/
theorem ExitsOk.append {o o' : Outlets} (h : ExitsOk o) {x : ExitRecord} (hx : x.number = o.nextExit)
    (he : o'.exits = appendExit x o.exits) (hn : o'.nextExit = o.nextExit + 1) : ExitsOk o' := by
  obtain ⟨hl, hlt, hnum⟩ := h
  unfold appendExit at he
  split at he
  · rename_i hc
    simp only [Config.exitCapacity] at hc
    refine ⟨by rw [he]; simp; omega, by rw [he, hn]; simp; omega, ?_⟩
    rw [he, hn]
    simp only [List.map_append, List.map_cons, List.map_nil, List.length_append, List.length_cons,
      List.length_nil, hnum, hx]
    rw [List.range'_concat]
    congr 2 <;> omega
  · rename_i hc
    simp only [Config.exitCapacity] at hc
    have h16 : o.exits.length = 16 := by omega
    refine ⟨by rw [he]; simp; omega, by rw [he, hn]; simp; omega, ?_⟩
    rw [he, hn]
    simp only [List.map_append, List.map_cons, List.map_nil, List.length_append, List.length_cons,
      List.length_nil, List.length_drop, List.map_drop, hnum, hx, h16]
    rw [List.drop_range']
    have e : o.nextExit + 1 - (16 - 1 + (0 + 1)) = o.nextExit - 16 + 1 * 1 := by omega
    have e2 : [o.nextExit] = [o.nextExit - 16 + 1 * 1 + 1 * (16 - 1)] := by congr 1; omega
    rw [e, e2, ← List.range'_concat]

/-! ## The operations -/

@[simp] theorem State.raise_inv (f : Flag) (s : State) (h : s.Inv) :
    (State.raise f s).Inv := by
  exact setLink_inv h (link_raise_queue_le _ h.queue)

@[simp] theorem State.setDrive_inv (i : Fin 6) (d : Drive) (s : State) (h : s.Inv) :
    (State.setDrive i d s).Inv := by
  simp (maxDischargeDepth := 9) [State.setDrive, *]

theorem inv_ite {c : Prop} [Decidable c] {a b : State} (ha : a.Inv) (hb : b.Inv) : (if c then a else b).Inv := by
  split <;> assumption

@[simp] theorem State.setSegState_inv (i : Fin 6) (st : SegState) (s : State) (h : s.Inv) :
    (State.setSegState i st s).Inv := by
  simp (maxDischargeDepth := 9) [State.setSegState, apply_ite State.Inv, *]

@[simp] theorem State.setStatus_inv (i : Fin 6) (st : ConfigStatus) (s : State) (h : s.Inv) :
    (State.setStatus i st s).Inv := by
  simp (maxDischargeDepth := 9) [State.setStatus, apply_ite State.Inv, *]

@[simp] theorem State.setWaiting_inv (i : Fin 6) (m : ApplyMode) (s : State) (h : s.Inv) :
    (State.setWaiting i m s).Inv := by
  simp (maxDischargeDepth := 9) [State.setWaiting, *]

@[simp] theorem State.commandEngaged_inv (d : Fin 6 → Drive) (s : State) (h : s.Inv) :
    (State.commandEngaged d s).Inv := by
  simp (maxDischargeDepth := 9) [State.commandEngaged, *]

@[simp] theorem State.clearStepDrives_inv (s : State) (h : s.Inv) :
    (State.clearStepDrives s).Inv := by
  simp (maxDischargeDepth := 9) [State.clearStepDrives, *]

@[simp] theorem State.mapForming_inv (f : Panel → Panel) (s : State) (h : s.Inv) (hn : ∀ p, (f p).number = p.number) (ho : ∀ p, (f p).outlet = p.outlet) :
    (State.mapForming f s).Inv := by
  exact inv_trackMap h (fun p => by split <;> simp [*]) (fun p => by split <;> simp [*])

@[simp] theorem State.writePanel_inv (n : Nat) (f : Panel → Panel) (s : State) (h : s.Inv) (hn : ∀ p, (f p).number = p.number) (ho : ∀ p, (f p).outlet = p.outlet) :
    (State.writePanel n f s).Inv := by
  exact inv_trackMap h (fun p => by split <;> simp [*]) (fun p => by split <;> simp [*])

@[simp] theorem State.raise?_inv (f : Option Flag) (s : State) (h : s.Inv) :
    (State.raise? f s).Inv := by
  unfold State.raise?; split <;> simp (maxDischargeDepth := 9) [*]

@[simp] theorem State.takeFree_inv (s : State) (h : s.Inv) :
    (State.takeFree s).Inv := by
  simp (maxDischargeDepth := 9) [State.takeFree, *]

@[simp] theorem State.setChecker_inv (i : Fin 6) (k : Checker) (s : State) (h : s.Inv) :
    (State.setChecker i k s).Inv := by
  simp (maxDischargeDepth := 9) [State.setChecker, *]

@[simp] theorem write_number (o : FoldOutcome) (b : Bool) (p : Panel) : (o.write b p).number = p.number := by
  unfold FoldOutcome.write; cases o <;> (try split) <;> rfl
@[simp] theorem write_outlet (o : FoldOutcome) (b : Bool) (p : Panel) : (o.write b p).outlet = p.outlet := by
  unfold FoldOutcome.write; cases o <;> (try split) <;> rfl

@[simp] theorem setChecker_inv' (i : Fin 6) (k : Checker) {s : State} (h : s.Inv) : (s.setChecker i k).Inv :=
  inv_verify h _

@[simp] theorem State.recordOutcome_inv (i : Fin 6) (o : FoldOutcome) (panel : Option Nat) (s : State) (h : s.Inv) :
    (State.recordOutcome i o panel s).Inv := by
  unfold State.recordOutcome; cases panel <;> simp [apply_ite State.Inv, h]

@[simp] theorem State.sweepFrom_inv (i : Fin 6) (c : Nat) (es : List ExpectedFold) (s : State) (h : s.Inv) :
    (State.sweepFrom i c es s).Inv := by
  induction es generalizing s with
  | nil => exact h
  | cons e es ih =>
    simp only [State.sweepFrom]; split
    · exact ih _ (by simp [h])
    · exact h

@[simp] theorem State.sweep_inv (i : Fin 6) (c : Nat) (s : State) (h : s.Inv) :
    (State.sweep i c s).Inv := by
  exact State.sweepFrom_inv i c _ s h

@[simp] theorem State.sweepAll_inv (c : Nat) (s : State) (h : s.Inv) :
    (State.sweepAll c s).Inv := by
  exact foldl_inv (fun s i h => State.sweep_inv i c s h) _ h

@[simp] theorem State.pushFold_inv (e : ExpectedFold) (s : State) (i : Fin 6) (h : s.Inv) :
    (State.pushFold e s i).Inv := by
  simp (maxDischargeDepth := 9) [State.pushFold, apply_ite State.Inv, *]

@[simp] theorem State.pushFolds_inv (spacing : Nat) (s : State) (h : s.Inv) :
    (State.pushFolds spacing s).Inv := by
  unfold State.pushFolds; split
  · exact h
  · exact foldl_inv (fun s i h => State.pushFold_inv _ s i h) _ h

@[simp] theorem State.matchFold_inv (i : Fin 6) (x : Nat) (s : State) (h : s.Inv) :
    (State.matchFold i x s).Inv := by
  unfold State.matchFold; dsimp only; split <;> simp (maxDischargeDepth := 9) [apply_ite State.Inv, *]

@[simp] theorem State.foldEvent_inv (i : Fin 6) (s : State) (h : s.Inv) :
    (State.foldEvent i s).Inv := by
  simp (maxDischargeDepth := 9) [State.foldEvent, apply_ite State.Inv, *]

@[simp] theorem State.emptyFolds_inv (s : State) (h : s.Inv) :
    (State.emptyFolds s).Inv := by
  simp (maxDischargeDepth := 9) [State.emptyFolds, *]

@[simp] theorem State.startFeeds_inv (isGap : Bool) (c : FabricClass) (figures : Fin 6 → StepFigures) (s : State) (h : s.Inv) :
    (State.startFeeds isGap c figures s).Inv := by
  refine foldl_inv (fun s i h => ?_) _ h
  dsimp only; split
  · exact State.setDrive_inv _ _ _ (setFmu_inv h (startStep_carries (Six.all_get h.carries i) _ _ _ _))
  · exact setFmu_inv h (outOfStep_carries (Six.all_get h.carries i))

@[simp] theorem State.startCarries_inv (s : State) (h : s.Inv) :
    (State.startCarries s).Inv := by
  refine inv_fmu h (Six.all_map (fun f hf => ?_) h.carries)
  simp only [FeedSeg.carriesOk, Bool.and_eq_true, decide_eq_true_eq] at hf ⊢
  exact ⟨by decide, hf.2⟩

@[simp] theorem State.reportExit_inv (x : ExitRecord) (s : State) (h : s.Inv) :
    (State.reportExit x s).Inv := by
  unfold State.reportExit; split
  · rename_i hl
    refine setLink_inv h ?_
    simp only [Config.noticeCapacity] at hl; simp; omega
  · refine State.raise_inv _ _ ?_
    exact { h with credits := ⟨h.credits.reserved, h.credits.room⟩, exits := ⟨h.exits.length, h.exits.next, h.exits.numbers⟩ }

/-- R178 to R182: handing over the oldest record keeps the invariant. -/
theorem State.handOver_inv {p : Panel} {rest : List Panel} {s : State} (h : s.Inv) (ht : s.track = p :: rest) :
    (State.handOver p { s with track := rest }).Inv := by
  unfold State.handOver
  apply State.reportExit_inv
  have hc := h.credits
  have htr := h.track
  rw [ht] at hc htr
  have hs := hc.settle (State.exitRecord p { s with track := rest }).causes.reject
  have hx := h.exits.append (o' := { (s.outlets.setCounts p.outlet ((s.outlets.counts p.outlet).settle
    (State.exitRecord p { s with track := rest }).causes.reject)) with
      port := some (State.exitRecord p { s with track := rest }).final
      exits := appendExit (State.exitRecord p { s with track := rest })
        (s.outlets.setCounts p.outlet ((s.outlets.counts p.outlet).settle
    (State.exitRecord p { s with track := rest }).causes.reject)).exits
      nextExit := (s.outlets.setCounts p.outlet ((s.outlets.counts p.outlet).settle
    (State.exitRecord p { s with track := rest }).causes.reject)).nextExit + 1 })
    (x := State.exitRecord p { s with track := rest }) rfl (by cases p.outlet <;> rfl) (by cases p.outlet <;> rfl)
  exact { h with
    track := ⟨by have := htr.length; simp at this ⊢; omega,
      (List.pairwise_cons.mp htr.rising).2, fun n hn => htr.below n (List.mem_cons_of_mem _ hn)⟩
    credits := ⟨hs.reserved, hs.room⟩
    exits := hx }

@[simp] theorem State.exitFrom_inv (ps : List Panel) (s : State) (h : s.Inv) (hp : s.track = ps) :
    (State.exitFrom ps s).Inv := by
  induction ps generalizing s with
  | nil => exact h
  | cons p ps ih =>
    simp only [State.exitFrom]; split
    · refine ih _ (State.handOver_inv h hp) ?_
      simp [State.handOver, State.reportExit, apply_ite State.track, State.setLink, State.raise]
    · exact h

@[simp] theorem State.exitTest_inv (s : State) (h : s.Inv) :
    (State.exitTest s).Inv := by
  exact State.exitFrom_inv _ s h rfl

@[simp] theorem State.scorch_inv (z : Fin 4) (t : Int) (s : State) (h : s.Inv) :
    (State.scorch z t s).Inv := by
  have hm := inv_trackMap h (f := fun p => if s.scorches z t p then
      { p with reasons := { p.reasons with scorched := true } } else p)
    (fun p => by split <;> rfl) (fun p => by split <;> rfl)
  unfold State.scorch; dsimp only; split
  · exact State.raise_inv _ _ hm
  · exact hm

@[simp] theorem accrue_number (z : Fin 4) (t : Int) (s : State) (p : Panel) :
    (s.accrue z t p).number = p.number := by
  unfold State.accrue; dsimp only; split <;> split <;> rfl
@[simp] theorem accrue_outlet (z : Fin 4) (t : Int) (s : State) (p : Panel) :
    (s.accrue z t p).outlet = p.outlet := by
  unfold State.accrue; dsimp only; split <;> split <;> rfl

@[simp] theorem State.zoneSample_inv (z : Fin 4) (t : Int) (s : State) (h : s.Inv) :
    (State.zoneSample z t s).Inv := by
  unfold State.zoneSample
  exact State.scorch_inv _ _ _ (inv_trackMap (setZone_inv h z _) (accrue_number z _ _) (accrue_outlet z _ _))

@[simp] theorem State.zoneSilent_inv (z : Fin 4) (s : State) (h : s.Inv) :
    (State.zoneSilent z s).Inv := by
  unfold State.zoneSilent; dsimp only; split
  · exact inv_trackMap (State.raise_inv _ _ (setSteam_inv (setZone_inv h z _) rfl))
      (fun p => by split <;> rfl) (fun p => by split <;> rfl)
  · exact h

theorem inv_ceiling {s : State} (h : s.Inv) {f : Steam → Steam}
    (hc : (f s.steam).ceiling % 10 = 0 ∧ 40 ≤ (f s.steam).ceiling ∧ (f s.steam).ceiling ≤ 100) :
    (s.setSteam f).Inv := { h with ceiling := hc }

@[simp] theorem State.setCeiling_inv (c : Nat) (s : State) (h : s.Inv) (hc : c % 10 = 0 ∧ 40 ≤ c ∧ c ≤ 100) :
    (State.setCeiling c s).Inv := by
  unfold State.setCeiling; dsimp only; split
  · exact inv_ceiling h hc
  · exact State.raise_inv _ _ (inv_ceiling h hc)

@[simp] theorem State.actCeiling_inv (s : State) (h : s.Inv) :
    (State.actCeiling s).Inv := by
  have hc := h.ceiling
  unfold State.actCeiling; dsimp only; split
  · refine State.raise_inv _ _ (State.setCeiling_inv _ _ (by exact setSteam_inv h rfl) ?_)
    unfold lowerCeiling; omega
  · split
    · refine State.setCeiling_inv _ _ (by exact setSteam_inv h rfl) ?_
      unfold raiseCeiling; omega
    · exact h

@[simp] theorem State.round_inv (c : Nat) (s : State) (h : s.Inv) :
    (State.round c s).Inv := by
  unfold State.round; dsimp only; split
  · exact setSteam_inv h rfl
  · exact State.actCeiling_inv _ (setSteam_inv h rfl)

@[simp] theorem State.stallNow_inv (s : State) (h : s.Inv) :
    (State.stallNow s).Inv := by
  unfold State.stallNow
  exact inv_trackMap (State.raise_inv _ _ (setSteam_inv h rfl)) (fun p => by split <;> rfl) (fun p => by split <;> rfl)

@[simp] theorem State.stallAfterDelivery_inv (s : State) (h : s.Inv) :
    (State.stallAfterDelivery s).Inv := by
  simp (maxDischargeDepth := 9) [State.stallAfterDelivery, *]

@[simp] theorem State.nowCopy_inv (i : Fin 6) (s : State) (h : s.Inv) :
    (State.nowCopy i s).Inv := by
  simp (maxDischargeDepth := 9) [State.nowCopy, *]

@[simp] theorem State.nowCopies_inv (s : State) (h : s.Inv) :
    (State.nowCopies s).Inv := by
  refine foldl_inv (fun s i h => ?_) _ h
  split
  · exact State.nowCopy_inv _ _ h
  · exact h

@[simp] theorem State.boundaryCopy_inv (i : Fin 6) (s : State) (h : s.Inv) :
    (State.boundaryCopy i s).Inv := by
  unfold State.boundaryCopy; dsimp only; split
  · simp (maxDischargeDepth := 9) [h]
  · split <;> simp (maxDischargeDepth := 9) [h]

@[simp] theorem State.jointCopy_inv (refuse : Bool) (s : State) (i : Fin 6) (h : s.Inv) :
    (State.jointCopy refuse s i).Inv := by
  simp (maxDischargeDepth := 9) [State.jointCopy, apply_ite State.Inv, *]

@[simp] theorem State.boundaryCopies_inv (is : List (Fin 6)) (s : State) (h : s.Inv) :
    (State.boundaryCopies is s).Inv := by
  exact foldl_inv (fun s i h => State.jointCopy_inv _ s i h) _ h

@[simp] theorem State.faultSeg_inv (i : Fin 6) (c : FaultCause) (s : State) (h : s.Inv) :
    (State.faultSeg i c s).Inv := by
  unfold State.faultSeg; dsimp only; split <;> simp (maxDischargeDepth := 9) [h]

@[simp] theorem State.standReady_inv (s : State) (h : s.Inv) :
    (State.standReady s).Inv := by
  refine foldl_inv (fun s i h => ?_) _ h
  split
  · exact State.setSegState_inv _ _ _ h
  · exact h

@[simp] theorem State.goActive_inv (s : State) (h : s.Inv) :
    (State.goActive s).Inv := by
  refine foldl_inv (fun s i h => ?_) _ h
  split
  · exact State.setSegState_inv _ _ _ h
  · exact h

@[simp] theorem State.clearRetries_inv (s : State) (h : s.Inv) :
    (State.clearRetries s).Inv := by
  exact { h with }

@[simp] theorem State.estopSeg_inv (s : State) (i : Fin 6) (h : s.Inv) :
    (State.estopSeg s i).Inv := by
  unfold State.estopSeg; dsimp only; split <;> simp (maxDischargeDepth := 9) [h]

@[simp] theorem State.resetSeg_inv (s : State) (i : Fin 6) (h : s.Inv) :
    (State.resetSeg s i).Inv := by
  unfold State.resetSeg; dsimp only; split <;> simp (maxDischargeDepth := 9) [h]

@[simp] theorem State.evalStandby_inv (s : State) (h : s.Inv) :
    (State.evalStandby s).Inv := by
  simp (maxDischargeDepth := 9) [State.evalStandby, apply_ite State.Inv, *]

@[simp] theorem State.triggerTest_inv (s : State) (h : s.Inv) :
    (State.triggerTest s).Inv := by
  simp (maxDischargeDepth := 9) [State.triggerTest, apply_ite State.Inv, *]

@[simp] theorem State.seamInPanel_inv (s : State) (h : s.Inv) :
    (State.seamInPanel s).Inv := by
  unfold State.seamInPanel; split <;> simp (maxDischargeDepth := 9) [*]

@[simp] theorem State.crossSeams_inv (s : State) (h : s.Inv) :
    (State.crossSeams s).Inv := by
  simp (maxDischargeDepth := 9) [State.crossSeams, apply_ite State.Inv, *]

@[simp] theorem State.crossUnconfirmed_inv (s : State) (h : s.Inv) :
    (State.crossUnconfirmed s).Inv := by
  unfold State.crossUnconfirmed; split <;> simp (maxDischargeDepth := 9) [apply_ite State.Inv, *]

@[simp] theorem State.fire_inv (s : State) (h : s.Inv) :
    (State.fire s).Inv := by
  unfold State.fire; split
  · exact State.evalStandby_inv _ (setRcc_inv_of h (spindlesOk_fired h.spindles))
  · exact h

@[simp] theorem State.pressTest_inv (s : State) (h : s.Inv) :
    (State.pressTest s).Inv := by
  unfold State.pressTest; split <;> simp (maxDischargeDepth := 9) [apply_ite State.Inv, *]

@[simp] theorem State.recordSeam_inv (how : ConfirmedBy) (s : State) (h : s.Inv) :
    (State.recordSeam how s).Inv := by
  unfold State.recordSeam; split <;> simp (maxDischargeDepth := 9) [*]

@[simp] theorem State.confirmSplice_inv (how : ConfirmedBy) (s : State) (h : s.Inv) :
    (State.confirmSplice how s).Inv := by
  unfold State.confirmSplice
  exact State.raise_inv _ _ (setRcc_inv (State.recordSeam_inv _ _ h) rfl rfl)

@[simp] theorem State.detectTest_inv (s : State) (h : s.Inv) :
    (State.detectTest s).Inv := by
  unfold State.detectTest; (repeat' split) <;> simp (maxDischargeDepth := 9) [*]

@[simp] theorem State.firmSlot_inv (b : Nat) (s : State) (h : s.Inv) :
    (State.firmSlot b s).Inv := by
  simp (maxDischargeDepth := 9) [State.firmSlot, *]

@[simp] theorem State.offerForming_inv (s : State) (h : s.Inv) :
    (State.offerForming s).Inv := by
  unfold State.offerForming; split <;> simp (maxDischargeDepth := 9) [apply_ite State.Inv, *]

@[simp] theorem standing_inactive {s : State} (h : s.Inv) (hl : s.seq.line ≠ .estop) :
    s.standing.estopInput = false := h.inactive hl

/-- A write of the line state on a line whose e-stop input is inactive. -/
theorem setLine_inv {s : State} (h : s.Inv) {f : Seq → Seq} (hb : (f s.seq).baseRate = s.seq.baseRate)
    (hl : (f s.seq).line ≠ .estop) (hs : s.standing.estopInput = false) : (s.setSeq f).Inv :=
  { h with
    baseRate := by simpa [State.setSeq, hb] using h.baseRate
    estop := by
      have e : s.estopInput = false := hs
      simpa [State.setSeq, e] using hl }

@[simp] theorem State.enter_inv (l : LineState) (s : State) (h : s.Inv) (hl : l ≠ .estop) (hs : s.standing.estopInput = false) :
    (State.enter l s).Inv := by
  unfold State.enter; dsimp only; split
  · exact h
  · have e : ((s.setSeq (Seq.enterLine l)).raise .lineState).Inv :=
      State.raise_inv _ _ (setLine_inv h (by cases l <;> rfl) (by cases l <;> simp_all [Seq.enterLine]) hs)
    split <;> simp [e]

@[simp] theorem State.enterHeld_inv (s : State) (h : s.Inv) (hs : s.standing.estopInput = false) :
    (State.enterHeld s).Inv := by
  simp [State.enterHeld, h, hs]

@[simp] theorem State.enterIdle_inv (s : State) (h : s.Inv) (hs : s.standing.estopInput = false) :
    (State.enterIdle s).Inv := by
  simp [State.enterIdle, h, hs]

@[simp] theorem State.stopAtBoundary_inv (s : State) (h : s.Inv) :
    (State.stopAtBoundary s).Inv := by
  unfold State.stopAtBoundary; split
  · rename_i hc
    have hs := h.inactive (by intro e; simp [e] at hc)
    split <;> simp [h, hs]
  · exact h

@[simp] theorem State.enterHolding_inv (s : State) (h : s.Inv) :
    (State.enterHolding s).Inv := by
  unfold State.enterHolding; split <;> simp (maxDischargeDepth := 9) [*]

@[simp] theorem State.addHold_inv (f : HoldSet → HoldSet) (s : State) (h : s.Inv) :
    (State.addHold f s).Inv := by
  unfold State.addHold; dsimp only
  have e := setSeq_inv h (f := fun q => { q with hold := f q.hold }) rfl rfl
  split <;> rename_i hl
  · exact State.enterHolding_inv _ e
  · exact State.enterHolding_inv _ e
  · exact State.enterHeld_inv _ e (e.inactive (by rw [hl]; decide))
  all_goals exact e

@[simp] theorem State.addHoldAtOnce_inv (f : HoldSet → HoldSet) (s : State) (h : s.Inv) :
    (State.addHoldAtOnce f s).Inv := by
  unfold State.addHoldAtOnce; dsimp only
  have e := setSeq_inv h (f := fun q => { q with hold := f q.hold }) rfl rfl
  split <;> rename_i hl
  case h_5 => exact e
  case h_6 => exact e
  case h_7 => exact e
  all_goals exact State.enterHeld_inv _ e (e.inactive (by rw [hl]; decide))

@[simp] theorem State.fireTests_inv (s : State) (h : s.Inv) :
    (State.fireTests s).Inv := by
  unfold State.fireTests; split
  · split
    · simp (maxDischargeDepth := 9) [h]
    · split
      · split
        · simp (maxDischargeDepth := 9) [h]
        · exact State.pressTest_inv _ (State.addHold_inv _ _ (setRcc_inv h rfl rfl))
      · exact h
  · exact h

@[simp] theorem State.endHeadPanel_inv (s : State) (h : s.Inv)  :
    (State.endHeadPanel s).Inv := by
  have ho := h.orders
  unfold State.endHeadPanel; split
  · exact h
  · rename_i o rest e
    rw [e] at ho; simp at ho
    dsimp only; split
    · exact State.raise_inv _ _ (inv_orders h (by omega))
    · exact inv_orders h (by simp; omega)

@[simp] theorem State.withdrawSlot_inv (p : Plan) (s : State) (h : s.Inv) :
    (State.withdrawSlot p s).Inv := by
  unfold State.withdrawSlot; split <;> simp (maxDischargeDepth := 9) [apply_ite State.Inv, *]

@[simp] theorem State.endForming_inv (early : Bool) (f : Reasons → Reasons) (s : State) (h : s.Inv) :
    (State.endForming early f s).Inv := by
  unfold State.endForming; dsimp only; split
  · exact h
  · have e : (s.mapForming fun p =>
        { p with state := .travelling, tail := some s.conv, reasons := f p.reasons }).Inv :=
      State.mapForming_inv _ _ h (fun _ => rfl) (fun _ => rfl)
    split
    · refine State.endHeadPanel_inv _ (setSeq_inv ?_ rfl rfl)
      split
      · exact State.withdrawSlot_inv _ _ e
      · exact e
    · exact State.endHeadPanel_inv _ e

@[simp] theorem State.dropPanelStep_inv (s : State) (h : s.Inv) :
    (State.dropPanelStep s).Inv := by
  unfold State.dropPanelStep; split <;> simp (maxDischargeDepth := 9) [apply_ite State.Inv, *]

@[simp] theorem State.restartPace_inv (s : State) (h : s.Inv) :
    (State.restartPace s).Inv := by
  simp (maxDischargeDepth := 9) [State.restartPace, *]

@[simp] theorem State.beginStep_inv (kind : StepKind) (advance cls : Nat) (figures : State → Fin 6 → StepFigures) (s : State) (h : s.Inv) :
    (State.beginStep kind advance cls figures s).Inv := by
  unfold State.beginStep; dsimp only
  refine State.startFeeds_inv _ _ _ _ (setSeq_inv (setRcc_inv (State.restartPace_inv _ ?_) rfl rfl) rfl rfl)
  cases kind <;> simp (maxDischargeDepth := 9) [h]

@[simp] theorem State.markClamped_inv (taper : Six Nat) (s : State) (h : s.Inv) :
    (State.markClamped taper s).Inv := by
  simp (maxDischargeDepth := 9) [State.markClamped, apply_ite State.Inv, *]

@[simp] theorem State.nextStep_inv (s : State) (h : s.Inv) :
    (State.nextStep s).Inv := by
  unfold State.nextStep; (repeat' split) <;> simp (maxDischargeDepth := 9) [*]

@[simp] theorem State.pacedNext_inv (s : State) (h : s.Inv) :
    (State.pacedNext s).Inv := by
  unfold State.pacedNext; split <;> simp (maxDischargeDepth := 9) [*]

@[simp] theorem State.waitWith_inv (b : Inhibits) (s : State) (h : s.Inv) (hs : s.standing.estopInput = false) :
    (State.waitWith b s).Inv := by
  simp (maxDischargeDepth := 9) [State.waitWith, *]

@[simp] theorem State.startPanel_inv (o : Order) (rest : List Order) (r : Roll) (out : Outlet) (p : Plan) (s : State) (h : s.Inv) (hs : s.standing.estopInput = false) (ho : s.orders = o :: rest) (hr : (s.outlets.counts out).hasRoom = true) (ht : s.track.length < 24) :
    (State.startPanel o rest r out p s).Inv := by
  have hres : State.Inv { s.reserve out with
      track := (s.reserve out).track ++ [State.newPanel o r out p (s.reserve out)]
      nextPanel := (s.reserve out).nextPanel + 1 } := by
    have hc := CreditsOk.reserve h.credits (p := State.newPanel o r out p (s.reserve out)) hr
    have hx : ExitsOk (s.outlets.setCounts out
        { s.outlets.counts out with reserved := (s.outlets.counts out).reserved + 1 }) := by
      cases out <;> exact ⟨h.exits.length, h.exits.next, h.exits.numbers⟩
    have ht' : TrackOk (s.nextPanel + 1) (s.track ++ [State.newPanel o r out p (s.reserve out)]) := by
      have e : (State.newPanel o r out p (s.reserve out)).number = s.nextPanel := by
        simp only [State.newPanel]; unfold State.reserve; dsimp only; split <;> (try cases out) <;> rfl
      refine ⟨by simp; omega, ?_, ?_⟩
      · rw [List.map_append, List.pairwise_append]
        refine ⟨h.track.rising, by simp, fun a ha b hb => ?_⟩
        simp only [List.map_cons, List.map_nil, List.mem_singleton, e] at hb
        subst hb; exact h.track.below a ha
      · intro n hn
        rw [List.map_append, List.mem_append] at hn
        rcases hn with hn | hn
        · exact Nat.lt_succ_of_lt (h.track.below n hn)
        · simp only [List.map_cons, List.map_nil, List.mem_singleton, e] at hn; omega
    have hq : (s.reserve out).link.queue.length ≤ 32 := by
      unfold State.reserve; dsimp only; split
      · cases out <;> first | exact link_raise_queue_le _ h.queue | exact h.queue
      · exact h.queue
    have e1 : (s.reserve out).track = s.track := by
      unfold State.reserve; dsimp only; split <;> (try cases out) <;> rfl
    have e2 : (s.reserve out).nextPanel = s.nextPanel := by
      unfold State.reserve; dsimp only; split <;> (try cases out) <;> rfl
    have e3 : (s.reserve out).outlets = s.outlets.setCounts out
        { s.outlets.counts out with reserved := (s.outlets.counts out).reserved + 1 } := by
      unfold State.reserve; dsimp only; split <;> (try cases out) <;> rfl
    have e4 : (s.reserve out).seq = s.seq ∧ (s.reserve out).patterns = s.patterns
        ∧ (s.reserve out).classes = s.classes ∧ (s.reserve out).fmu = s.fmu ∧ (s.reserve out).rcc = s.rcc
        ∧ (s.reserve out).steam = s.steam ∧ (s.reserve out).estopInput = s.estopInput
        ∧ (s.reserve out).orders = s.orders := by
      unfold State.reserve; dsimp only; split <;> (try cases out) <;> exact ⟨rfl, rfl, rfl, rfl, rfl, rfl, rfl, rfl⟩
    obtain ⟨f1, f2, f3, f4, f5, f6, f7, f8⟩ := e4
    exact {
      patterns := by rw [← h.patterns]; exact congrArg Table.wf f2
      classes := by rw [← h.classes]; exact congrArg Table.wf f3
      baseRate := by dsimp only; rw [f1]; exact h.baseRate
      carries := by dsimp only; rw [f4]; exact h.carries
      spindles := by dsimp only; rw [f5]; exact h.spindles
      ceiling := by dsimp only; rw [f6]; exact h.ceiling
      estop := by dsimp only; rw [f1, f7]; exact h.estop
      orders := by dsimp only; rw [f8]; exact h.orders
      queue := hq
      track := by dsimp only; rw [e1, e2]; exact ht'
      credits := by dsimp only; rw [e1, e3]; exact hc
      exits := by dsimp only; rw [e3]; exact hx }
  have hlen : ({ o with started := o.started + 1 } :: rest).length ≤ 16 := by
    have := h.orders; rw [ho] at this; simpa using this
  unfold State.startPanel
  refine State.nextStep_inv _ (State.enter_inv _ _ (State.startCarries_inv _ ?_) (by decide) ?_)
  · refine setSeq_inv (inv_orders ?_ hlen) rfl rfl
    split
    · exact State.firmSlot_inv _ _ hres
    · exact hres
  · simpa [apply_ite State.standing] using hs

@[simp] theorem State.startAttempt_inv (s : State) (h : s.Inv) (hs : s.standing.estopInput = false) :
    (State.startAttempt s).Inv := by
  have ht := State.boundaryCopies_inv s.boundaryWaiting s h
  have hts : (State.boundaryCopies s.boundaryWaiting s).standing.estopInput = false := by simpa using hs
  unfold State.startAttempt; dsimp only
  generalize State.boundaryCopies s.boundaryWaiting s = t at ht hts
  split
  · exact State.waitWith_inv _ _ ht hts
  · rename_i hb
    split
    · rename_i o rest r ho hr
      split
      · rename_i out hout
        split
        · refine State.startPanel_inv _ _ _ _ _ _ ht hts ho ?_ ?_
          · simpa using List.find?_some hout
          · have : t.inhibitsNow.trackFull = false := by
              cases e : t.inhibitsNow.trackFull
              · rfl
              · exact absurd (by simp [Inhibits.nonEmpty, e]) hb
            exact Nat.lt_of_not_le (of_decide_eq_false this)
        · exact State.waitWith_inv _ _ ht hts
      · exact State.waitWith_inv _ _ ht hts
    · exact State.waitWith_inv _ _ ht hts

@[simp] theorem State.fireTestsAgain_inv (s : State) (h : s.Inv) :
    (State.fireTestsAgain s).Inv := by
  have ht := State.fireTests_inv s h
  unfold State.fireTestsAgain; dsimp only; split
  · rename_i hc
    exact State.startAttempt_inv _ ht (ht.inactive (by
      intro e; simp [e] at hc))
  · exact ht

@[simp] theorem State.panelStart_inv (s : State) (h : s.Inv) (hs : s.standing.estopInput = false) :
    (State.panelStart s).Inv := by
  simp (maxDischargeDepth := 9) [State.panelStart, *]

@[simp] theorem State.reevaluate_inv (s : State) (h : s.Inv) :
    (State.reevaluate s).Inv := by
  unfold State.reevaluate; split <;> simp (maxDischargeDepth := 9) [*]

@[simp] theorem State.abandonTest_inv (s : State) (h : s.Inv) :
    (State.abandonTest s).Inv := by
  unfold State.abandonTest; split <;> simp (maxDischargeDepth := 9) [apply_ite State.Inv, *]

@[simp] theorem State.openBoundary_inv (s : State) (h : s.Inv) :
    (State.openBoundary s).Inv := by
  unfold State.openBoundary; split <;> simp (maxDischargeDepth := 9) [apply_ite State.Inv, *]

@[simp] theorem State.boundary_inv (s : State) (h : s.Inv) :
    (State.boundary s).Inv := by
  simp (maxDischargeDepth := 9) [State.boundary, apply_ite State.Inv, *]

@[simp] theorem State.exitsAndStall_inv (s : State) (h : s.Inv) :
    (State.exitsAndStall s).Inv := by
  simp (maxDischargeDepth := 9) [State.exitsAndStall, *]

@[simp] theorem State.deliver_inv (s : State) (h : s.Inv) :
    (State.deliver s).Inv := by
  unfold State.deliver
  split
  · exact h
  · rename_i x _
    have hs : State.Inv { s with conv := s.conv + x.advance } := inv_conv h _
    rcases x with ⟨_ | _ | _, a, ph⟩ <;> dsimp only
    · have hp : (((State.sweepAll (s.conv + a) { s with conv := s.conv + a }).pushFolds a).mapForming
          fun p => { p with strokes := satAdd 2000 p.strokes 1 }).Inv :=
        State.mapForming_inv _ _ (by simp [hs]) (fun _ => rfl) (fun _ => rfl)
      split <;> (try split) <;> simp (maxDischargeDepth := 9) [hp]
    · split <;> (try split) <;> simp (maxDischargeDepth := 9) [hs]
    · simp (maxDischargeDepth := 9) [hs]

@[simp] theorem State.deliverAndGo_inv (s : State) (h : s.Inv) :
    (State.deliverAndGo s).Inv := by
  simp (maxDischargeDepth := 9) [State.deliverAndGo, *]

@[simp] theorem State.deliverKept_inv (len : Nat) (s : State) (h : s.Inv) :
    (State.deliverKept len s).Inv := by
  simp (maxDischargeDepth := 9) [State.deliverKept, *]

@[simp] theorem State.setPhase_inv (ph : Phase) (s : State) (h : s.Inv) :
    (State.setPhase ph s).Inv := by
  simp (maxDischargeDepth := 9) [State.setPhase, *]

@[simp] theorem State.beginStroke_inv (dir : Direction) (s : State) (h : s.Inv) :
    (State.beginStroke dir s).Inv := by
  simp (maxDischargeDepth := 9) [State.beginStroke, *]

@[simp] theorem State.takeUpStroke_inv (dir : Direction) (s : State) (h : s.Inv) :
    (State.takeUpStroke dir s).Inv := by
  simp (maxDischargeDepth := 9) [State.takeUpStroke, *]

@[simp] theorem State.takeUp_inv (s : State) (h : s.Inv) :
    (State.takeUp s).Inv := by
  unfold State.takeUp; (repeat' split) <;> simp (maxDischargeDepth := 9) [*]

@[simp] theorem State.resume_inv (s : State) (h : s.Inv) :
    (State.resume s).Inv := by
  unfold State.resume; split <;> simp (maxDischargeDepth := 9) [apply_ite State.Inv, *]

@[simp] theorem State.rollOutTest_inv (s : State) (h : s.Inv) :
    (State.rollOutTest s).Inv := by
  unfold State.rollOutTest; split
  · exact h
  · dsimp only; split
    · have h1 : (s.setRcc (RollChange.mapSpindles fun x =>
          match x with
          | .active r => .spent r
          | y => y)).Inv :=
        setRcc_inv_of h (spindlesOk_map h.spindles (by intro x; cases x <;> simp [Spindle.active?])
          (by intro x; cases x <;> simp [Spindle.standby?]))
      have h2 := State.raise_inv .rollOut _ h1
      have h3 := setRcc_inv h2 (takeBack_u1 _) (takeBack_u2 _)
      apply State.addHoldAtOnce_inv
      refine inv_ite (State.dropPanelStep_inv _ (State.endForming_inv _ _ _ (inv_ite (setSeq_inv ?_ rfl rfl) ?_)))
        (inv_ite (setSeq_inv ?_ rfl rfl) ?_) <;> exact inv_ite h3 h2
    · exact h

@[simp] theorem State.feedEndRcc_inv (s : State) (h : s.Inv) :
    (State.feedEndRcc s).Inv := by
  simp (maxDischargeDepth := 9) [State.feedEndRcc, *]

@[simp] theorem State.afterFeed_inv (s : State) (h : s.Inv) :
    (State.afterFeed s).Inv := by
  unfold State.afterFeed; (repeat' split) <;> simp (maxDischargeDepth := 9) [*]

@[simp] theorem State.feedEnd_inv (s : State) (h : s.Inv) :
    (State.feedEnd s).Inv := by
  simp (maxDischargeDepth := 9) [State.feedEnd, *]

@[simp] theorem State.feedEndCut_inv (s : State) (h : s.Inv) :
    (State.feedEndCut s).Inv := by
  simp (maxDischargeDepth := 9) [State.feedEndCut, apply_ite State.Inv, *]

@[simp] theorem State.cutPoint_inv (s : State) (h : s.Inv) :
    (State.cutPoint s).Inv := by
  unfold State.cutPoint; (repeat' split) <;> simp (maxDischargeDepth := 9) [*]

@[simp] theorem State.leaveLost_inv (s : State) (h : s.Inv) (hs : s.standing.estopInput = false) :
    (State.leaveLost s).Inv := by
  unfold State.leaveLost; split <;> simp (maxDischargeDepth := 9) [*]

@[simp] theorem State.leaveHeld_inv (s : State) (h : s.Inv) (hs : s.standing.estopInput = false) :
    (State.leaveHeld s).Inv := by
  unfold State.leaveHeld; split <;> simp (maxDischargeDepth := 9) [apply_ite State.Inv, *]

@[simp] theorem State.releaseHold_inv (f : HoldSet → HoldSet) (s : State) (h : s.Inv) :
    (State.releaseHold f s).Inv := by
  have e := setSeq_inv h (f := fun q => { q with hold := f q.hold }) rfl rfl
  unfold State.releaseHold; dsimp only; split
  · split
    · rename_i hl
      split
      · exact e
      · refine State.enter_inv _ _ e ?_ (e.inactive (by rw [hl]; decide))
        unfold Seq.resumeState; split
        · decide
        · split <;> decide
    · rename_i hl
      exact State.leaveHeld_inv _ e (e.inactive (by rw [hl]; decide))
    all_goals exact e
  · exact e

@[simp] theorem State.cutStep_inv (s : State) (h : s.Inv) :
    (State.cutStep s).Inv := by
  unfold State.cutStep; (repeat' split) <;> simp (maxDischargeDepth := 9) [*]

@[simp] theorem State.segmentFault_inv (i : Fin 6) (c : FaultCause) (s : State) (h : s.Inv) :
    (State.segmentFault i c s).Inv := by
  simp (maxDischargeDepth := 9) [State.segmentFault, apply_ite State.Inv, *]

@[simp] theorem State.countBackoff_inv (i : Fin 6) (s : State) (h : s.Inv) :
    (State.countBackoff i s).Inv := by
  simp (maxDischargeDepth := 9) [State.countBackoff, *]

@[simp] theorem State.beginBackoff_inv (i : Fin 6) (s : State) (h : s.Inv) :
    (State.beginBackoff i s).Inv := by
  simp (maxDischargeDepth := 9) [State.beginBackoff, apply_ite State.Inv, *]

@[simp] theorem State.retryTest_inv (s : State) (h : s.Inv) :
    (State.retryTest s).Inv := by
  unfold State.retryTest; split <;> simp (maxDischargeDepth := 9) [apply_ite State.Inv, *]

@[simp] theorem State.reqPatDefine_inv (slot : Nat) (p : List PatStep) (s : State) (h : s.Inv) :
    (State.reqPatDefine slot p s).1.Inv := by
  unfold State.reqPatDefine; split
  · exact h
  · split
    · exact h
    · split
      · exact h
      · exact { h with patterns := Table.wf_insert _ _ h.patterns }

@[simp] theorem State.reqPatDrop_inv (slot : Nat) (s : State) (h : s.Inv) :
    (State.reqPatDrop slot s).1.Inv := by
  unfold State.reqPatDrop; (repeat' split)
  case _ => exact h
  case _ => exact h
  case _ => exact h
  exact { h with patterns := Table.wf_erase _ h.patterns }

@[simp] theorem State.reqPatRead_inv (slot : Nat) (s : State) (h : s.Inv) :
    (State.reqPatRead slot s).1.Inv := by
  unfold State.reqPatRead; (repeat' split) <;> simp (maxDischargeDepth := 9) [answered, *]

@[simp] theorem State.reqClassSet_inv (n : Nat) (fields : Option FabricClass) (s : State) (h : s.Inv) :
    (State.reqClassSet n fields s).1.Inv := by
  unfold State.reqClassSet; split
  · exact h
  · split
    · split
      · exact h
      · split
        · exact h
        · exact { h with classes := Table.wf_insert _ _ h.classes }
    · split
      · exact h
      · exact { h with classes := Table.wf_erase _ h.classes }

@[simp] theorem State.reqClassRead_inv (n : Nat) (s : State) (h : s.Inv) :
    (State.reqClassRead n s).1.Inv := by
  unfold State.reqClassRead; split <;> simp (maxDischargeDepth := 9) [answered, refused, *]

@[simp] theorem State.reqLineGeometry_inv (settings : Option Geometry) (s : State) (h : s.Inv) :
    (State.reqLineGeometry settings s).1.Inv := by
  unfold State.reqLineGeometry; (repeat' split) <;> simp (maxDischargeDepth := 9) [answered, *]

@[simp] theorem State.reevaluateSince_inv (before s : State) (h : s.Inv) :
    (State.reevaluateSince before s).Inv := by
  unfold State.reevaluateSince; split
  · exact State.reevaluate_inv _ h
  · exact h

@[simp] theorem State.reqOrderAdd_inv (b : OrderBody) (s : State) (h : s.Inv) :
    (State.reqOrderAdd b s).1.Inv := by
  unfold State.reqOrderAdd; split
  · exact h
  · (repeat' split)
    case _ => exact h
    case _ => exact h
    case _ => exact h
    case _ => exact h
    rename_i hc
    refine State.reevaluateSince_inv _ _ (inv_orders h ?_)
    simp only [Config.orderCapacity] at hc; simp; omega

@[simp] theorem State.removeOrder_inv (tag : Nat) (s : State) (h : s.Inv) :
    (State.removeOrder tag s).Inv := by
  exact State.raise_inv _ _ (inv_orders h ((List.length_filter_le _ _).trans h.orders))

@[simp] theorem State.cancelForming_inv (o : Order) (rest : List Order) (m : CancelPending) (s : State) (h : s.Inv) (hc : rest.length < 16) :
    (State.cancelForming o rest m s).Inv := by
  unfold State.cancelForming; dsimp only
  have e : State.Inv { s with orders := { o with cancel := o.cancel.join m } :: rest } := inv_orders h (by simpa using hc)
  split
  · exact State.boundary_inv _ e
  · exact e

@[simp] theorem State.cancelOrder_inv (tag : Nat) (m : CancelPending) (s : State) (h : s.Inv) :
    (State.cancelOrder tag m s).Inv := by
  unfold State.cancelOrder; split
  · rename_i o rest e
    have ho : s.orders = o :: rest := by
      unfold State.formingHead? at e; split at e
      · rename_i o' rest' e'; split at e
        · simp only [Option.some.injEq, Prod.mk.injEq] at e; rw [e', e.1, e.2]
        · exact absurd e (by simp)
      · exact absurd e (by simp)
    refine State.cancelForming_inv _ _ _ _ h ?_
    have := h.orders; rw [ho] at this; simpa using this
  · exact State.removeOrder_inv _ _ h

@[simp] theorem State.reqOrderCancel_inv (tag mode : Nat) (s : State) (h : s.Inv) :
    (State.reqOrderCancel tag mode s).1.Inv := by
  unfold State.reqOrderCancel; split
  · exact h
  · split
    · exact State.reevaluateSince_inv _ _ (State.cancelOrder_inv _ _ _ h)
    · exact h

@[simp] theorem State.reqOrderList_inv (s : State) (h : s.Inv) :
    (State.reqOrderList s).1.Inv := by
  unfold State.reqOrderList; simp (maxDischargeDepth := 9) [answered, *]

@[simp] theorem State.stageSeg_inv (b : StageBody) (s : State) (i : Fin 6) (h : s.Inv) :
    (State.stageSeg b s i).Inv := by
  simp (maxDischargeDepth := 9) [State.stageSeg, *]

@[simp] theorem State.reqSegStage_inv (mask : Nat) (b : StageBody) (s : State) (h : s.Inv) :
    (State.reqSegStage mask b s).1.Inv := by
  unfold State.reqSegStage; split
  · exact h
  · exact foldl_inv (fun s i h => State.stageSeg_inv _ s i h) _ h

@[simp] theorem State.applySeg_inv (m : ApplyMode) (atOnce : Bool) (s : State) (i : Fin 6) (h : s.Inv) :
    (State.applySeg m atOnce s i).Inv := by
  unfold State.applySeg; split <;> simp (maxDischargeDepth := 9) [apply_ite State.Inv, *]

@[simp] theorem State.applyAll_inv (mask : Nat) (m : ApplyMode) (s : State) (h : s.Inv) :
    (State.applyAll mask m s).Inv := by
  have e : ((maskSegs mask).foldl (State.applySeg m (s.copyAtOnce m)) s).Inv :=
    foldl_inv (fun s i h => State.applySeg_inv _ _ s i h) _ h
  unfold State.applyAll; dsimp only; split
  · exact State.boundaryCopies_inv _ _ e
  · exact e

@[simp] theorem State.reqSegApply_inv (mask mode : Nat) (s : State) (h : s.Inv) :
    (State.reqSegApply mask mode s).1.Inv := by
  unfold State.reqSegApply; split
  · exact h
  · rename_i m _
    have e := State.applyAll_inv mask m s h
    dsimp only; split
    · exact h
    · split
      · exact h
      · split <;> split <;> simp [answered, e]

@[simp] theorem State.clearSeg_inv (s : State) (i : Fin 6) (h : s.Inv) :
    (State.clearSeg s i).Inv := by
  simp (maxDischargeDepth := 9) [State.clearSeg, apply_ite State.Inv, *]

@[simp] theorem State.releaseFault_inv (s : State) (h : s.Inv) :
    (State.releaseFault s).Inv := by
  simp (maxDischargeDepth := 9) [State.releaseFault, apply_ite State.Inv, *]

@[simp] theorem State.reqSegClear_inv (mask : Nat) (s : State) (h : s.Inv) :
    (State.reqSegClear mask s).1.Inv := by
  have e : ((maskSegs mask).foldl State.clearSeg s).Inv :=
    foldl_inv (fun s i h => State.clearSeg_inv s i h) _ h
  unfold State.reqSegClear; dsimp only; split
  · exact h
  · split
    · exact h
    · split <;> simp [answered, e]

@[simp] theorem State.reqSegRead_inv (mask : Nat) (s : State) (h : s.Inv) :
    (State.reqSegRead mask s).1.Inv := by
  unfold State.reqSegRead; split <;> simp (maxDischargeDepth := 9) [answered, refused, *]

@[simp] theorem State.runLine_inv (s : State) (h : s.Inv) (hs : s.standing.estopInput = false) :
    (State.runLine s).Inv := by
  unfold State.runLine; split
  · exact State.enterHeld_inv _ h hs
  · split
    · exact State.panelStart_inv _ h hs
    · exact State.resume_inv _ (State.enter_inv _ _ h (by decide) hs)

@[simp] theorem State.reqLineRun_inv (s : State) (h : s.Inv) :
    (State.reqLineRun s).1.Inv := by
  unfold State.reqLineRun; split
  · rename_i hc
    refine State.runLine_inv s h (h.inactive ?_)
    intro e; simp [State.mayRun, e] at hc
  · exact h

@[simp] theorem State.setStop_inv (x : StopPending) (s : State) (h : s.Inv) :
    (State.setStop x s).Inv := by
  simp (maxDischargeDepth := 9) [State.setStop, *]

@[simp] theorem State.joinEndOfPanel_inv (s : State) (h : s.Inv) :
    (State.joinEndOfPanel s).Inv := by
  simp (maxDischargeDepth := 9) [State.joinEndOfPanel, apply_ite State.Inv, *]

@[simp] theorem State.stopNow_inv (s : State) (h : s.Inv) :
    (State.stopNow s).Inv := by
  unfold State.stopNow; split <;> simp (maxDischargeDepth := 9) [*]

@[simp] theorem State.stopAtEnd_inv (s : State) (h : s.Inv) :
    (State.stopAtEnd s).Inv := by
  unfold State.stopAtEnd; split <;> simp (maxDischargeDepth := 9) [apply_ite State.Inv, *]

@[simp] theorem State.reqLineStop_inv (mode : Nat) (s : State) (h : s.Inv) :
    (State.reqLineStop mode s).1.Inv := by
  unfold State.reqLineStop; (repeat' split) <;> simp (maxDischargeDepth := 9) [refused, okBare, *]

@[simp] theorem State.reqLineHold_inv (s : State) (h : s.Inv) :
    (State.reqLineHold s).1.Inv := by
  unfold State.reqLineHold; simp (maxDischargeDepth := 9) [okBare, *]

@[simp] theorem State.reqLineRelease_inv (s : State) (h : s.Inv) :
    (State.reqLineRelease s).1.Inv := by
  unfold State.reqLineRelease; simp (maxDischargeDepth := 9) [okBare, *]

@[simp] theorem State.reqLineRate_inv (rate : Nat) (s : State) (h : s.Inv) :
    (State.reqLineRate rate s).1.Inv := by
  unfold State.reqLineRate; split
  · rename_i hc
    simp only [inRange, Bool.and_eq_true, decide_eq_true_eq] at hc
    exact { h with baseRate := hc }
  · exact h

@[simp] theorem State.resetOrders_inv (s : State) (h : s.Inv) :
    (State.resetOrders s).Inv := by
  unfold State.resetOrders; dsimp only
  have hl : ∀ xs : List Order, xs.length ≤ 16 →
      State.Inv { s with orders := xs.filter (fun o => decide (o.cancel = .none)) } :=
    fun xs hx => inv_orders h ((List.length_filter_le _ _).trans hx)
  have e : (match s.orders with
      | o :: rest => (if s.forming?.isSome then { o with started := o.started - 1 } else o) :: rest
      | [] => []).length ≤ 16 := by
    have := h.orders
    split
    · rename_i e; rw [e] at this; simpa using this
    · simp
  exact inv_ite (State.raise_inv _ _ (hl _ e)) (hl _ e)

@[simp] theorem State.resetTrack_inv (s : State) (h : s.Inv) :
    (State.resetTrack s).Inv := by
  have hr := h.credits.room
  unfold State.resetTrack
  exact { h with
    track := ⟨by simp, by simp, by simp⟩
    credits := ⟨by intro n; cases n <;> rfl, by
      intro n; have := hr n
      cases n <;> simp only [Outlets.counts] at this ⊢ <;> omega⟩
    exits := ⟨by simp, by have := h.exits.next; simp; omega, by simp⟩ }

@[simp] theorem State.resetChecker_inv (s : State) (i : Fin 6) (h : s.Inv) :
    (State.resetChecker s i).Inv := by
  simp (maxDischargeDepth := 9) [State.resetChecker, apply_ite State.Inv, *]

@[simp] theorem State.resetSteam_inv (s : State) (h : s.Inv) :
    (State.resetSteam s).Inv := by
  simp (maxDischargeDepth := 9) [State.resetSteam, *]

@[simp] theorem State.resetLine_inv (s : State) (h : s.Inv) :
    (State.resetLine s).Inv := by
  unfold State.resetLine; split <;> simp (maxDischargeDepth := 9) [*]

@[simp] theorem State.dropFeeds_inv (s : State) (h : s.Inv) :
    (State.dropFeeds s).Inv := by
  exact inv_fmu h (Six.all_map (fun f hf => outOfStep_carries hf) h.carries)

@[simp] theorem State.lineReset_inv (s : State) (h : s.Inv) :
    (State.lineReset s).Inv := by
  unfold State.lineReset; dsimp only
  refine State.raise_inv _ _ (foldl_inv (fun s i h => State.resetSeg_inv s i h) _ ?_)
  refine State.dropFeeds_inv _ (State.resetLine_inv _ (setSeq_inv (State.evalStandby_inv _ ?_) rfl rfl))
  refine spend_inv (State.resetSteam_inv _ (foldl_inv (fun s i h => State.resetChecker_inv s i h) _ ?_)) _ rfl
  exact State.emptyFolds_inv _ (State.resetTrack_inv _ (State.resetOrders_inv _ h))

@[simp] theorem State.reqLineReset_inv (s : State) (h : s.Inv) :
    (State.reqLineReset s).1.Inv := by
  unfold State.reqLineReset; split <;> simp (maxDischargeDepth := 9) [refused, okBare, *]

@[simp] theorem State.fillSpindle_inv (n : SpindleName) (roll : Roll) (s : State) (h : s.Inv) (hn : s.rcc.spindle n = .empty) :
    (State.fillSpindle n roll s).Inv := by
  unfold State.fillSpindle
  have hsp := h.spindles
  split <;> rename_i ha <;> refine setRcc_inv_of h ?_ <;>
    simp only [RollChange.activeRoll] at ha <;> simp only [RollChange.spindle] at hn <;>
    cases n <;> simp only at hn <;>
    cases e1 : s.rcc.u1 <;> cases e2 : s.rcc.u2 <;>
    simp_all [RollChange.spindlesOk, RollChange.setSpindle, Spindle.active?, Spindle.standby?]

@[simp] theorem State.loadRoll_inv (n : SpindleName) (roll : Roll) (s : State) (h : s.Inv) (hn : s.rcc.spindle n = .empty) :
    (State.loadRoll n roll s).Inv := by
  unfold State.loadRoll; dsimp only
  have e := State.triggerTest_inv _ (State.evalStandby_inv _ (State.fillSpindle_inv n roll s h hn))
  split
  · exact State.reevaluateSince_inv _ _ (State.releaseHold_inv _ _ e)
  · exact State.reevaluateSince_inv _ _ e

@[simp] theorem State.reqRollLoad_inv (spindle rollId cls length : Nat) (s : State) (h : s.Inv) :
    (State.reqRollLoad spindle rollId cls length s).1.Inv := by
  unfold State.reqRollLoad; split
  · exact h
  · split
    · exact h
    · split
      · exact h
      · split
        · exact h
        · rename_i hn
          exact State.loadRoll_inv _ _ _ h (by simpa using hn)

@[simp] theorem State.removeRoll_inv (n : SpindleName) (s : State) (h : s.Inv) :
    (State.removeRoll n s).Inv := by
  unfold State.removeRoll; dsimp only
  refine State.reevaluateSince_inv _ _ (State.evalStandby_inv _ (setRcc_inv_of h ?_))
  have hsp := h.spindles
  cases n <;> cases e1 : s.rcc.u1 <;> cases e2 : s.rcc.u2 <;>
    simp_all [RollChange.spindlesOk, RollChange.setSpindle, Spindle.active?, Spindle.standby?]

@[simp] theorem State.reqRollRemove_inv (spindle : Nat) (s : State) (h : s.Inv) :
    (State.reqRollRemove spindle s).1.Inv := by
  unfold State.reqRollRemove; (repeat' split) <;> simp (maxDischargeDepth := 9) [answered, refused, *]

@[simp] theorem State.reqSpliceSet_inv (settings : Option SpliceBody) (s : State) (h : s.Inv) :
    (State.reqSpliceSet settings s).1.Inv := by
  unfold State.reqSpliceSet; split
  · exact h
  · split
    · exact h
    · split
      · exact h
      · exact State.triggerTest_inv _ (State.evalStandby_inv _ (setRcc_inv h rfl rfl))

@[simp] theorem State.breakPanel_inv (s : State) (h : s.Inv) :
    (State.breakPanel s).Inv := by
  simp (maxDischargeDepth := 9) [State.breakPanel, apply_ite State.Inv, *]

@[simp] theorem State.breakSeam_inv (old new : Nat) (s : State) (h : s.Inv) :
    (State.breakSeam old new s).Inv := by
  simp (maxDischargeDepth := 9) [State.breakSeam, *]

@[simp] theorem State.resolved_inv (s : State) (h : s.Inv) :
    (State.resolved s).Inv := by
  simp (maxDischargeDepth := 9) [State.resolved, *]

@[simp] theorem State.breakFired_inv (s : State) (h : s.Inv) :
    (State.breakFired s).Inv := by
  unfold State.breakFired; dsimp only; split <;> simp (maxDischargeDepth := 9) [*]

@[simp] theorem State.breakNoMatch_inv (s : State) (h : s.Inv) :
    (State.breakNoMatch s).Inv := by
  have h0 : (if s.rcc.activeRoll.isSome then s else s.takeFree).Inv := by
    split
    · exact h
    · exact State.takeFree_inv _ h
  unfold State.breakNoMatch; dsimp only
  refine State.resolved_inv _ (State.breakSeam_inv _ _ _ (State.breakPanel_inv _ (State.evalStandby_inv _ ?_)))
  exact setRcc_inv_of h0 (spindlesOk_fired h0.spindles)

@[simp] theorem State.goOn_inv (before s : State) (h : s.Inv) : (State.goOn before s).Inv := by
  unfold State.goOn; split
  · exact State.openBoundary_inv _ h
  · exact h

@[simp] theorem State.leaveSplice_inv (rollMade : Bool) (s before : State) (h : s.Inv) :
    (State.leaveSplice rollMade s before).Inv := by
  simp (maxDischargeDepth := 9) [State.leaveSplice, h]

@[simp] theorem State.acceptFired_inv (s : State) (h : s.Inv) :
    (State.acceptFired s).Inv := by
  simp (maxDischargeDepth := 9) [State.acceptFired, *]

@[simp] theorem State.acceptNoMatch_inv (s : State) (h : s.Inv) :
    (State.acceptNoMatch s).Inv := by
  simp (maxDischargeDepth := 9) [State.acceptNoMatch, *]

@[simp] theorem State.reqSpliceResolve_inv (action : Nat) (s : State) (h : s.Inv) :
    (State.reqSpliceResolve action s).1.Inv := by
  unfold State.reqSpliceResolve; split
  · exact h
  · split
    · exact h
    · split
      · rename_i a _ _ c _ _ t ht
        cases a <;> cases c <;> simp only [State.resolve?, Option.some.injEq, Option.ite_none_left_eq_some] at ht
          <;> first
          | (rw [← ht]; simp (maxDischargeDepth := 9) [answered, h])
          | (rw [← ht.2]; simp (maxDischargeDepth := 9) [answered, h])
      · exact h

@[simp] theorem State.reqZoneSet_inv (zone : Nat) (settings : Option ZoneBody) (s : State) (h : s.Inv) :
    (State.reqZoneSet zone settings s).1.Inv := by
  unfold State.reqZoneSet; (repeat' split) <;> simp (maxDischargeDepth := 9) [answered, refused, *]

@[simp] theorem State.stallIfDue_inv (s : State) (h : s.Inv) :
    (State.stallIfDue s).Inv := by
  simp (maxDischargeDepth := 9) [State.stallIfDue, apply_ite State.Inv, *]

@[simp] theorem State.reqSteamSet_inv (settings : Option SteamBody) (s : State) (h : s.Inv) :
    (State.reqSteamSet settings s).1.Inv := by
  unfold State.reqSteamSet; (repeat' split) <;> simp (maxDischargeDepth := 9) [answered, *]

/-- A write of one outlet's capacity or occupied count that keeps its room. -/
theorem inv_counts {s : State} (h : s.Inv) {n : Outlet} {c : OutletCounts}
    (hr : c.reserved = (s.outlets.counts n).reserved) (hc : c.occupied + c.reserved ≤ c.capacity) :
    State.Inv { s with outlets := s.outlets.setCounts n c } :=
  { h with
    credits := ⟨fun m => by
        have := h.credits.reserved m
        rw [counts_setCounts]; split
        · rename_i e; subst e; rw [hr]; exact this
        · exact this,
      fun m => by
        rw [counts_setCounts]; split
        · exact hc
        · exact h.credits.room m⟩
    exits := by cases n <;> exact ⟨h.exits.length, h.exits.next, h.exits.numbers⟩ }

@[simp] theorem State.setCapacity_inv (n : Outlet) (capacity : Nat) (s : State) (h : s.Inv) (hc : (s.outlets.counts n).occupied + (s.outlets.counts n).reserved ≤ capacity) :
    (State.setCapacity n capacity s).Inv := by
  have e := inv_counts h (n := n) (c := { s.outlets.counts n with capacity := capacity }) rfl hc
  unfold State.setCapacity; dsimp only; split
  · exact State.raise?_inv _ _ e
  · exact e

@[simp] theorem State.reqOutletSet_inv (settings : Option OutletBody) (s : State) (h : s.Inv) :
    (State.reqOutletSet settings s).1.Inv := by
  unfold State.reqOutletSet; split
  · exact h
  · split
    · exact h
    · split
      · exact h
      · split
        · exact h
        · rename_i hc
          exact State.reevaluateSince_inv _ _ (State.setCapacity_inv _ _ _ h (by omega))

@[simp] theorem State.unload_inv (n : Outlet) (count : Nat) (s : State) (h : s.Inv) :
    (State.unload n count s).Inv := by
  exact inv_counts h rfl (by have := h.credits.room n; simp only; omega)

@[simp] theorem State.reqOutletUnload_inv (outlet count : Nat) (s : State) (h : s.Inv) :
    (State.reqOutletUnload outlet count s).1.Inv := by
  unfold State.reqOutletUnload; split
  · exact h
  · exact State.reevaluateSince_inv _ _ (State.unload_inv _ _ _ h)

@[simp] theorem State.reqVerifySet_inv (settings : Option VerifyBody) (s : State) (h : s.Inv) :
    (State.reqVerifySet settings s).1.Inv := by
  unfold State.reqVerifySet; (repeat' split) <;> simp (maxDischargeDepth := 9) [answered, refused, *]

@[simp] theorem State.reqReadTrack_inv (start : Nat) (s : State) (h : s.Inv) :
    (State.reqReadTrack start s).1.Inv := by
  unfold State.reqReadTrack; simp (maxDischargeDepth := 9) [answered, *]

@[simp] theorem State.reqReadExits_inv (start : Nat) (s : State) (h : s.Inv) :
    (State.reqReadExits start s).1.Inv := by
  unfold State.reqReadExits; simp (maxDischargeDepth := 9) [answered, *]

@[simp] theorem State.reqReadCounters_inv (s : State) (h : s.Inv) :
    (State.reqReadCounters s).1.Inv := by
  unfold State.reqReadCounters; simp (maxDischargeDepth := 9) [answered, *]

@[simp] theorem State.reqReadStatus_inv (s : State) (h : s.Inv) :
    (State.reqReadStatus s).1.Inv := by
  unfold State.reqReadStatus; simp (maxDischargeDepth := 9) [answered, *]

@[simp] theorem State.reqReadFlags_inv (s : State) (h : s.Inv) :
    (State.reqReadFlags s).1.Inv := by
  show (s.setLink fun l => { l with flags := 0#48 }).Inv
  refine setLink_inv h ?_
  exact h.queue

@[simp] theorem State.reqMaskSet_inv (masks : Option (BitVec 48)) (s : State) (h : s.Inv) :
    (State.reqMaskSet masks s).1.Inv := by
  unfold State.reqMaskSet; split
  · exact h
  · rename_i m
    show (s.setLink fun l => { l with masks := m }).Inv
    refine setLink_inv h ?_
    exact h.queue

@[simp] theorem State.setRx_inv (r : Receiver) (s : State) (h : s.Inv) :
    (State.setRx r s).Inv := by
  exact setLink_inv h h.queue

@[simp] theorem State.takeBroken_inv (s : State) (h : s.Inv) :
    (State.takeBroken s).Inv := by
  exact setLink_inv (State.setRx_inv _ _ h) h.queue

@[simp] theorem State.missSplice_inv (c : MissCause) (s : State) (h : s.Inv) :
    (State.missSplice c s).Inv := by
  simp (maxDischargeDepth := 9) [State.missSplice, *]

@[simp] theorem State.enterMissed_inv (c : MissCause) (s : State) (h : s.Inv) :
    (State.enterMissed c s).Inv := by
  simp (maxDischargeDepth := 9) [State.enterMissed, *]

@[simp] theorem State.estopSplice_inv (s : State) (h : s.Inv) :
    (State.estopSplice s).Inv := by
  unfold State.estopSplice; dsimp only; split
  · exact setSeq_inv (setRcc_inv h rfl rfl) rfl rfl
  · exact setSeq_inv (setRcc_inv h rfl rfl) rfl rfl
  · exact State.enterMissed_inv _ _ h
  all_goals exact h

@[simp] theorem State.feedEndEstop_inv (s : State) (h : s.Inv) :
    (State.feedEndEstop s).Inv := by
  simp (maxDischargeDepth := 9) [State.feedEndEstop, *]

@[simp] theorem State.estopFeed_inv (s : State) (h : s.Inv) :
    (State.estopFeed s).Inv := by
  unfold State.estopFeed; split <;> simp (maxDischargeDepth := 9) [apply_ite State.Inv, *]

@[simp] theorem State.estopStep_inv (s : State) (h : s.Inv) :
    (State.estopStep s).Inv := by
  unfold State.estopStep; split <;> simp (maxDischargeDepth := 9) [*]

@[simp] theorem State.interruptAll_inv (s : State) (h : s.Inv) :
    (State.interruptAll s).Inv := by
  exact inv_trackMap h (fun _ => rfl) (fun _ => rfl)

@[simp] theorem State.estopSegs_inv (s : State) (h : s.Inv) :
    (State.estopSegs s).Inv := by
  have e := foldl_inv (fun s i h => State.estopSeg_inv s i h) segIndices h
  unfold State.estopSegs
  generalize segIndices.foldl State.estopSeg s = t at e
  exact setSeq_inv e rfl rfl

@[simp] theorem State.estopFeeds_inv (s : State) (h : s.Inv) :
    (State.estopFeeds s).Inv := by
  exact inv_fmu h (Six.all_map (fun f hf => hf) h.carries)

@[simp] theorem State.estopGrants_inv (s : State) (h : s.Inv) :
    (State.estopGrants s).Inv := by
  simp (maxDischargeDepth := 9) [State.estopGrants, *]

@[simp] theorem State.estop_inv (s : State) (h : s.Inv) :
    (State.estop s).Inv := by
  have e : (State.enter .estop { s with estopInput := true }).Inv := by
    unfold State.enter; dsimp only; split
    · rename_i hl; exact { h with estop := by simpa using hl }
    · simp only [LineState.entryFlag, State.raise?]
      refine State.raise_inv _ _ (State.raise_inv _ _ ?_)
      exact { h with estop := by simp [State.setSeq, Seq.enterLine] }
  have e2 := State.estopSplice_inv _ (State.estopStep_inv _ (State.interruptAll_inv _
    (State.endForming_inv true Reasons.addInterrupted _ (State.estopFeed_inv _ e))))
  have e3 := State.estopGrants_inv _ (State.estopFeeds_inv _ (State.estopSegs_inv _ e2))
  unfold State.estop; dsimp only
  generalize State.estopGrants _ = t at e3
  exact setSeq_inv e3 rfl rfl

@[simp] theorem State.missedHolds_inv (s : State) (h : s.Inv) :
    (State.missedHolds s).Inv := by
  unfold State.missedHolds; split <;> simp (maxDischargeDepth := 9) [*]

@[simp] theorem State.estopReleased_inv (s : State) (h : s.Inv) (ha : s.estopInput = true) :
    (State.estopReleased s).Inv := by
  have hl := h.estop.mp ha
  unfold State.estopReleased; dsimp only
  refine State.missedHolds_inv _ (State.pressTest_inv _ ?_)
  unfold State.enter; dsimp only
  rw [if_neg (by simp [State.setSeq, hl])]
  refine State.standReady_inv _ ?_
  simp only [LineState.entryFlag, State.raise?]
  refine State.raise_inv _ _ ?_
  exact { h with estop := by simp [State.setSeq, Seq.enterLine] }

@[simp] theorem State.paceExpires_inv (s : State) (h : s.Inv) :
    (State.paceExpires s).Inv := by
  unfold State.paceExpires; split <;> simp (maxDischargeDepth := 9) [apply_ite State.Inv, *]

@[simp] theorem State.feedStepDone_inv (i : Fin 6) (len : Nat) (s : State) (h : s.Inv) :
    (State.feedStepDone i len s).Inv := by
  have hf := Six.all_get h.carries i
  unfold State.feedStepDone; dsimp only; split
  · exact State.setDrive_inv _ _ _ (setFmu_inv h hf)
  · exact State.setDrive_inv _ _ _ (setFmu_inv h hf)

@[simp] theorem State.feedEndTest_inv (s : State) (h : s.Inv) :
    (State.feedEndTest s).Inv := by
  unfold State.feedEndTest; (repeat' split) <;> simp (maxDischargeDepth := 9) [*]

@[simp] theorem State.feedIsDone_inv (i : Fin 6) (s : State) (h : s.Inv) :
    (State.feedIsDone i s).Inv := by
  unfold State.feedIsDone; dsimp only; split <;> simp (maxDischargeDepth := 9) [*]

@[simp] theorem State.driveTimeout_inv (i : Fin 6) (p : Drive → Bool) (c : FaultCause) (s : State) (h : s.Inv) :
    (State.driveTimeout i p c s).Inv := by
  simp (maxDischargeDepth := 9) [State.driveTimeout, apply_ite State.Inv, *]

@[simp] theorem State.strokeEndTest_inv (s : State) (h : s.Inv) :
    (State.strokeEndTest s).Inv := by
  simp (maxDischargeDepth := 9) [State.strokeEndTest, apply_ite State.Inv, *]

@[simp] theorem State.strokeIsDone_inv (i : Fin 6) (s : State) (h : s.Inv) :
    (State.strokeIsDone i s).Inv := by
  simp (maxDischargeDepth := 9) [State.strokeIsDone, apply_ite State.Inv, *]

@[simp] theorem State.holdSample_inv (i : Fin 6) (v : Int) (s : State) (h : s.Inv) :
    (State.holdSample i v s).Inv := by
  exact setFmu_inv h (Six.all_get h.carries i)

@[simp] theorem State.offend_inv (i : Fin 6) (s : State) (h : s.Inv) :
    (State.offend i s).Inv := by
  simp (maxDischargeDepth := 9) [State.offend, apply_ite State.Inv, *]

@[simp] theorem State.tensionArrives_inv (i : Fin 6) (v : Int) (s : State) (h : s.Inv) :
    (State.tensionArrives i v s).Inv := by
  simp (maxDischargeDepth := 9) [State.tensionArrives, apply_ite State.Inv, *]

@[simp] theorem State.withdrawIsDone_inv (i : Fin 6) (s : State) (h : s.Inv) :
    (State.withdrawIsDone i s).Inv := by
  simp (maxDischargeDepth := 9) [State.withdrawIsDone, apply_ite State.Inv, *]

@[simp] theorem State.moveDone_inv (i : Fin 6) (st : SegState) (s : State) (h : s.Inv) :
    (State.moveDone i st s).Inv := by
  simp (maxDischargeDepth := 9) [State.moveDone, apply_ite State.Inv, *]

@[simp] theorem State.homeIsDone_inv (i : Fin 6) (s : State) (h : s.Inv) :
    (State.homeIsDone i s).Inv := by
  unfold State.homeIsDone; split
  · exact State.reevaluateSince_inv _ _ (State.moveDone_inv _ _ _ h)
  · exact h

@[simp] theorem State.parkIsDone_inv (i : Fin 6) (s : State) (h : s.Inv) :
    (State.parkIsDone i s).Inv := by
  unfold State.parkIsDone; split
  · exact State.reevaluateSince_inv _ _ (State.moveDone_inv _ _ _ h)
  · exact h

@[simp] theorem State.readSupply_inv (v : Int) (s : State) (h : s.Inv) :
    (State.readSupply v s).Inv := by
  simp (maxDischargeDepth := 9) [State.readSupply, *]

@[simp] theorem State.loseMeter_inv (s : State) (h : s.Inv) :
    (State.loseMeter s).Inv := by
  simp (maxDischargeDepth := 9) [State.loseMeter, apply_ite State.Inv, *]

@[simp] theorem State.supplySilent_inv (s : State) (h : s.Inv) :
    (State.supplySilent s).Inv := by
  simp (maxDischargeDepth := 9) [State.supplySilent, apply_ite State.Inv, *]

@[simp] theorem State.spendTail_inv (s : State) (h : s.Inv) :
    (State.spendTail s).Inv := by
  exact spend_inv h _ rfl

@[simp] theorem State.enterSlotted_inv (s : State) (h : s.Inv) :
    (State.enterSlotted s).Inv := by
  simp (maxDischargeDepth := 9) [State.enterSlotted, *]

@[simp] theorem State.sealDone_inv (s : State) (h : s.Inv) :
    (State.sealDone s).Inv := by
  simp (maxDischargeDepth := 9) [State.sealDone, *]

@[simp] theorem State.acceptEdge_inv (s : State) (h : s.Inv) :
    (State.acceptEdge s).Inv := by
  simp (maxDischargeDepth := 9) [State.acceptEdge, apply_ite State.Inv, *]

@[simp] theorem State.debounced_inv (s : State) (h : s.Inv) :
    (State.debounced s).Inv := by
  unfold State.debounced; split <;> simp (maxDischargeDepth := 9) [apply_ite State.Inv, *]

@[simp] theorem State.binLevel_inv (full : Bool) (s : State) (h : s.Inv) :
    (State.binLevel full s).Inv := by
  unfold State.binLevel; split
  · exact h
  · have e : State.Inv { s with outlets := { s.outlets with binFull := full } } :=
      { h with
        credits := ⟨by intro n; have := h.credits.reserved n; cases n <;> exact this, by
          intro n; have := h.credits.room n; cases n <;> exact this⟩
        exits := ⟨h.exits.length, h.exits.next, h.exits.numbers⟩ }
    dsimp only; split <;> simp [e]

@[simp] theorem State.tick_inv (s : State) (h : s.Inv) :
    (State.tick s).Inv := by
  exact setLink_inv (s := { s with clock := s.clock + 1, steam := s.steam.tick }) { h with } (service_queue h.queue)


end Sys2Proof.Machine
end

