-- ==== Sys2Proof/Laws/State.lean ====
section
/-! SUPPORT. One law for each field and each update of State: what the update leaves and what it writes. -/

namespace Sys2Proof.Machine

/-! ## State.setSeq -/

@[simp] theorem setSeq_pending (f : Seq → Seq) (s : State) : (s.setSeq f).pending = s.pending := rfl
@[simp] theorem setSeq_freeIndex (f : Seq → Seq) (s : State) : (s.setSeq f).freeIndex = s.freeIndex := rfl
@[simp] theorem setSeq_clock (f : Seq → Seq) (s : State) : (s.setSeq f).clock = s.clock := rfl
@[simp] theorem setSeq_web (f : Seq → Seq) (s : State) : (s.setSeq f).web = s.web := rfl
@[simp] theorem setSeq_conv (f : Seq → Seq) (s : State) : (s.setSeq f).conv = s.conv := rfl
@[simp] theorem setSeq_geometry (f : Seq → Seq) (s : State) : (s.setSeq f).geometry = s.geometry := rfl
@[simp] theorem setSeq_classes (f : Seq → Seq) (s : State) : (s.setSeq f).classes = s.classes := rfl
@[simp] theorem setSeq_patterns (f : Seq → Seq) (s : State) : (s.setSeq f).patterns = s.patterns := rfl
@[simp] theorem setSeq_orders (f : Seq → Seq) (s : State) : (s.setSeq f).orders = s.orders := rfl
@[simp] theorem setSeq_nextPanel (f : Seq → Seq) (s : State) : (s.setSeq f).nextPanel = s.nextPanel := rfl
@[simp] theorem setSeq_track (f : Seq → Seq) (s : State) : (s.setSeq f).track = s.track := rfl
@[simp] theorem setSeq_seq (f : Seq → Seq) (s : State) : (s.setSeq f).seq = f s.seq := rfl
@[simp] theorem setSeq_segs (f : Seq → Seq) (s : State) : (s.setSeq f).segs = s.segs := rfl
@[simp] theorem setSeq_fmu (f : Seq → Seq) (s : State) : (s.setSeq f).fmu = s.fmu := rfl
@[simp] theorem setSeq_rcc (f : Seq → Seq) (s : State) : (s.setSeq f).rcc = s.rcc := rfl
@[simp] theorem setSeq_zones (f : Seq → Seq) (s : State) : (s.setSeq f).zones = s.zones := rfl
@[simp] theorem setSeq_steam (f : Seq → Seq) (s : State) : (s.setSeq f).steam = s.steam := rfl
@[simp] theorem setSeq_verify (f : Seq → Seq) (s : State) : (s.setSeq f).verify = s.verify := rfl
@[simp] theorem setSeq_outlets (f : Seq → Seq) (s : State) : (s.setSeq f).outlets = s.outlets := rfl
@[simp] theorem setSeq_link (f : Seq → Seq) (s : State) : (s.setSeq f).link = s.link := rfl
@[simp] theorem setSeq_estopInput (f : Seq → Seq) (s : State) : (s.setSeq f).estopInput = s.estopInput := rfl

/-! ## State.setRcc -/

@[simp] theorem setRcc_pending (f : RollChange → RollChange) (s : State) : (s.setRcc f).pending = s.pending := rfl
@[simp] theorem setRcc_freeIndex (f : RollChange → RollChange) (s : State) :
    (s.setRcc f).freeIndex = s.freeIndex := rfl
@[simp] theorem setRcc_clock (f : RollChange → RollChange) (s : State) : (s.setRcc f).clock = s.clock := rfl
@[simp] theorem setRcc_web (f : RollChange → RollChange) (s : State) : (s.setRcc f).web = s.web := rfl
@[simp] theorem setRcc_conv (f : RollChange → RollChange) (s : State) : (s.setRcc f).conv = s.conv := rfl
@[simp] theorem setRcc_geometry (f : RollChange → RollChange) (s : State) : (s.setRcc f).geometry = s.geometry := rfl
@[simp] theorem setRcc_classes (f : RollChange → RollChange) (s : State) : (s.setRcc f).classes = s.classes := rfl
@[simp] theorem setRcc_patterns (f : RollChange → RollChange) (s : State) : (s.setRcc f).patterns = s.patterns := rfl
@[simp] theorem setRcc_orders (f : RollChange → RollChange) (s : State) : (s.setRcc f).orders = s.orders := rfl
@[simp] theorem setRcc_nextPanel (f : RollChange → RollChange) (s : State) :
    (s.setRcc f).nextPanel = s.nextPanel := rfl
@[simp] theorem setRcc_track (f : RollChange → RollChange) (s : State) : (s.setRcc f).track = s.track := rfl
@[simp] theorem setRcc_seq (f : RollChange → RollChange) (s : State) : (s.setRcc f).seq = s.seq := rfl
@[simp] theorem setRcc_segs (f : RollChange → RollChange) (s : State) : (s.setRcc f).segs = s.segs := rfl
@[simp] theorem setRcc_fmu (f : RollChange → RollChange) (s : State) : (s.setRcc f).fmu = s.fmu := rfl
@[simp] theorem setRcc_rcc (f : RollChange → RollChange) (s : State) : (s.setRcc f).rcc = f s.rcc := rfl
@[simp] theorem setRcc_zones (f : RollChange → RollChange) (s : State) : (s.setRcc f).zones = s.zones := rfl
@[simp] theorem setRcc_steam (f : RollChange → RollChange) (s : State) : (s.setRcc f).steam = s.steam := rfl
@[simp] theorem setRcc_verify (f : RollChange → RollChange) (s : State) : (s.setRcc f).verify = s.verify := rfl
@[simp] theorem setRcc_outlets (f : RollChange → RollChange) (s : State) : (s.setRcc f).outlets = s.outlets := rfl
@[simp] theorem setRcc_link (f : RollChange → RollChange) (s : State) : (s.setRcc f).link = s.link := rfl
@[simp] theorem setRcc_estopInput (f : RollChange → RollChange) (s : State) :
    (s.setRcc f).estopInput = s.estopInput := rfl

/-! ## State.setLink -/

@[simp] theorem setLink_pending (f : Link → Link) (s : State) : (s.setLink f).pending = s.pending := rfl
@[simp] theorem setLink_freeIndex (f : Link → Link) (s : State) : (s.setLink f).freeIndex = s.freeIndex := rfl
@[simp] theorem setLink_clock (f : Link → Link) (s : State) : (s.setLink f).clock = s.clock := rfl
@[simp] theorem setLink_web (f : Link → Link) (s : State) : (s.setLink f).web = s.web := rfl
@[simp] theorem setLink_conv (f : Link → Link) (s : State) : (s.setLink f).conv = s.conv := rfl
@[simp] theorem setLink_geometry (f : Link → Link) (s : State) : (s.setLink f).geometry = s.geometry := rfl
@[simp] theorem setLink_classes (f : Link → Link) (s : State) : (s.setLink f).classes = s.classes := rfl
@[simp] theorem setLink_patterns (f : Link → Link) (s : State) : (s.setLink f).patterns = s.patterns := rfl
@[simp] theorem setLink_orders (f : Link → Link) (s : State) : (s.setLink f).orders = s.orders := rfl
@[simp] theorem setLink_nextPanel (f : Link → Link) (s : State) : (s.setLink f).nextPanel = s.nextPanel := rfl
@[simp] theorem setLink_track (f : Link → Link) (s : State) : (s.setLink f).track = s.track := rfl
@[simp] theorem setLink_seq (f : Link → Link) (s : State) : (s.setLink f).seq = s.seq := rfl
@[simp] theorem setLink_segs (f : Link → Link) (s : State) : (s.setLink f).segs = s.segs := rfl
@[simp] theorem setLink_fmu (f : Link → Link) (s : State) : (s.setLink f).fmu = s.fmu := rfl
@[simp] theorem setLink_rcc (f : Link → Link) (s : State) : (s.setLink f).rcc = s.rcc := rfl
@[simp] theorem setLink_zones (f : Link → Link) (s : State) : (s.setLink f).zones = s.zones := rfl
@[simp] theorem setLink_steam (f : Link → Link) (s : State) : (s.setLink f).steam = s.steam := rfl
@[simp] theorem setLink_verify (f : Link → Link) (s : State) : (s.setLink f).verify = s.verify := rfl
@[simp] theorem setLink_outlets (f : Link → Link) (s : State) : (s.setLink f).outlets = s.outlets := rfl
@[simp] theorem setLink_link (f : Link → Link) (s : State) : (s.setLink f).link = f s.link := rfl
@[simp] theorem setLink_estopInput (f : Link → Link) (s : State) : (s.setLink f).estopInput = s.estopInput := rfl

/-! ## State.setSteam -/

@[simp] theorem setSteam_pending (f : Steam → Steam) (s : State) : (s.setSteam f).pending = s.pending := rfl
@[simp] theorem setSteam_freeIndex (f : Steam → Steam) (s : State) : (s.setSteam f).freeIndex = s.freeIndex := rfl
@[simp] theorem setSteam_clock (f : Steam → Steam) (s : State) : (s.setSteam f).clock = s.clock := rfl
@[simp] theorem setSteam_web (f : Steam → Steam) (s : State) : (s.setSteam f).web = s.web := rfl
@[simp] theorem setSteam_conv (f : Steam → Steam) (s : State) : (s.setSteam f).conv = s.conv := rfl
@[simp] theorem setSteam_geometry (f : Steam → Steam) (s : State) : (s.setSteam f).geometry = s.geometry := rfl
@[simp] theorem setSteam_classes (f : Steam → Steam) (s : State) : (s.setSteam f).classes = s.classes := rfl
@[simp] theorem setSteam_patterns (f : Steam → Steam) (s : State) : (s.setSteam f).patterns = s.patterns := rfl
@[simp] theorem setSteam_orders (f : Steam → Steam) (s : State) : (s.setSteam f).orders = s.orders := rfl
@[simp] theorem setSteam_nextPanel (f : Steam → Steam) (s : State) : (s.setSteam f).nextPanel = s.nextPanel := rfl
@[simp] theorem setSteam_track (f : Steam → Steam) (s : State) : (s.setSteam f).track = s.track := rfl
@[simp] theorem setSteam_seq (f : Steam → Steam) (s : State) : (s.setSteam f).seq = s.seq := rfl
@[simp] theorem setSteam_segs (f : Steam → Steam) (s : State) : (s.setSteam f).segs = s.segs := rfl
@[simp] theorem setSteam_fmu (f : Steam → Steam) (s : State) : (s.setSteam f).fmu = s.fmu := rfl
@[simp] theorem setSteam_rcc (f : Steam → Steam) (s : State) : (s.setSteam f).rcc = s.rcc := rfl
@[simp] theorem setSteam_zones (f : Steam → Steam) (s : State) : (s.setSteam f).zones = s.zones := rfl
@[simp] theorem setSteam_steam (f : Steam → Steam) (s : State) : (s.setSteam f).steam = f s.steam := rfl
@[simp] theorem setSteam_verify (f : Steam → Steam) (s : State) : (s.setSteam f).verify = s.verify := rfl
@[simp] theorem setSteam_outlets (f : Steam → Steam) (s : State) : (s.setSteam f).outlets = s.outlets := rfl
@[simp] theorem setSteam_link (f : Steam → Steam) (s : State) : (s.setSteam f).link = s.link := rfl
@[simp] theorem setSteam_estopInput (f : Steam → Steam) (s : State) : (s.setSteam f).estopInput = s.estopInput := rfl

/-! ## State.setSeg -/

@[simp] theorem setSeg_pending (i : Fin 6) (g : Segment) (s : State) : (s.setSeg i g).pending = s.pending := rfl
@[simp] theorem setSeg_freeIndex (i : Fin 6) (g : Segment) (s : State) : (s.setSeg i g).freeIndex = s.freeIndex := rfl
@[simp] theorem setSeg_clock (i : Fin 6) (g : Segment) (s : State) : (s.setSeg i g).clock = s.clock := rfl
@[simp] theorem setSeg_web (i : Fin 6) (g : Segment) (s : State) : (s.setSeg i g).web = s.web := rfl
@[simp] theorem setSeg_conv (i : Fin 6) (g : Segment) (s : State) : (s.setSeg i g).conv = s.conv := rfl
@[simp] theorem setSeg_geometry (i : Fin 6) (g : Segment) (s : State) : (s.setSeg i g).geometry = s.geometry := rfl
@[simp] theorem setSeg_classes (i : Fin 6) (g : Segment) (s : State) : (s.setSeg i g).classes = s.classes := rfl
@[simp] theorem setSeg_patterns (i : Fin 6) (g : Segment) (s : State) : (s.setSeg i g).patterns = s.patterns := rfl
@[simp] theorem setSeg_orders (i : Fin 6) (g : Segment) (s : State) : (s.setSeg i g).orders = s.orders := rfl
@[simp] theorem setSeg_nextPanel (i : Fin 6) (g : Segment) (s : State) : (s.setSeg i g).nextPanel = s.nextPanel := rfl
@[simp] theorem setSeg_track (i : Fin 6) (g : Segment) (s : State) : (s.setSeg i g).track = s.track := rfl
@[simp] theorem setSeg_seq (i : Fin 6) (g : Segment) (s : State) : (s.setSeg i g).seq = s.seq := rfl
@[simp] theorem setSeg_segs (i : Fin 6) (g : Segment) (s : State) : (s.setSeg i g).segs = s.segs.set i g := rfl
@[simp] theorem setSeg_fmu (i : Fin 6) (g : Segment) (s : State) : (s.setSeg i g).fmu = s.fmu := rfl
@[simp] theorem setSeg_rcc (i : Fin 6) (g : Segment) (s : State) : (s.setSeg i g).rcc = s.rcc := rfl
@[simp] theorem setSeg_zones (i : Fin 6) (g : Segment) (s : State) : (s.setSeg i g).zones = s.zones := rfl
@[simp] theorem setSeg_steam (i : Fin 6) (g : Segment) (s : State) : (s.setSeg i g).steam = s.steam := rfl
@[simp] theorem setSeg_verify (i : Fin 6) (g : Segment) (s : State) : (s.setSeg i g).verify = s.verify := rfl
@[simp] theorem setSeg_outlets (i : Fin 6) (g : Segment) (s : State) : (s.setSeg i g).outlets = s.outlets := rfl
@[simp] theorem setSeg_link (i : Fin 6) (g : Segment) (s : State) : (s.setSeg i g).link = s.link := rfl
@[simp] theorem setSeg_estopInput (i : Fin 6) (g : Segment) (s : State) :
    (s.setSeg i g).estopInput = s.estopInput := rfl

/-! ## State.setFmu -/

@[simp] theorem setFmu_pending (i : Fin 6) (f : FeedSeg) (s : State) : (s.setFmu i f).pending = s.pending := rfl
@[simp] theorem setFmu_freeIndex (i : Fin 6) (f : FeedSeg) (s : State) : (s.setFmu i f).freeIndex = s.freeIndex := rfl
@[simp] theorem setFmu_clock (i : Fin 6) (f : FeedSeg) (s : State) : (s.setFmu i f).clock = s.clock := rfl
@[simp] theorem setFmu_web (i : Fin 6) (f : FeedSeg) (s : State) : (s.setFmu i f).web = s.web := rfl
@[simp] theorem setFmu_conv (i : Fin 6) (f : FeedSeg) (s : State) : (s.setFmu i f).conv = s.conv := rfl
@[simp] theorem setFmu_geometry (i : Fin 6) (f : FeedSeg) (s : State) : (s.setFmu i f).geometry = s.geometry := rfl
@[simp] theorem setFmu_classes (i : Fin 6) (f : FeedSeg) (s : State) : (s.setFmu i f).classes = s.classes := rfl
@[simp] theorem setFmu_patterns (i : Fin 6) (f : FeedSeg) (s : State) : (s.setFmu i f).patterns = s.patterns := rfl
@[simp] theorem setFmu_orders (i : Fin 6) (f : FeedSeg) (s : State) : (s.setFmu i f).orders = s.orders := rfl
@[simp] theorem setFmu_nextPanel (i : Fin 6) (f : FeedSeg) (s : State) : (s.setFmu i f).nextPanel = s.nextPanel := rfl
@[simp] theorem setFmu_track (i : Fin 6) (f : FeedSeg) (s : State) : (s.setFmu i f).track = s.track := rfl
@[simp] theorem setFmu_seq (i : Fin 6) (f : FeedSeg) (s : State) : (s.setFmu i f).seq = s.seq := rfl
@[simp] theorem setFmu_segs (i : Fin 6) (f : FeedSeg) (s : State) : (s.setFmu i f).segs = s.segs := rfl
@[simp] theorem setFmu_fmu (i : Fin 6) (f : FeedSeg) (s : State) : (s.setFmu i f).fmu = s.fmu.set i f := rfl
@[simp] theorem setFmu_rcc (i : Fin 6) (f : FeedSeg) (s : State) : (s.setFmu i f).rcc = s.rcc := rfl
@[simp] theorem setFmu_zones (i : Fin 6) (f : FeedSeg) (s : State) : (s.setFmu i f).zones = s.zones := rfl
@[simp] theorem setFmu_steam (i : Fin 6) (f : FeedSeg) (s : State) : (s.setFmu i f).steam = s.steam := rfl
@[simp] theorem setFmu_verify (i : Fin 6) (f : FeedSeg) (s : State) : (s.setFmu i f).verify = s.verify := rfl
@[simp] theorem setFmu_outlets (i : Fin 6) (f : FeedSeg) (s : State) : (s.setFmu i f).outlets = s.outlets := rfl
@[simp] theorem setFmu_link (i : Fin 6) (f : FeedSeg) (s : State) : (s.setFmu i f).link = s.link := rfl
@[simp] theorem setFmu_estopInput (i : Fin 6) (f : FeedSeg) (s : State) :
    (s.setFmu i f).estopInput = s.estopInput := rfl

/-! ## State.setZone -/

@[simp] theorem setZone_pending (z : Fin 4) (x : Zone) (s : State) : (s.setZone z x).pending = s.pending := rfl
@[simp] theorem setZone_freeIndex (z : Fin 4) (x : Zone) (s : State) : (s.setZone z x).freeIndex = s.freeIndex := rfl
@[simp] theorem setZone_clock (z : Fin 4) (x : Zone) (s : State) : (s.setZone z x).clock = s.clock := rfl
@[simp] theorem setZone_web (z : Fin 4) (x : Zone) (s : State) : (s.setZone z x).web = s.web := rfl
@[simp] theorem setZone_conv (z : Fin 4) (x : Zone) (s : State) : (s.setZone z x).conv = s.conv := rfl
@[simp] theorem setZone_geometry (z : Fin 4) (x : Zone) (s : State) : (s.setZone z x).geometry = s.geometry := rfl
@[simp] theorem setZone_classes (z : Fin 4) (x : Zone) (s : State) : (s.setZone z x).classes = s.classes := rfl
@[simp] theorem setZone_patterns (z : Fin 4) (x : Zone) (s : State) : (s.setZone z x).patterns = s.patterns := rfl
@[simp] theorem setZone_orders (z : Fin 4) (x : Zone) (s : State) : (s.setZone z x).orders = s.orders := rfl
@[simp] theorem setZone_nextPanel (z : Fin 4) (x : Zone) (s : State) : (s.setZone z x).nextPanel = s.nextPanel := rfl
@[simp] theorem setZone_track (z : Fin 4) (x : Zone) (s : State) : (s.setZone z x).track = s.track := rfl
@[simp] theorem setZone_seq (z : Fin 4) (x : Zone) (s : State) : (s.setZone z x).seq = s.seq := rfl
@[simp] theorem setZone_segs (z : Fin 4) (x : Zone) (s : State) : (s.setZone z x).segs = s.segs := rfl
@[simp] theorem setZone_fmu (z : Fin 4) (x : Zone) (s : State) : (s.setZone z x).fmu = s.fmu := rfl
@[simp] theorem setZone_rcc (z : Fin 4) (x : Zone) (s : State) : (s.setZone z x).rcc = s.rcc := rfl
@[simp] theorem setZone_zones (z : Fin 4) (x : Zone) (s : State) : (s.setZone z x).zones = s.zones.set z x := rfl
@[simp] theorem setZone_steam (z : Fin 4) (x : Zone) (s : State) : (s.setZone z x).steam = s.steam := rfl
@[simp] theorem setZone_verify (z : Fin 4) (x : Zone) (s : State) : (s.setZone z x).verify = s.verify := rfl
@[simp] theorem setZone_outlets (z : Fin 4) (x : Zone) (s : State) : (s.setZone z x).outlets = s.outlets := rfl
@[simp] theorem setZone_link (z : Fin 4) (x : Zone) (s : State) : (s.setZone z x).link = s.link := rfl
@[simp] theorem setZone_estopInput (z : Fin 4) (x : Zone) (s : State) :
    (s.setZone z x).estopInput = s.estopInput := rfl

/-! ## State.setDrive -/

@[simp] theorem setDrive_pending (i : Fin 6) (d : Drive) (s : State) : (s.setDrive i d).pending = s.pending := rfl
@[simp] theorem setDrive_freeIndex (i : Fin 6) (d : Drive) (s : State) :
    (s.setDrive i d).freeIndex = s.freeIndex := rfl
@[simp] theorem setDrive_clock (i : Fin 6) (d : Drive) (s : State) : (s.setDrive i d).clock = s.clock := rfl
@[simp] theorem setDrive_web (i : Fin 6) (d : Drive) (s : State) : (s.setDrive i d).web = s.web := rfl
@[simp] theorem setDrive_conv (i : Fin 6) (d : Drive) (s : State) : (s.setDrive i d).conv = s.conv := rfl
@[simp] theorem setDrive_geometry (i : Fin 6) (d : Drive) (s : State) : (s.setDrive i d).geometry = s.geometry := rfl
@[simp] theorem setDrive_classes (i : Fin 6) (d : Drive) (s : State) : (s.setDrive i d).classes = s.classes := rfl
@[simp] theorem setDrive_patterns (i : Fin 6) (d : Drive) (s : State) : (s.setDrive i d).patterns = s.patterns := rfl
@[simp] theorem setDrive_orders (i : Fin 6) (d : Drive) (s : State) : (s.setDrive i d).orders = s.orders := rfl
@[simp] theorem setDrive_nextPanel (i : Fin 6) (d : Drive) (s : State) :
    (s.setDrive i d).nextPanel = s.nextPanel := rfl
@[simp] theorem setDrive_track (i : Fin 6) (d : Drive) (s : State) : (s.setDrive i d).track = s.track := rfl
@[simp] theorem setDrive_seq (i : Fin 6) (d : Drive) (s : State) : (s.setDrive i d).seq = s.seq := rfl
@[simp] theorem setDrive_segs (i : Fin 6) (d : Drive) (s : State) :
    (s.setDrive i d).segs = s.segs.set i { s.segs.get i with drive := d } := rfl
@[simp] theorem setDrive_fmu (i : Fin 6) (d : Drive) (s : State) : (s.setDrive i d).fmu = s.fmu := rfl
@[simp] theorem setDrive_rcc (i : Fin 6) (d : Drive) (s : State) : (s.setDrive i d).rcc = s.rcc := rfl
@[simp] theorem setDrive_zones (i : Fin 6) (d : Drive) (s : State) : (s.setDrive i d).zones = s.zones := rfl
@[simp] theorem setDrive_steam (i : Fin 6) (d : Drive) (s : State) : (s.setDrive i d).steam = s.steam := rfl
@[simp] theorem setDrive_verify (i : Fin 6) (d : Drive) (s : State) : (s.setDrive i d).verify = s.verify := rfl
@[simp] theorem setDrive_outlets (i : Fin 6) (d : Drive) (s : State) : (s.setDrive i d).outlets = s.outlets := rfl
@[simp] theorem setDrive_link (i : Fin 6) (d : Drive) (s : State) : (s.setDrive i d).link = s.link := rfl
@[simp] theorem setDrive_estopInput (i : Fin 6) (d : Drive) (s : State) :
    (s.setDrive i d).estopInput = s.estopInput := rfl

/-! ## State.raise -/

@[simp] theorem raise_pending (f : Flag) (s : State) : (s.raise f).pending = s.pending := rfl
@[simp] theorem raise_freeIndex (f : Flag) (s : State) : (s.raise f).freeIndex = s.freeIndex := rfl
@[simp] theorem raise_clock (f : Flag) (s : State) : (s.raise f).clock = s.clock := rfl
@[simp] theorem raise_web (f : Flag) (s : State) : (s.raise f).web = s.web := rfl
@[simp] theorem raise_conv (f : Flag) (s : State) : (s.raise f).conv = s.conv := rfl
@[simp] theorem raise_geometry (f : Flag) (s : State) : (s.raise f).geometry = s.geometry := rfl
@[simp] theorem raise_classes (f : Flag) (s : State) : (s.raise f).classes = s.classes := rfl
@[simp] theorem raise_patterns (f : Flag) (s : State) : (s.raise f).patterns = s.patterns := rfl
@[simp] theorem raise_orders (f : Flag) (s : State) : (s.raise f).orders = s.orders := rfl
@[simp] theorem raise_nextPanel (f : Flag) (s : State) : (s.raise f).nextPanel = s.nextPanel := rfl
@[simp] theorem raise_track (f : Flag) (s : State) : (s.raise f).track = s.track := rfl
@[simp] theorem raise_seq (f : Flag) (s : State) : (s.raise f).seq = s.seq := rfl
@[simp] theorem raise_segs (f : Flag) (s : State) : (s.raise f).segs = s.segs := rfl
@[simp] theorem raise_fmu (f : Flag) (s : State) : (s.raise f).fmu = s.fmu := rfl
@[simp] theorem raise_rcc (f : Flag) (s : State) : (s.raise f).rcc = s.rcc := rfl
@[simp] theorem raise_zones (f : Flag) (s : State) : (s.raise f).zones = s.zones := rfl
@[simp] theorem raise_steam (f : Flag) (s : State) : (s.raise f).steam = s.steam := rfl
@[simp] theorem raise_verify (f : Flag) (s : State) : (s.raise f).verify = s.verify := rfl
@[simp] theorem raise_outlets (f : Flag) (s : State) : (s.raise f).outlets = s.outlets := rfl
@[simp] theorem raise_link (f : Flag) (s : State) : (s.raise f).link = s.link.raise f.number := rfl
@[simp] theorem raise_estopInput (f : Flag) (s : State) : (s.raise f).estopInput = s.estopInput := rfl

/-! ## State.takeFree -/

@[simp] theorem takeFree_pending (s : State) : (s.takeFree).pending = s.pending := rfl
@[simp] theorem takeFree_freeIndex (s : State) : (s.takeFree).freeIndex = s.freeIndex + 1 := rfl
@[simp] theorem takeFree_clock (s : State) : (s.takeFree).clock = s.clock := rfl
@[simp] theorem takeFree_web (s : State) : (s.takeFree).web = s.web := rfl
@[simp] theorem takeFree_conv (s : State) : (s.takeFree).conv = s.conv := rfl
@[simp] theorem takeFree_geometry (s : State) : (s.takeFree).geometry = s.geometry := rfl
@[simp] theorem takeFree_classes (s : State) : (s.takeFree).classes = s.classes := rfl
@[simp] theorem takeFree_patterns (s : State) : (s.takeFree).patterns = s.patterns := rfl
@[simp] theorem takeFree_orders (s : State) : (s.takeFree).orders = s.orders := rfl
@[simp] theorem takeFree_nextPanel (s : State) : (s.takeFree).nextPanel = s.nextPanel := rfl
@[simp] theorem takeFree_track (s : State) : (s.takeFree).track = s.track := rfl
@[simp] theorem takeFree_seq (s : State) : (s.takeFree).seq = s.seq := rfl
@[simp] theorem takeFree_segs (s : State) : (s.takeFree).segs = s.segs := rfl
@[simp] theorem takeFree_fmu (s : State) : (s.takeFree).fmu = s.fmu := rfl
@[simp] theorem takeFree_rcc (s : State) : (s.takeFree).rcc = s.rcc := rfl
@[simp] theorem takeFree_zones (s : State) : (s.takeFree).zones = s.zones := rfl
@[simp] theorem takeFree_steam (s : State) : (s.takeFree).steam = s.steam := rfl
@[simp] theorem takeFree_verify (s : State) : (s.takeFree).verify = s.verify := rfl
@[simp] theorem takeFree_outlets (s : State) : (s.takeFree).outlets = s.outlets := rfl
@[simp] theorem takeFree_link (s : State) : (s.takeFree).link = s.link := rfl
@[simp] theorem takeFree_estopInput (s : State) : (s.takeFree).estopInput = s.estopInput := rfl

/-! ## State.mapForming -/

@[simp] theorem mapForming_pending (f : Panel → Panel) (s : State) : (s.mapForming f).pending = s.pending := rfl
@[simp] theorem mapForming_freeIndex (f : Panel → Panel) (s : State) : (s.mapForming f).freeIndex = s.freeIndex := rfl
@[simp] theorem mapForming_clock (f : Panel → Panel) (s : State) : (s.mapForming f).clock = s.clock := rfl
@[simp] theorem mapForming_web (f : Panel → Panel) (s : State) : (s.mapForming f).web = s.web := rfl
@[simp] theorem mapForming_conv (f : Panel → Panel) (s : State) : (s.mapForming f).conv = s.conv := rfl
@[simp] theorem mapForming_geometry (f : Panel → Panel) (s : State) : (s.mapForming f).geometry = s.geometry := rfl
@[simp] theorem mapForming_classes (f : Panel → Panel) (s : State) : (s.mapForming f).classes = s.classes := rfl
@[simp] theorem mapForming_patterns (f : Panel → Panel) (s : State) : (s.mapForming f).patterns = s.patterns := rfl
@[simp] theorem mapForming_orders (f : Panel → Panel) (s : State) : (s.mapForming f).orders = s.orders := rfl
@[simp] theorem mapForming_nextPanel (f : Panel → Panel) (s : State) : (s.mapForming f).nextPanel = s.nextPanel := rfl
@[simp] theorem mapForming_track (f : Panel → Panel) (s : State) :
    (s.mapForming f).track = s.track.map fun p => if p.forming then f p else p := rfl
@[simp] theorem mapForming_seq (f : Panel → Panel) (s : State) : (s.mapForming f).seq = s.seq := rfl
@[simp] theorem mapForming_segs (f : Panel → Panel) (s : State) : (s.mapForming f).segs = s.segs := rfl
@[simp] theorem mapForming_fmu (f : Panel → Panel) (s : State) : (s.mapForming f).fmu = s.fmu := rfl
@[simp] theorem mapForming_rcc (f : Panel → Panel) (s : State) : (s.mapForming f).rcc = s.rcc := rfl
@[simp] theorem mapForming_zones (f : Panel → Panel) (s : State) : (s.mapForming f).zones = s.zones := rfl
@[simp] theorem mapForming_steam (f : Panel → Panel) (s : State) : (s.mapForming f).steam = s.steam := rfl
@[simp] theorem mapForming_verify (f : Panel → Panel) (s : State) : (s.mapForming f).verify = s.verify := rfl
@[simp] theorem mapForming_outlets (f : Panel → Panel) (s : State) : (s.mapForming f).outlets = s.outlets := rfl
@[simp] theorem mapForming_link (f : Panel → Panel) (s : State) : (s.mapForming f).link = s.link := rfl
@[simp] theorem mapForming_estopInput (f : Panel → Panel) (s : State) :
    (s.mapForming f).estopInput = s.estopInput := rfl

/-! ## State.writePanel -/

@[simp] theorem writePanel_pending (n : Nat) (f : Panel → Panel) (s : State) :
    (s.writePanel n f).pending = s.pending := rfl
@[simp] theorem writePanel_freeIndex (n : Nat) (f : Panel → Panel) (s : State) :
    (s.writePanel n f).freeIndex = s.freeIndex := rfl
@[simp] theorem writePanel_clock (n : Nat) (f : Panel → Panel) (s : State) : (s.writePanel n f).clock = s.clock := rfl
@[simp] theorem writePanel_web (n : Nat) (f : Panel → Panel) (s : State) : (s.writePanel n f).web = s.web := rfl
@[simp] theorem writePanel_conv (n : Nat) (f : Panel → Panel) (s : State) : (s.writePanel n f).conv = s.conv := rfl
@[simp] theorem writePanel_geometry (n : Nat) (f : Panel → Panel) (s : State) :
    (s.writePanel n f).geometry = s.geometry := rfl
@[simp] theorem writePanel_classes (n : Nat) (f : Panel → Panel) (s : State) :
    (s.writePanel n f).classes = s.classes := rfl
@[simp] theorem writePanel_patterns (n : Nat) (f : Panel → Panel) (s : State) :
    (s.writePanel n f).patterns = s.patterns := rfl
@[simp] theorem writePanel_orders (n : Nat) (f : Panel → Panel) (s : State) :
    (s.writePanel n f).orders = s.orders := rfl
@[simp] theorem writePanel_nextPanel (n : Nat) (f : Panel → Panel) (s : State) :
    (s.writePanel n f).nextPanel = s.nextPanel := rfl
@[simp] theorem writePanel_track (n : Nat) (f : Panel → Panel) (s : State) :
    (s.writePanel n f).track = s.track.map fun p => if p.number = n then f p else p := rfl
@[simp] theorem writePanel_seq (n : Nat) (f : Panel → Panel) (s : State) : (s.writePanel n f).seq = s.seq := rfl
@[simp] theorem writePanel_segs (n : Nat) (f : Panel → Panel) (s : State) : (s.writePanel n f).segs = s.segs := rfl
@[simp] theorem writePanel_fmu (n : Nat) (f : Panel → Panel) (s : State) : (s.writePanel n f).fmu = s.fmu := rfl
@[simp] theorem writePanel_rcc (n : Nat) (f : Panel → Panel) (s : State) : (s.writePanel n f).rcc = s.rcc := rfl
@[simp] theorem writePanel_zones (n : Nat) (f : Panel → Panel) (s : State) : (s.writePanel n f).zones = s.zones := rfl
@[simp] theorem writePanel_steam (n : Nat) (f : Panel → Panel) (s : State) : (s.writePanel n f).steam = s.steam := rfl
@[simp] theorem writePanel_verify (n : Nat) (f : Panel → Panel) (s : State) :
    (s.writePanel n f).verify = s.verify := rfl
@[simp] theorem writePanel_outlets (n : Nat) (f : Panel → Panel) (s : State) :
    (s.writePanel n f).outlets = s.outlets := rfl
@[simp] theorem writePanel_link (n : Nat) (f : Panel → Panel) (s : State) : (s.writePanel n f).link = s.link := rfl
@[simp] theorem writePanel_estopInput (n : Nat) (f : Panel → Panel) (s : State) :
    (s.writePanel n f).estopInput = s.estopInput := rfl

/-! ## State.setRx -/

@[simp] theorem setRx_pending (r : Receiver) (s : State) : (s.setRx r).pending = s.pending := rfl
@[simp] theorem setRx_freeIndex (r : Receiver) (s : State) : (s.setRx r).freeIndex = s.freeIndex := rfl
@[simp] theorem setRx_clock (r : Receiver) (s : State) : (s.setRx r).clock = s.clock := rfl
@[simp] theorem setRx_web (r : Receiver) (s : State) : (s.setRx r).web = s.web := rfl
@[simp] theorem setRx_conv (r : Receiver) (s : State) : (s.setRx r).conv = s.conv := rfl
@[simp] theorem setRx_geometry (r : Receiver) (s : State) : (s.setRx r).geometry = s.geometry := rfl
@[simp] theorem setRx_classes (r : Receiver) (s : State) : (s.setRx r).classes = s.classes := rfl
@[simp] theorem setRx_patterns (r : Receiver) (s : State) : (s.setRx r).patterns = s.patterns := rfl
@[simp] theorem setRx_orders (r : Receiver) (s : State) : (s.setRx r).orders = s.orders := rfl
@[simp] theorem setRx_nextPanel (r : Receiver) (s : State) : (s.setRx r).nextPanel = s.nextPanel := rfl
@[simp] theorem setRx_track (r : Receiver) (s : State) : (s.setRx r).track = s.track := rfl
@[simp] theorem setRx_seq (r : Receiver) (s : State) : (s.setRx r).seq = s.seq := rfl
@[simp] theorem setRx_segs (r : Receiver) (s : State) : (s.setRx r).segs = s.segs := rfl
@[simp] theorem setRx_fmu (r : Receiver) (s : State) : (s.setRx r).fmu = s.fmu := rfl
@[simp] theorem setRx_rcc (r : Receiver) (s : State) : (s.setRx r).rcc = s.rcc := rfl
@[simp] theorem setRx_zones (r : Receiver) (s : State) : (s.setRx r).zones = s.zones := rfl
@[simp] theorem setRx_steam (r : Receiver) (s : State) : (s.setRx r).steam = s.steam := rfl
@[simp] theorem setRx_verify (r : Receiver) (s : State) : (s.setRx r).verify = s.verify := rfl
@[simp] theorem setRx_outlets (r : Receiver) (s : State) : (s.setRx r).outlets = s.outlets := rfl
@[simp] theorem setRx_link (r : Receiver) (s : State) : (s.setRx r).link = { s.link with rx := r } := rfl
@[simp] theorem setRx_estopInput (r : Receiver) (s : State) : (s.setRx r).estopInput = s.estopInput := rfl

/-! ## State.setPhase -/

@[simp] theorem setPhase_pending (ph : Phase) (s : State) : (s.setPhase ph).pending = s.pending := rfl
@[simp] theorem setPhase_freeIndex (ph : Phase) (s : State) : (s.setPhase ph).freeIndex = s.freeIndex := rfl
@[simp] theorem setPhase_clock (ph : Phase) (s : State) : (s.setPhase ph).clock = s.clock := rfl
@[simp] theorem setPhase_web (ph : Phase) (s : State) : (s.setPhase ph).web = s.web := rfl
@[simp] theorem setPhase_conv (ph : Phase) (s : State) : (s.setPhase ph).conv = s.conv := rfl
@[simp] theorem setPhase_geometry (ph : Phase) (s : State) : (s.setPhase ph).geometry = s.geometry := rfl
@[simp] theorem setPhase_classes (ph : Phase) (s : State) : (s.setPhase ph).classes = s.classes := rfl
@[simp] theorem setPhase_patterns (ph : Phase) (s : State) : (s.setPhase ph).patterns = s.patterns := rfl
@[simp] theorem setPhase_orders (ph : Phase) (s : State) : (s.setPhase ph).orders = s.orders := rfl
@[simp] theorem setPhase_nextPanel (ph : Phase) (s : State) : (s.setPhase ph).nextPanel = s.nextPanel := rfl
@[simp] theorem setPhase_track (ph : Phase) (s : State) : (s.setPhase ph).track = s.track := rfl
@[simp] theorem setPhase_seq (ph : Phase) (s : State) :
    (s.setPhase ph).seq = { s.seq with step := s.seq.step.map fun x => { x with phase := ph } } := rfl
@[simp] theorem setPhase_segs (ph : Phase) (s : State) : (s.setPhase ph).segs = s.segs := rfl
@[simp] theorem setPhase_fmu (ph : Phase) (s : State) : (s.setPhase ph).fmu = s.fmu := rfl
@[simp] theorem setPhase_rcc (ph : Phase) (s : State) : (s.setPhase ph).rcc = s.rcc := rfl
@[simp] theorem setPhase_zones (ph : Phase) (s : State) : (s.setPhase ph).zones = s.zones := rfl
@[simp] theorem setPhase_steam (ph : Phase) (s : State) : (s.setPhase ph).steam = s.steam := rfl
@[simp] theorem setPhase_verify (ph : Phase) (s : State) : (s.setPhase ph).verify = s.verify := rfl
@[simp] theorem setPhase_outlets (ph : Phase) (s : State) : (s.setPhase ph).outlets = s.outlets := rfl
@[simp] theorem setPhase_link (ph : Phase) (s : State) : (s.setPhase ph).link = s.link := rfl
@[simp] theorem setPhase_estopInput (ph : Phase) (s : State) : (s.setPhase ph).estopInput = s.estopInput := rfl

/-! ## The verifier's checkers -/

@[simp] theorem setChecker_verify (i : Fin 6) (k : Checker) (s : State) :
    (s.setChecker i k).verify = { s.verify with checkers := s.verify.checkers.set i k } := rfl
@[simp] theorem setChecker_pending (i : Fin 6) (k : Checker) (s : State) :
    (s.setChecker i k).pending = s.pending := rfl
@[simp] theorem setChecker_freeIndex (i : Fin 6) (k : Checker) (s : State) :
    (s.setChecker i k).freeIndex = s.freeIndex := rfl
@[simp] theorem setChecker_clock (i : Fin 6) (k : Checker) (s : State) : (s.setChecker i k).clock = s.clock := rfl
@[simp] theorem setChecker_web (i : Fin 6) (k : Checker) (s : State) : (s.setChecker i k).web = s.web := rfl
@[simp] theorem setChecker_conv (i : Fin 6) (k : Checker) (s : State) : (s.setChecker i k).conv = s.conv := rfl
@[simp] theorem setChecker_geometry (i : Fin 6) (k : Checker) (s : State) :
    (s.setChecker i k).geometry = s.geometry := rfl
@[simp] theorem setChecker_classes (i : Fin 6) (k : Checker) (s : State) :
    (s.setChecker i k).classes = s.classes := rfl
@[simp] theorem setChecker_patterns (i : Fin 6) (k : Checker) (s : State) :
    (s.setChecker i k).patterns = s.patterns := rfl
@[simp] theorem setChecker_orders (i : Fin 6) (k : Checker) (s : State) : (s.setChecker i k).orders = s.orders := rfl
@[simp] theorem setChecker_nextPanel (i : Fin 6) (k : Checker) (s : State) :
    (s.setChecker i k).nextPanel = s.nextPanel := rfl
@[simp] theorem setChecker_track (i : Fin 6) (k : Checker) (s : State) : (s.setChecker i k).track = s.track := rfl
@[simp] theorem setChecker_seq (i : Fin 6) (k : Checker) (s : State) : (s.setChecker i k).seq = s.seq := rfl
@[simp] theorem setChecker_segs (i : Fin 6) (k : Checker) (s : State) : (s.setChecker i k).segs = s.segs := rfl
@[simp] theorem setChecker_fmu (i : Fin 6) (k : Checker) (s : State) : (s.setChecker i k).fmu = s.fmu := rfl
@[simp] theorem setChecker_rcc (i : Fin 6) (k : Checker) (s : State) : (s.setChecker i k).rcc = s.rcc := rfl
@[simp] theorem setChecker_zones (i : Fin 6) (k : Checker) (s : State) : (s.setChecker i k).zones = s.zones := rfl
@[simp] theorem setChecker_steam (i : Fin 6) (k : Checker) (s : State) : (s.setChecker i k).steam = s.steam := rfl
@[simp] theorem setChecker_outlets (i : Fin 6) (k : Checker) (s : State) :
    (s.setChecker i k).outlets = s.outlets := rfl
@[simp] theorem setChecker_link (i : Fin 6) (k : Checker) (s : State) : (s.setChecker i k).link = s.link := rfl
@[simp] theorem setChecker_estopInput (i : Fin 6) (k : Checker) (s : State) :
    (s.setChecker i k).estopInput = s.estopInput := rfl

/-! ## A raised flag -/

/-- Raising a flag writes no mask. -/
@[simp] theorem link_raise_masks (n : Nat) (l : Link) : (l.raise n).masks = l.masks := by
  unfold Link.raise Link.joinNotice
  repeat' split
  all_goals rfl

/-- Raising a flag sets it and leaves the others (R194). -/
theorem link_raise_flags (n : Nat) (l : Link) : (l.raise n).flags = l.flags ||| flagBit n ∨
    (l.flags.getLsbD n = true ∧ l.raise n = l) := by
  unfold Link.raise Link.joinNotice
  repeat' split
  all_goals simp_all

/-- A raised flag takes at most one entry of the queue, and none of the last four (R191). -/
theorem link_raise_queue (n : Nat) (l : Link) :
    (l.raise n).queue = l.queue ∨ (l.queue.length < 28 ∧ (l.raise n).queue = l.queue ++ [.flagNotice]) := by
  unfold Link.raise Link.joinNotice
  repeat' split
  all_goals simp_all [Config.noticeCapacity]

end Sys2Proof.Machine
end

