-- ==== Sys2Proof/Laws/Orders.lean ====
section
/-! SUPPORT. The order queue through a panel start: its operations leave the orders, but for the head order's
panels-started count. -/

namespace Sys2Proof.Machine

theorem foldl_orders {α : Type} {f : State → α → State} (h : ∀ s a, (f s a).orders = s.orders) (l : List α)
    (s : State) : (l.foldl f s).orders = s.orders := by
  induction l generalizing s with
  | nil => rfl
  | cons a l ih => rw [List.foldl_cons, ih, h]

@[simp] theorem commandEngaged_orders (d : Fin 6 → Drive) (s : State) : (s.commandEngaged d).orders = s.orders := rfl
@[simp] theorem clearRetries_orders (s : State) : s.clearRetries.orders = s.orders := rfl
@[simp] theorem startCarries_orders (s : State) : s.startCarries.orders = s.orders := rfl

@[simp] theorem setSegState_orders (i : Fin 6) (st : SegState) (s : State) :
    (s.setSegState i st).orders = s.orders := by simp [State.setSegState, apply_ite State.orders]

@[simp] theorem setStatus_orders (i : Fin 6) (st : ConfigStatus) (s : State) :
    (s.setStatus i st).orders = s.orders := by simp [State.setStatus, apply_ite State.orders]

@[simp] theorem raise?_orders (f : Option Flag) (s : State) : (s.raise? f).orders = s.orders := by
  unfold State.raise?; split <;> simp

@[simp] theorem standReady_orders (s : State) : s.standReady.orders = s.orders :=
  foldl_orders (fun s i => by simp [apply_ite State.orders]) _ _

@[simp] theorem goActive_orders (s : State) : s.goActive.orders = s.orders :=
  foldl_orders (fun s i => by simp [apply_ite State.orders]) _ _

@[simp] theorem nowCopy_orders (i : Fin 6) (s : State) : (s.nowCopy i).orders = s.orders := by
  simp [State.nowCopy]

@[simp] theorem nowCopies_orders (s : State) : s.nowCopies.orders = s.orders :=
  foldl_orders (fun s i => by simp [apply_ite State.orders]) _ _

@[simp] theorem boundaryCopy_orders (i : Fin 6) (s : State) : (s.boundaryCopy i).orders = s.orders := by
  simp [State.boundaryCopy, apply_ite State.orders]

@[simp] theorem jointCopy_orders (refuse : Bool) (s : State) (i : Fin 6) :
    (State.jointCopy refuse s i).orders = s.orders := by simp [State.jointCopy, apply_ite State.orders]

@[simp] theorem boundaryCopies_orders (is : List (Fin 6)) (s : State) : (s.boundaryCopies is).orders = s.orders :=
  foldl_orders (fun s i => by simp) _ _

@[simp] theorem startFeeds_orders (isGap : Bool) (c : FabricClass) (figures : Fin 6 → StepFigures) (s : State) :
    (s.startFeeds isGap c figures).orders = s.orders :=
  foldl_orders (fun s i => by simp [apply_ite State.orders]) _ _

@[simp] theorem restartPace_orders (s : State) : s.restartPace.orders = s.orders := by simp [State.restartPace]

@[simp] theorem beginStep_orders (kind : StepKind) (advance cls : Nat)
    (figures : State → Fin 6 → StepFigures) (s : State) :
    (s.beginStep kind advance cls figures).orders = s.orders := by
  cases kind <;> simp [State.beginStep]

@[simp] theorem markClamped_orders (taper : Six Nat) (s : State) : (s.markClamped taper).orders = s.orders := by
  simp [State.markClamped, apply_ite State.orders]

@[simp] theorem nextStep_orders (s : State) : s.nextStep.orders = s.orders := by
  unfold State.nextStep
  repeat' split
  all_goals simp

@[simp] theorem enter_orders (l : LineState) (s : State) : (s.enter l).orders = s.orders := by
  unfold State.enter; split
  · rfl
  · cases l <;> simp

@[simp] theorem reserve_orders (n : Outlet) (s : State) : (s.reserve n).orders = s.orders := by
  simp [State.reserve, apply_ite State.orders]

@[simp] theorem firmSlot_orders (b : Nat) (s : State) : (s.firmSlot b).orders = s.orders := by simp [State.firmSlot]

@[simp] theorem waitWith_orders (b : Inhibits) (s : State) : (s.waitWith b).orders = s.orders := by
  simp [State.waitWith]

@[simp] theorem evalStandby_orders (s : State) : s.evalStandby.orders = s.orders := by
  simp [State.evalStandby, apply_ite State.orders]

@[simp] theorem fire_orders (s : State) : s.fire.orders = s.orders := by
  unfold State.fire; split <;> simp

@[simp] theorem pressTest_orders (s : State) : s.pressTest.orders = s.orders := by
  unfold State.pressTest; split <;> simp [apply_ite State.orders]

@[simp] theorem enterHeld_orders (s : State) : s.enterHeld.orders = s.orders := by simp [State.enterHeld]
@[simp] theorem enterIdle_orders (s : State) : s.enterIdle.orders = s.orders := by simp [State.enterIdle]

@[simp] theorem stopAtBoundary_orders (s : State) : s.stopAtBoundary.orders = s.orders := by
  simp [State.stopAtBoundary, apply_ite State.orders]

@[simp] theorem enterHolding_orders (s : State) : s.enterHolding.orders = s.orders := by
  unfold State.enterHolding; split <;> simp

@[simp] theorem addHold_orders (f : HoldSet → HoldSet) (s : State) : (s.addHold f).orders = s.orders := by
  unfold State.addHold; dsimp only; split <;> simp

@[simp] theorem fireTests_orders (s : State) : s.fireTests.orders = s.orders := by
  unfold State.fireTests
  repeat' split
  all_goals simp

/-- The tags of the orders in the queue, head first. -/
def State.orderTags (s : State) : List Nat := s.orders.map (·.tag)

theorem startAttempt_orderTags (s : State) : s.startAttempt.orderTags = s.orderTags := by
  unfold State.orderTags State.startAttempt
  dsimp only
  split
  · simp
  · split
    · rename_i ho _
      split
      · split
        · simp only [boundaryCopies_orders] at ho
          simp [State.startPanel, ho]
        · simp
      · simp
    · simp

theorem fireTestsAgain_orderTags (s : State) : s.fireTestsAgain.orderTags = s.orderTags := by
  unfold State.fireTestsAgain; dsimp only
  split
  · rw [startAttempt_orderTags]; simp [State.orderTags]
  · simp [State.orderTags]

/-- A panel start keeps the orders' tags. -/
theorem panelStart_orderTags (s : State) : s.panelStart.orderTags = s.orderTags := by
  rw [State.panelStart, fireTestsAgain_orderTags, startAttempt_orderTags]

/-- What `State.thenReevaluate` does after an event keeps the orders' tags. -/
theorem thenReevaluate_orderTags (before s : State) :
    (State.thenReevaluate before s).orderTags = s.orderTags := by
  unfold State.thenReevaluate; split
  · exact panelStart_orderTags s
  · rfl

end Sys2Proof.Machine
end

