-- ==== Sys2Proof/Laws/Request.lean ====
section
/-! SUPPORT. How a request command runs: once for an accepted frame, and once for each of the tests of R188
that stops it before its block. -/

namespace Sys2Proof.Machine

/-- R188: an accepted request runs its block's rule on the state with the request in process, and its reply is
queued. -/
theorem takeRequest_accepted {s : State} {kind tag : Byte} (h : Handler) (ha : s.Accepts tag) :
    (s.takeRequest kind tag h).finish =
      .next (State.replied kind tag (h s.processing).2.code (h s.processing).2.items (h s.processing).1) := by
  have hq : ¬ Config.queueCapacity ≤ s.link.queue.length := Nat.not_le.mpr ha.room
  simp [State.takeRequest, hq, ha.free, State.process, tagTested, ha.tagged, State.finish, State.replied,
    State.processing, State.setLink, replyEntry, Answer.body]

/-- R188 test 1: a frame that finds the transmit queue full is discarded with one more link error. -/
theorem takeRequest_overrun {s : State} {kind tag : Byte} (h : Handler) (hq : 32 ≤ s.link.queue.length) :
    (s.takeRequest kind tag h).finish = .next (s.setLink Link.countError).served := by
  simp [State.takeRequest, Config.queueCapacity, hq, State.finish, State.served, State.setLink]

/-- R188 test 2: while a request is processed another is answered BUSY. -/
theorem takeRequest_busy {s : State} {kind tag : Byte} (h : Handler) (hq : s.link.queue.length < 32)
    (hb : s.link.busy = true) :
    (s.takeRequest kind tag h).finish =
      .next (s.setLink (Link.pushReply (replyEntry kind tag (Answer.bare .busy) false))).served := by
  have hq' : ¬ Config.queueCapacity ≤ s.link.queue.length := Nat.not_le.mpr hq
  simp [State.takeRequest, hq', hb, State.finish, State.served, State.setLink]

/-- R188 test 3: TAG 0 is answered FORMAT. -/
theorem takeRequest_untagged {s : State} {kind : Byte} (h : Handler) (hq : s.link.queue.length < 32)
    (hb : s.link.busy = false) :
    (s.takeRequest kind 0#8 h).finish = .next (State.replied kind 0#8 .format [] s.processing) := by
  have hq' : ¬ Config.queueCapacity ≤ s.link.queue.length := Nat.not_le.mpr hq
  simp [State.takeRequest, hq', hb, State.process, tagTested, refuseWith, Answer.bare, State.finish,
    State.replied, State.processing, State.setLink, replyEntry, Answer.body]

/-- A request command is the request handed to its block as R188 gives. -/
theorem exec_request {i : Instr} {tag : Byte} {r : Request} (h : i.request? = some (tag, r)) (s : State) :
    exec i s = (s.takeRequest r.kind tag (handle r)).finish := by
  cases i <;> simp only [Instr.request?, Option.some.injEq, Prod.mk.injEq, reduceCtorEq] at h <;>
    obtain ⟨rfl, rfl⟩ := h <;> rfl

end Sys2Proof.Machine
end

