-- ==== Sys2Proof/Tests/Slice0.lean ====
section
/-! SUPPORT. Tests on fixed values: what the well-formedness checks refuse, the spec's own worked figures (each
names its table), one small step for the shapes most likely wrong, and a witness for each statement with
hypotheses: a state and operands that meet them together, at the ends of their ranges. -/

namespace Sys2Proof.Tests

open Sys2Proof.Machine

/-! ## Well-formedness: an ill-formed term for each check -/

/-- A class whose seven fields fit. -/
def cls : FabricClass := ⟨3000, 2400, 1500, 2400, 1, none, 100⟩

/-- The order of the worked example of 04, as ORDER-ADD carries it. -/
def orderBody : OrderBody := ⟨311, 7, 4, 1040, 2, 1, 0, 0, 0, 0, 100, false⟩

def spliceBody : SpliceBody := ⟨0, 600000, 10000, 100000, 60, 1, 0, 3, 200⟩

theorem test_wf_numbers_that_fit :
    Instr.wf (.patDefine 1#8 7 [.pleat 500 3 8000 4500 4500 true, .flat 200000]) = true
    ∧ Instr.wf (.classSet 1#8 4 (some cls)) = true ∧ Instr.wf (.orderAdd 1#8 orderBody) = true
    ∧ Instr.wf (.spliceSet 1#8 (some spliceBody)) = true ∧ Instr.wf .paceTimerExpiry = true := by decide

theorem test_wf_refuses_pattern :
    Instr.wf (.patDefine 1#8 256 []) = false
    ∧ Instr.wf (.patDefine 1#8 7 (List.replicate 256 (.flat 100))) = false
    ∧ Instr.wf (.patDefine 1#8 7 [.pleat 65536 0 200 0 0 false]) = false
    ∧ Instr.wf (.patDefine 1#8 7 [.pleat 1 256 200 0 0 false]) = false
    ∧ Instr.wf (.patDefine 1#8 7 [.pleat 1 0 65536 0 0 false]) = false
    ∧ Instr.wf (.patDefine 1#8 7 [.pleat 1 0 200 65536 0 false]) = false
    ∧ Instr.wf (.patDefine 1#8 7 [.pleat 1 0 200 0 65536 false]) = false
    ∧ Instr.wf (.patDefine 1#8 7 [.flat 4294967296]) = false
    ∧ Instr.wf (.patDrop 1#8 256) = false ∧ Instr.wf (.patRead 1#8 256) = false := by decide +kernel

/-- R186: a body of more than 1024 bytes fits no frame. -/
theorem test_wf_refuses_long_body :
    Instr.wf (.patDefine 1#8 7 (List.replicate 255 (.flat 100))) = false := by decide +kernel

theorem test_wf_refuses_class :
    Instr.wf (.classSet 1#8 256 none) = false ∧ Instr.wf (.classRead 1#8 256) = false
    ∧ FabricClass.wf { cls with ecls := 65536 } = false ∧ FabricClass.wf { cls with tref := 65536 } = false
    ∧ FabricClass.wf { cls with tb := 65536 } = false ∧ FabricClass.wf { cls with tmax := 65536 } = false
    ∧ FabricClass.wf { cls with doseMin := 4294967296 } = false
    ∧ FabricClass.wf { cls with doseMax := some 4294967296 } = false
    ∧ FabricClass.wf { cls with pitchTol := 65536 } = false := by decide

theorem test_wf_refuses_order :
    OrderBody.wf { orderBody with tag := 65536 } = false ∧ OrderBody.wf { orderBody with slot := 256 } = false
    ∧ OrderBody.wf { orderBody with cls := 256 } = false ∧ OrderBody.wf { orderBody with grade := 65536 } = false
    ∧ OrderBody.wf { orderBody with panels := 65536 } = false
    ∧ OrderBody.wf { orderBody with prefCount := 256 } = false
    ∧ OrderBody.wf { orderBody with pref1 := 256 } = false ∧ OrderBody.wf { orderBody with pref2 := 256 } = false
    ∧ OrderBody.wf { orderBody with pref3 := 256 } = false
    ∧ OrderBody.wf { orderBody with seamPolicy := 256 } = false
    ∧ OrderBody.wf { orderBody with foldLimit := 65536 } = false
    ∧ Instr.wf (.orderCancel 1#8 65536 0) = false ∧ Instr.wf (.orderCancel 1#8 0 256) = false := by decide

theorem test_wf_refuses_segments :
    StageBody.wf ⟨none, some 32768, none, none, none⟩ = false
    ∧ StageBody.wf ⟨none, none, some (-32769), none, none⟩ = false
    ∧ StageBody.wf ⟨none, none, none, some 65536, none⟩ = false
    ∧ Instr.wf (.segStage 1#8 256 ⟨none, none, none, none, none⟩) = false
    ∧ Instr.wf (.segApply 1#8 256 0) = false ∧ Instr.wf (.segApply 1#8 0 256) = false
    ∧ Instr.wf (.segClear 1#8 256) = false ∧ Instr.wf (.segRead 1#8 256) = false := by decide

theorem test_wf_refuses_rolls :
    Instr.wf (.rollLoad 1#8 256 0 0 0) = false ∧ Instr.wf (.rollLoad 1#8 0 4294967296 0 0) = false
    ∧ Instr.wf (.rollLoad 1#8 0 0 256 0) = false ∧ Instr.wf (.rollLoad 1#8 0 0 0 4294967296) = false
    ∧ Instr.wf (.rollRemove 1#8 256) = false ∧ Instr.wf (.spliceResolve 1#8 256) = false
    ∧ SpliceBody.wf { spliceBody with mode := 256 } = false
    ∧ SpliceBody.wf { spliceBody with trigger := 4294967296 } = false
    ∧ SpliceBody.wf { spliceBody with clearance := 4294967296 } = false
    ∧ SpliceBody.wf { spliceBody with tailReserve := 4294967296 } = false
    ∧ SpliceBody.wf { spliceBody with ceiling := 256 } = false
    ∧ SpliceBody.wf { spliceBody with debounce := 256 } = false
    ∧ SpliceBody.wf { spliceBody with polarity := 256 } = false
    ∧ SpliceBody.wf { spliceBody with confirm := 256 } = false
    ∧ SpliceBody.wf { spliceBody with sbNeed := 65536 } = false := by decide

theorem test_wf_refuses_line :
    Instr.wf (.lineStop 1#8 256) = false ∧ Instr.wf (.lineRate 1#8 256) = false
    ∧ Geometry.wf { Geometry.default with seamPath := 4294967296 } = false
    ∧ Geometry.wf { Geometry.default with detectPath := 4294967296 } = false
    ∧ Geometry.wf { Geometry.default with verifyDist := 65536 } = false
    ∧ Geometry.wf { Geometry.default with zones := Four.fill ⟨4294967296, 0⟩ } = false
    ∧ Geometry.wf { Geometry.default with zones := Four.fill ⟨0, 4294967296⟩ } = false
    ∧ Geometry.wf { Geometry.default with outletDist := 4294967296 } = false
    ∧ Geometry.wf { Geometry.default with panelGap := 65536 } = false := by decide

theorem test_wf_refuses_settings :
    Instr.wf (.zoneSet 1#8 256 none) = false ∧ ZoneBody.wf ⟨65536, 0, 0⟩ = false
    ∧ ZoneBody.wf ⟨0, 65536, 0⟩ = false ∧ ZoneBody.wf ⟨0, 0, 256⟩ = false
    ∧ SteamBody.wf ⟨⟨65536, 0, 0, 0, 0⟩, 0⟩ = false ∧ SteamBody.wf ⟨⟨0, 65536, 0, 0, 0⟩, 0⟩ = false
    ∧ SteamBody.wf ⟨⟨0, 0, 65536, 0, 0⟩, 0⟩ = false ∧ SteamBody.wf ⟨⟨0, 0, 0, 65536, 0⟩, 0⟩ = false
    ∧ SteamBody.wf ⟨⟨0, 0, 0, 0, 65536⟩, 0⟩ = false ∧ SteamBody.wf ⟨⟨0, 0, 0, 0, 0⟩, 256⟩ = false
    ∧ OutletBody.wf ⟨256, 0⟩ = false ∧ OutletBody.wf ⟨0, 256⟩ = false
    ∧ Instr.wf (.outletUnload 1#8 256 0) = false ∧ Instr.wf (.outletUnload 1#8 0 65536) = false
    ∧ VerifyBody.wf ⟨65536, 0, 0⟩ = false ∧ VerifyBody.wf ⟨0, 256, 0⟩ = false ∧ VerifyBody.wf ⟨0, 0, 256⟩ = false
    ∧ Instr.wf (.readTrack 1#8 4294967296) = false ∧ Instr.wf (.readExits 1#8 4294967296) = false := by decide

/-! ## Frames -/

/-- R186: the CRC of the nine bytes 31H to 39H is 29B1H. -/
theorem test_crc_of_nine_bytes :
    crc [0x31#8, 0x32#8, 0x33#8, 0x34#8, 0x35#8, 0x36#8, 0x37#8, 0x38#8, 0x39#8] = 0x29B1#16 := by decide +kernel

/-- R186, R188: the reply OK to a LINE-HOLD of TAG 5: LEN 3, KIND A2H, TAG 05H and the result code. -/
theorem test_reply_frame_layout :
    (frameBytes 0xA2#8 5#8 [0#8]).take 7 = [0xA5#8, 0x5A#8, 3#8, 0#8, 0xA2#8, 5#8, 0#8] := by decide

/-- R190: a ROLL-LOAD body: spindle, four bytes of roll id, class, four bytes of length, low byte first. -/
theorem test_body_little_endian :
    decodeRequest 0x18#8 [1#8, 0x29#8, 0xC4#8, 0#8, 0#8, 4#8, 0x40#8, 0x42#8, 0x0F#8, 0#8]
      = .request (.rollLoad 1 50217 4 1000000) := by decide

/-- R190: an on/off byte of 2 is the wrong shape; a body of another size is the wrong size; KIND 3FH is unknown. -/
theorem test_body_refused :
    decodeRequest 0x22#8 [0#8] = .misshapen ∧ decodeRequest 0x3F#8 [] = .unknown
    ∧ decodeRequest 0x10#8 ([1#8, 1#8, 2#8] ++ List.replicate 10 0#8) = .misshapen := by decide

/-- The table gives its rows no bits: no word spells a command (log 23). -/
theorem test_no_word_spells_a_command : decodeTableWord 8 1 = none ∧ decodeTableWord 0 0 = none := by decide

/-! ## Figures of the spec's tables -/

/-- Table 6.7.1. -/
theorem test_drive_steps :
    driveSteps 5125 = [5125] ∧ driveSteps 6000 = [6000] ∧ driveSteps 6001 = [3001, 3000]
    ∧ driveSteps 7585 = [3793, 3792] ∧ driveSteps 12001 = [4001, 4000, 4000]
    ∧ driveSteps 20400 = [5100, 5100, 5100, 5100] := by decide

/-- Table 6.4.1, the rows 7 and −7. -/
theorem test_taper_offsets :
    [0, 1, 2, 3, 4, 5].map (taperDepth 100 107) = [100, 101, 103, 104, 106, 107]
    ∧ [0, 1, 2, 3, 4, 5].map (taperDepth 107 100) = [107, 106, 104, 103, 101, 100] := by decide

/-- Table 6.8.5. -/
theorem test_feed_clamps :
    gradedSpacing 8000 1250 = 8000 ∧ gradedSpacing 200 800 = 200 ∧ bladeDepth 4500 300 = 4500
    ∧ bladeDepth 0 (-300) = 0 ∧ stretch { cls with ecls := 12000, tref := 100 } 4095 2000 = 20000
    ∧ stretch { cls with ecls := 0 } 2400 (-2000) = 0 ∧ feedOf 17000 20000 99999 = 20400 := by decide

/-- Table 6.8.3, stroke 1 of S3. -/
theorem test_feed_and_carry :
    stretch cls 1800 (-250) = 2000 ∧ feedOf 6470 2000 50000 = 6599 ∧ carryOf 6470 2000 50000 = 90000 := by decide

/-- Table 4.4.1. -/
theorem test_effective_rate :
    effectiveRateOf 150 70 60 = 90 ∧ effectiveRateOf 30 40 100 = 20 ∧ effectiveRateOf 240 100 30 = 72 := by decide

/-- Tables 8.2.2 and 8.2.3. -/
theorem test_round_grants :
    roundGrants 1900 ⟨0, 650, 380, 500, 700⟩ ⟨300, 400, 400, 400, 400⟩ = ⟨0, 524, 380, 449, 547⟩
    ∧ starvedBy 449 500 = true ∧ starvedBy 380 380 = false := by decide

/-- Table 8.1.3. -/
theorem test_zone_demand :
    Zone.demandAt ⟨2000, 1700, 208, none, 0, true, false⟩ false 1950 = 650
    ∧ Zone.demandAt ⟨2000, 1700, 224, none, 0, true, false⟩ true 1950 = 0
    ∧ Zone.demandAt ⟨2000, 1700, 255, none, 0, true, false⟩ false (-400) = 1000
    ∧ Zone.demandAt ⟨2000, 1700, 7, none, 0, true, false⟩ false 1998 = 0 := by decide

/-! ## States for the witnesses -/

/-- Table 2.8.1's flat run and box run. -/
def pat : List PatStep := [.flat 12000, .pleat 40 2 2500 1200 2400 false]

def order : Order :=
  { tag := 311, slot := 7, cls := 4, grade := 1040, panels := 2, prefs := [.stackA], seamPolicy := .skip,
    foldLimit := 100, verifyRequired := false, started := 0, ended := 0, cancel := .none }

def roll : Roll := ⟨50217, 4, 5000000, 5000000⟩
def spare : Roll := ⟨50218, 4, 3000000, 3000000⟩

/-- A segment with ENGAGE on, in a state. -/
def seg (st : SegState) : Segment :=
  { Segment.powerOn with
    staged := { SegSettings.default with engage := true }, active := { SegSettings.default with engage := true }
    state := st }

/-- A line ready to run: class, pattern, order, ACTIVE roll, six READY segments. -/
def ready : State :=
  { State.reset with
    classes := [(4, cls)], patterns := [(7, pat)], orders := [order]
    rcc := { RollChange.powerOn with u1 := .active roll }, segs := Six.fill (seg .ready) }

def panel : Panel :=
  { number := 1, order := 311, slot := 7, grade := 1040, cls := 4, rollId := 50217, state := .forming, head := 0
    tail := none, strokes := 1, backoffs := 0, lead := Four.fill 0, tailDose := Four.fill 0, outOfTol := 0
    missing := 0, extra := 0, verified := Six.fill true, reasons := Reasons.empty, depthClamped := false
    stalled := false, outlet := .stackA, foldLimit := 100, verifyRequired := false }

/-- A panel that has left the blade line, its tail `t`. -/
def gonePanel (t : Nat) : Panel := { panel with state := .travelling, tail := some t }

def plan : Plan :=
  { runs := [.flat 12000 12300, .pleat 80 .box false 2600 (Six.fill 1200) (Six.fill (some 1200)) 5125]
    run := 1, stroke := 1, cls := 4, ownNeed := 422300, plannedEnd := 422300, gap := 2000, slotFirm := false }

/-- The line in a state, forming a panel, with a step. -/
def working (l : LineState) (x : Option StepRec) : State :=
  { ready with
    track := [panel], nextPanel := 2, segs := Six.fill (seg .active)
    seq := { Seq.powerOn with line := l, plan := some plan, pace := .running 10000, step := x }
    outlets := { Outlets.powerOn with stackA := ⟨50, 0, 1⟩ } }

/-- The stroke in hand. -/
def stroke (ph : Phase) : StepRec := ⟨.stroke .right, 2600, ph⟩

/-- Change the line's state. -/
def atLine (l : LineState) (s : State) : State := { s with seq := { s.seq with line := l } }

/-- Every segment's drive. -/
def drives (d : Drive) (s : State) : State := { s with segs := s.segs.map fun g => { g with drive := d } }

/-- One segment's drive. -/
def drive0 (d : Drive) (s : State) : State := { s with segs := s.segs.set 0 { s.segs.get 0 with drive := d } }

/-- The splice's state. -/
def spliced (x : SpliceState) (s : State) : State := { s with rcc := { s.rcc with splice := x } }

def seam : Unconfirmed := ⟨800000, 50217, 50218, false⟩

/-- A full transmit queue. -/
def crowded (n : Nat) (s : State) : State :=
  { s with link := { s.link with queue := List.replicate n .flagNotice } }

/-- A state whose link stands as after power-on accepts a request of TAG 1. -/
theorem accepts (s : State) (h : s.link = Link.powerOn) : s.Accepts 1#8 :=
  ⟨by rw [h]; decide, by rw [h]; rfl, by decide⟩

/-! ## Witnesses: the queue, the invariant, the link -/

theorem witness_EmptyQueueIdlesOneMillisecond : State.reset.pending = [] := rfl

/-- A state in hand that meets the invariant: a panel in the track with its credit, one command waiting. -/
def inHand (l : LineState) (estop : Bool) : State :=
  { working l (some (stroke .stroke)) with estopInput := estop, pending := [.jamReport 5] }

theorem inHand_inv (l : LineState) (estop : Bool) (h : estop = true ↔ l = .estop) : (inHand l estop).Inv where
  patterns := by rfl
  classes := by rfl
  baseRate := (by decide : 20 ≤ 60 ∧ 60 ≤ 240)
  carries := by rfl
  spindles := by rfl
  ceiling := (by decide : 100 % 10 = 0 ∧ 40 ≤ 100 ∧ 100 ≤ 100)
  estop := h
  orders := (by decide : 1 ≤ 16)
  queue := (by decide : 0 ≤ 32)
  track := ⟨(by decide : 1 ≤ 24), (by decide : [1].Pairwise (· < ·)), (by decide : ∀ n ∈ [1], n < 2)⟩
  credits := ⟨fun n => by cases n <;> rfl, fun n => by
    cases n
    · exact (by decide : 0 + 1 ≤ 50)
    · exact (by decide : 0 + 0 ≤ 50)
    · exact (by decide : 0 + 0 ≤ 65535)⟩
  exits := ⟨(by decide : 0 ≤ 16), (by decide : 0 < 1), by rfl⟩

theorem witness_StepKeepsInvariant :
    (inHand .running false).Inv ∧ ∃ t, step (inHand .running false) = .next t :=
  ⟨inHand_inv _ _ (by decide), _, rfl⟩

theorem witness_SettingsStand :
    commandSets (.jamReport 5) = false ∧ ∃ t, exec (.jamReport 5) (inHand .running false) = .next t :=
  ⟨rfl, _, rfl⟩

theorem witness_OnlyReleaseLeavesEstop :
    (inHand .estop true).Inv ∧ (inHand .estop true).seq.line = .estop ∧ (Instr.paceTimerExpiry ≠ .estopInactive)
    ∧ (∀ e b d, Instr.paceTimerExpiry ≠ .powerOn e b d)
    ∧ ∃ t, exec .paceTimerExpiry (inHand .estop true) = .next t :=
  ⟨inHand_inv _ _ (by decide), rfl, by decide, by simp, _, rfl⟩

theorem witness_BodyRoundTrip : (Request.lineRate 255).wf = true ∧ (Request.outletUnload 255 65535).wf = true := by
  decide

/-- The frame of LINE-HOLD, TAG 5, all but the last byte of CHECK. -/
def heldFrame : State :=
  ready.setRx { state := .check, lenBytes := [2#8, 0#8], buffer := [0x22#8, 5#8], checkBytes := [0x89#8] }

theorem witness_LastCheckByteTakesRequest :
    (Instr.lineHold 5#8).request? = some (5#8, .lineHold) ∧ Request.lineHold.sendable = true
    ∧ heldFrame.link.rx.state = .check
    ∧ heldFrame.link.rx.buffer = Request.lineHold.kind :: 5#8 :: Request.lineHold.body
    ∧ heldFrame.link.rx.checkBytes = [0x89#8]
    ∧ frameCheck heldFrame.link.rx.lenBytes heldFrame.link.rx.buffer = [0x89#8, 0x59#8] := by decide +kernel

theorem witness_BadRequestsAnsweredByTests :
    (Instr.lineHold 0#8).request? = some (0#8, .lineHold) ∧ 32 ≤ (crowded 32 ready).link.queue.length
    ∧ ((crowded 31 ready).link.queue.length < 32
      ∧ { (crowded 31 ready).link with busy := true }.busy = true)
    ∧ ((crowded 31 ready).link.queue.length < 32 ∧ (crowded 31 ready).link.busy = false) := by decide

theorem witness_TransmitQueueRules :
    let l : Link := { Link.powerOn with notice := none }
    (l.waitingReplies = [] ∧ l.notice = none ∧ (List.replicate 31 TxEntry.flagNotice).length < 32
      ∧ 32 ≤ (List.replicate 32 TxEntry.flagNotice).length)
    ∧ ({ l with sending := some ⟨[], false⟩ }.sending = some ⟨[], false⟩)
    ∧ ({ l with queue := [.reply 0xA2#8 1#8 [0#8] true] }.queue = .reply 0xA2#8 1#8 [0#8] true :: []
      ∧ l.sending = none)
    ∧ ({ l with queue := [.flagNotice], notice := some 1#48, noticeQueued := true }.queue = .flagNotice :: []) :=
  ⟨⟨rfl, rfl, by decide, by decide⟩, rfl, ⟨rfl, rfl⟩, rfl⟩

/-- A link with a FLAG-NOTICE waiting outside, `n` entries before a PANEL-OUT's or COUNTER-SNAPSHOT's tail. -/
def outsideLink (x : TxEntry) (n : Nat) : Link :=
  { Link.powerOn with notice := some 1#48, queue := x :: List.replicate n (.reply 0xA2#8 1#8 [0#8] true) }

theorem witness_TransmitQueueRules_outside :
    (let l := outsideLink (.snapshot ready.snapshot) 27
     l.notice.isSome = true ∧ l.noticeQueued = false ∧ l.waitingReplies = [] ∧ l.sending = none
       ∧ l.queue = .snapshot ready.snapshot :: List.replicate 27 (.reply 0xA2#8 1#8 [0#8] true)
       ∧ (List.replicate 27 (TxEntry.reply 0xA2#8 1#8 [0#8] true)).length < 28)
    ∧ (let l := outsideLink (.panelOut (ready.exitRecord panel)) 28
       l.noticeQueued = false ∧ 28 ≤ l.queue.length ∧ l.queue.length < 32 ∧ .panelOut (ready.exitRecord panel) ≠ TxEntry.flagNotice)
    ∧ ({ outsideLink .flagNotice 0 with queue := [] }.notice.isSome = true)
    ∧ (let l : Link := { outsideLink .flagNotice 31 with noticeQueued := true, waitingReplies := [.reply 0xA2#8 2#8 [0#8] true] }
       32 ≤ l.queue.length ∧ (List.replicate 31 TxEntry.flagNotice).length = 31 ∧ l.waitingReplies = .reply 0xA2#8 2#8 [0#8] true :: []) :=
  ⟨⟨rfl, rfl, rfl, rfl, rfl, by decide⟩, ⟨rfl, by decide, by decide, (by intro h; cases h)⟩, rfl, by decide, by decide, rfl⟩

/-- The receiver in a state with what it holds. -/
def receiving (r : Receiver) : State := ready.setRx r

theorem witness_ReceiverFollowsItsTable :
    (receiving ⟨.hunt, [], [], []⟩).link.rx.state = .hunt ∧ (receiving ⟨.sync, [], [], []⟩).link.rx.state = .sync
    ∧ ((receiving ⟨.length, [], [], []⟩).link.rx.state = .length
      ∧ (receiving ⟨.length, [], [], []⟩).link.rx.lenBytes = [])
    ∧ ((receiving ⟨.length, [2#8], [], []⟩).link.rx.lenBytes = [2#8])
    ∧ ((receiving ⟨.content, [3#8, 0#8], [1#8, 1#8], []⟩).link.rx.state = .content)
    ∧ ((receiving ⟨.check, [2#8, 0#8], [1#8, 1#8], []⟩).link.rx.checkBytes = [])
    ∧ frameCheck [2#8, 0#8] [0x22#8, 5#8] ≠ [0#8, 0#8]
    ∧ { Link.powerOn with sending := some ⟨[], true⟩ }.sending = some ⟨[], true⟩
    ∧ State.reset.link.sending = none := by decide +kernel

theorem witness_ReceiverFollowsItsTable_good_frame :
    (receiving ⟨.check, [2#8, 0#8], [0x50#8, 1#8], [0x36#8]⟩).Accepts 1#8
    ∧ frameCheck [2#8, 0#8] [0x50#8, 1#8] = [0x36#8, 0x77#8] ∧ (∀ r : Request, r.kind ≠ 0x50#8)
    ∧ Request.lineHold.kind = 0x22#8 ∧ (∀ r : Request, r.kind = 0x22#8 → r.body.length ≠ ([7#8] : List Byte).length)
    ∧ ([7#8, 1#8, 2#8] : List Byte)[2]? = some 2#8 ∧ 2 ≤ (2#8 : Byte).toNat :=
  ⟨⟨by decide, rfl, by decide⟩, by decide +kernel, (by intro r; cases r <;> simp [Request.kind]), rfl,
    (by intro r; cases r <;> simp [Request.kind, Request.body]), rfl, by decide⟩

theorem witness_RaiseLatchesAndNotifies :
    let l := Link.powerOn
    let quiet : Link := { l with notice := none }
    l.flags.getLsbD Flag.resetDone.number = true
    ∧ (l.flags.getLsbD Flag.rejectBinFull.number = false ∧ { l with masks := -1#48 }.masks.getLsbD Flag.rejectBinFull.number = true)
    ∧ (l.masks.getLsbD Flag.rejectBinFull.number = false ∧ l.notice = some 1#48)
    ∧ (quiet.notice = none ∧ (List.replicate 27 TxEntry.flagNotice).length < 28
      ∧ 28 ≤ (List.replicate 28 TxEntry.flagNotice).length) := by decide

theorem witness_FlagsReadAndMasked : State.reset.Accepts 1#8 := accepts _ rfl

/-! ## Witnesses: patterns, classes, geometry, orders -/

/-- A pattern at every limit: 2000 strokes, 1,500,000 wu. -/
def fullPattern : List PatStep := [.pleat 500 2 750 4500 4500 false, .pleat 500 3 750 0 0 false]

theorem witness_PatDefineStores :
    ready.Accepts 1#8 ∧ (1 ≤ fullPattern.length ∧ fullPattern.length ≤ 64)
    ∧ (∀ x ∈ fullPattern, fieldsInRange x ∧ lockFits x) ∧ (fullPattern.map strokesOf).sum ≤ 2000
    ∧ (fullPattern.map deliveredOf).sum ≤ 1500000
    ∧ (∀ o ∈ ready.orders, o.slot ≠ 48) ∧ ready.forming? = none
    ∧ fullPattern.length ≤ ready.freeEntries + ready.stepsIn 48
    ∧ (∃ o ∈ ready.orders, o.slot = 7) ∧ (∃ x, (working .running none).forming? = some x ∧ x.slot = 7)
    ∧ (let s : State := { ready with patterns := (List.range' 1 17).map fun n => (n, List.replicate 61 (.flat 100)) }
       s.freeEntries + s.stepsIn 48 < (List.replicate 64 (PatStep.flat 100)).length) := by
  refine ⟨accepts _ rfl, by decide, ?_, by decide, by decide, by decide, rfl, by decide, ⟨order, by simp [ready], rfl⟩,
    ⟨panel, rfl, rfl⟩, by decide +kernel⟩
  intro x hx
  rcases List.mem_cons.mp hx with rfl | hx
  · simp [fieldsInRange, lockFits]
  · rcases List.mem_singleton.mp hx with rfl
    simp [fieldsInRange, lockFits]

theorem witness_PatDefineNamesFirstBadStep :
    ready.Accepts 1#8 ∧ (0 < 1 ∧ 48 < 49) ∧ 64 < (List.replicate 65 (PatStep.flat 100)).length
    ∧ (fullPattern ++ [PatStep.flat 99] ++ List.replicate 61 (PatStep.flat 100)).length ≤ 64
    ∧ ¬ fieldsInRange (.pleat 501 0 200 0 0 false)
    ∧ (fieldsInRange (.pleat 17 0 200 0 0 true) ∧ ¬ lockFits (.pleat 17 0 200 0 0 true))
    ∧ (let p := [PatStep.pleat 500 2 200 0 0 false, .pleat 500 3 200 0 0 false, .pleat 1 0 200 0 0 false]
       (∀ x ∈ p, fieldsInRange x ∧ lockFits x) ∧ (p.map strokesOf).sum = 2001)
    ∧ (let p := List.replicate 7 (PatStep.flat 200000) ++ [.flat 99901, .flat 100]
       (∀ x ∈ p, fieldsInRange x ∧ lockFits x) ∧ (p.map strokesOf).sum ≤ 2000
         ∧ (p.map deliveredOf).sum = 1500001) :=
  ⟨accepts _ rfl, by decide, by decide, by decide, by simp [fieldsInRange], by simp [fieldsInRange, lockFits, strokesOf],
    by simp [fieldsInRange, lockFits, strokesOf], by simp [fieldsInRange, lockFits, strokesOf, deliveredOf]⟩

theorem witness_PatDropEmptiesSlot : ready.Accepts 1#8 ∧ ready.patterns.wf = true := ⟨accepts _ rfl, rfl⟩

theorem witness_PatDropEmptiesSlot_named_again :
    let u : State := { ready with orders := [], patterns := ready.patterns.erase 7 }
    u.Accepts 1#8 ∧ u.patterns = ready.patterns.erase 7 ∧ orderBody.slot = 7 ∧ u.class? orderBody.cls ≠ none
    ∧ (1 ≤ orderBody.prefCount ∧ orderBody.prefCount ≤ 3 ∧ orderBody.seamPolicy ≤ 1)
    ∧ ([orderBody.pref1, orderBody.pref2, orderBody.pref3].take orderBody.prefCount).Nodup :=
  ⟨accepts _ rfl, rfl, rfl, by decide, by decide, by decide⟩

theorem witness_ClassSetDefines :
    ready.Accepts 1#8 ∧ ¬ classInRange { cls with tref := 99 } ∧ classInRange cls
    ∧ (∃ o ∈ ready.orders, o.cls = 4) ∧ (∀ o ∈ ready.orders, o.cls ≠ 15) ∧ (∀ p ∈ ready.track, p.cls ≠ 15)
    ∧ ready.rcc.u1.names 15 = false ∧ ready.rcc.u2.names 15 = false :=
  ⟨accepts _ rfl, by simp [classInRange, cls], by simp [classInRange, cls], ⟨order, by simp [ready], rfl⟩, by decide,
    by decide, rfl, rfl⟩

theorem witness_GeometryWriteTaken :
    ready.Accepts 1#8 ∧ (working .held none).track ≠ [] ∧ (working .held none).seq.line ≠ .idle
    ∧ ready.seq.line = .idle ∧ ready.track = []
    ∧ (let g : Geometry := { Geometry.default with seamPath := 3000000, detectPath := 10000, verifyDist := 12000 }
       (g.detectPath + 10000 ≤ g.seamPath) ∧ g.verifyDist + ready.verify.window ≤ 12600
         ∧ g.zones.z4.stop ≤ g.outletDist)
    ∧ ¬ (12101 + ready.verify.window ≤ 12600) :=
  ⟨accepts _ rfl, by decide, by decide, rfl, rfl, by decide, by decide⟩

theorem witness_TableReadsAnswer :
    ready.Accepts 1#8 ∧ ready.pattern? 7 = some pat ∧ ready.pattern? 48 = none ∧ ready.pattern? 1 = none :=
  ⟨accepts _ rfl, rfl, rfl, rfl⟩

theorem witness_QueriesChangeNothing : ready.Accepts 255#8 := ⟨by decide, rfl, by decide⟩

theorem witness_OrderListAnswersEveryOrder : ready.Accepts 1#8 := accepts _ rfl

theorem witness_OrderAddAppends :
    let b : OrderBody := { orderBody with tag := 65535, slot := 7, grade := 800, panels := 9999, prefCount := 3,
                                          pref1 := 2, pref2 := 1, foldLimit := 65535, seamPolicy := 1 }
    ready.Accepts 1#8 ∧ ready.class? b.cls ≠ none ∧ [b.pref1, b.pref2, b.pref3].Nodup
    ∧ (∀ n ∈ [b.pref1, b.pref2, b.pref3], n ≤ 2) ∧ ¬ ((1251 : Nat) ≤ 1250) ∧ ready.class? 15 = none
    ∧ ready.pattern? b.slot ≠ none ∧ ready.pattern? 48 = none ∧ (∃ o ∈ ready.orders, o.tag = 311)
    ∧ (∀ o ∈ ready.orders, o.tag ≠ b.tag) ∧ ready.orders.length < 16 ∧ 16 ≤ (List.replicate 16 order).length
    ∧ (∀ o ∈ List.replicate 16 order, o.tag ≠ b.tag) :=
  ⟨accepts _ rfl, by decide, by decide, by decide, by decide, rfl, by decide, rfl, ⟨order, by simp [ready], rfl⟩,
    by decide, by decide, by decide, by decide⟩

theorem witness_OrderCancelRemovesOrPends :
    ready.Accepts 1#8 ∧ 2 ≤ 2 ∧ ready.orders.all (fun o => decide (o.tag ≠ 65535)) = true
    ∧ ((∃ o ∈ ready.orders, o.tag = 311) ∧ ready.forming? = none)
    ∧ ((working .running none).orders = order :: [] ∧ (working .running none).forming? = some panel
      ∧ order.cancel ≠ .abandon ∧ (working .running none).seq.line ≠ .waiting)
    ∧ (working .running (some (stroke .feed))).seq.step.isSome = true
    ∧ (let w := working .held none
       let s : State := { w with seq := { w.seq with plan := some { plan with stroke := 2 } } }
       s.seq.line = .held ∧ s.orders = order :: [] ∧ s.forming? = some panel ∧ s.seq.step = none
         ∧ s.boundaryClosed = false) :=
  ⟨accepts _ rfl, by decide, rfl, ⟨⟨order, by simp [ready], rfl⟩, rfl⟩, ⟨rfl, rfl, by decide, by decide⟩, rfl,
    ⟨rfl, rfl, rfl, rfl, rfl⟩⟩

/-! ## Witnesses: segments -/

theorem witness_SegStageReplaces :
    ready.Accepts 1#8 ∧ ¬ (1 ≤ 64 ∧ 64 < 64) ∧ (1 ≤ 63 ∧ 63 < 64)
    ∧ (let b : StageBody := ⟨some false, some (-300), some 2000, some 4095, none⟩
       (∀ v, b.depthTrim = some v → -300 ≤ v ∧ v ≤ 300) ∧ (∀ v, b.feedTrim = some v → -2000 ≤ v ∧ v ≤ 2000)
         ∧ (∀ v, b.tensionLimit = some v → 100 ≤ v ∧ v ≤ 4095))
    ∧ ¬ (∀ v : Nat, some 99 = some v → 100 ≤ v ∧ v ≤ 4095) :=
  ⟨accepts _ rfl, by decide, by decide, by simp, by simp⟩

theorem witness_SegReadAnswersEachSegment : ready.Accepts 1#8 ∧ (1 ≤ 63 ∧ 63 < 64) := ⟨accepts _ rfl, by decide⟩

theorem witness_SegApplyBySegment :
    ready.Accepts 1#8 ∧ (working .running none).Accepts 1#8 ∧ ((1 ≤ 63 ∧ 63 < 64) ∧ 1 ≤ 1)
    ∧ (¬ ((1 ≤ 64 ∧ 64 < 64) ∧ 1 ≤ 1) ∧ ¬ ((1 ≤ 1 ∧ 1 < 64) ∧ 2 ≤ 1))
    ∧ (working .estop none).seq.line = .estop ∧ (working .running none).seq.line = .running
    ∧ (ready.seq.line = .idle ∧ ready.seq.step = none) :=
  ⟨accepts _ rfl, accepts _ rfl, by decide, by decide, rfl, rfl, rfl, rfl⟩

/-- One segment with ENGAGE on, staged off, in a line that waits. -/
def lastEngaged (l : LineState) : State :=
  { atLine l ready with
    segs := (Six.fill Segment.powerOn).set 0 { seg .ready with staged := SegSettings.default } }

theorem witness_SegApplyBySegment_standing :
    ((lastEngaged .waiting).Accepts 1#8 ∧ (lastEngaged .waiting).seq.line = .waiting
      ∧ (lastEngaged .waiting).seq.step = none ∧ (lastEngaged .waiting).forming? = none)
    ∧ ((working .held none).seq.line = .held ∧ (working .held none).forming?.isSome = true)
    ∧ (working .held (some (stroke .fed))).seq.step.isSome = true := ⟨⟨accepts _ rfl, rfl, rfl, rfl⟩, ⟨rfl, rfl⟩, rfl⟩

theorem witness_BoundaryCopyMovesSegment :
    ready.Accepts 1#8 ∧ ready.seq.line = .idle ∧ ready.forming? = none ∧ ready.seq.step = none
    ∧ (ready.segs.get 5).status ≠ .pending ∧ (ready.segs.get 5).status ≠ .inProgress
    ∧ (ready.segs.get 5).state ≠ .engaging ∧ (ready.segs.get 5).state ≠ .parking
    ∧ (ready.segs.get 5).state ≠ .faulted :=
  ⟨accepts _ rfl, rfl, rfl, rfl, by decide, by decide, by decide, by decide, by decide⟩

theorem witness_BoundaryCopyMovesSegment_last_engage :
    let s := lastEngaged .held
    s.Accepts 1#8 ∧ s.seq.line ≠ .idle ∧ s.forming? = none ∧ (s.segs.get 0).active.engage = true
    ∧ (s.segs.get 0).staged.engage = false ∧ (∀ j, j ≠ 0 → (s.segs.get j).active.engage = false) :=
  ⟨accepts _ rfl, by decide, rfl, rfl, rfl, by decide⟩

theorem witness_MovementEnds :
    ((drive0 .home ready).segs.get 0).drive = .home ∧ ((drive0 .park ready).segs.get 0).drive = .park
    ∧ (ready.segs.get 0).drive ≠ .home ∧ (ready.segs.get 0).drive ≠ .park := by decide

theorem witness_FaultInStandingLine :
    ((drive0 .home ready).segs.get 0).drive = .home ∧ ((drive0 .home ready).segs.get 0).state ≠ .faulted
    ∧ (drive0 .home ready).seq.line = .idle ∧ (drive0 .home ready).seq.step = none := by decide

theorem witness_FaultHoldsMovingLine :
    let s := drives (.feed 5125) (working .running (some (stroke .feed)))
    (s.segs.get 0).drive.isFeed = true ∧ (s.segs.get 0).state ≠ .faulted ∧ s.seq.line = .running := by decide

theorem witness_StrayEventsDiscarded :
    (ready.segs.get 0).drive.isFeed = false ∧ (ready.segs.get 0).drive.isStroke = false
    ∧ (ready.segs.get 0).drive ≠ .withdraw ∧ (ready.segs.get 0).drive ≠ .home ∧ (ready.segs.get 0).drive ≠ .park
    ∧ (seg .faulted).state = .faulted ∧ ready.rcc.splice ≠ .preparing ∧ ready.rcc.splice ≠ .pressing
    ∧ ready.rcc.matchTimer = false ∧ ready.rcc.confirmTimer = none ∧ ready.rcc.debounce = none
    ∧ ready.rcc.tailTimer = false ∧ { Zone.powerOn with silenceTimer := false }.silenceTimer = false
    ∧ { Steam.powerOn with supplyTimer := false }.supplyTimer = false ∧ ready.steam.stallTimer = none
    ∧ ready.verify.timer = false := by decide

/-- Segment S0 FAULTED in a line that is HELD with the given members. -/
def faultHeld (hold : HoldSet) : State :=
  { ready with
    segs := ready.segs.set 0 (seg .faulted)
    seq := { ready.seq with line := .held, hold := hold, stop := .now } }

theorem witness_SegClearParksFaulted :
    (let s : State := { ready with segs := Six.fill (seg .faulted) }
     s.Accepts 1#8 ∧ (1 ≤ 63 ∧ 63 < 64) ∧ s.seq.line = .idle)
    ∧ (64 ≤ 64 ∧ (working .estop none).seq.line = .estop)
    ∧ (faultHeld ⟨true, false, false, true⟩).seq.hold.host = true
    ∧ (let s := faultHeld ⟨false, false, false, true⟩
       s.seq.line = .held ∧ s.seq.hold = ⟨false, false, false, true⟩ ∧ s.seq.stop = .now
         ∧ ((maskSegs 1).filter fun i => decide ((s.segs.get i).state = .faulted)) ≠ []
         ∧ ((s.segs.set 0 (seg .parking)).any fun g => decide (g.state = .faulted)) = false) :=
  ⟨⟨accepts _ rfl, by decide, rfl⟩, ⟨by decide, rfl⟩, rfl, by decide⟩

/-! ## Witnesses: rolls and splices -/

theorem witness_RollLoadFillsSpindle :
    ready.Accepts 1#8 ∧ ready.class? 4 ≠ none ∧ ¬ (2 ≤ 1) ∧ 1000000 ≤ 1600000 ∧ 1600000 ≤ 4000000000
    ∧ ready.rcc.settings.trigger + 1000000 ≤ 1600000 ∧ ready.rcc.spindle .u1 ≠ .empty
    ∧ ready.rcc.spindle .u2 = .empty ∧ ready.rcc.activeRoll = some roll
    ∧ (let s : State := { ready with rcc := RollChange.powerOn }
       s.rcc.spindle .u1 = .empty ∧ s.rcc.activeRoll = none ∧ s.seq.hold.rollOut = false)
    ∧ (let s : State := { faultHeld ⟨false, false, true, false⟩ with rcc := RollChange.powerOn }
       s.rcc.spindle .u2 = .empty ∧ s.rcc.activeRoll = none ∧ s.seq.hold = ⟨false, false, true, false⟩
         ∧ s.seq.line = .held ∧ s.seq.stop = .now ∧ s.rcc.pressDue = none)
    ∧ ready.class? 15 = none :=
  ⟨accepts _ rfl, by decide, by decide, by decide, by decide, by decide, by decide, rfl, rfl, ⟨rfl, rfl, rfl⟩,
    ⟨rfl, rfl, rfl, rfl, rfl, rfl⟩, rfl⟩

theorem witness_RollRemoveEmptiesSpindle :
    ready.Accepts 1#8 ∧ 2 ≤ 2 ∧ ready.rcc.spindle .u1 = .active roll ∧ ready.seq.line = .idle
    ∧ ready.rcc.splice = .idle ∧ ready.rcc.spindle .u2 = .empty := ⟨accepts _ rfl, by decide, rfl, rfl, rfl, rfl⟩

theorem witness_SpliceSetReplacesSettings :
    let b : SpliceBody := { mode := 1, trigger := 200000, clearance := 2000, tailReserve := 199999, ceiling := 30,
                            debounce := 3, polarity := 1, confirm := 7, sbNeed := 1000 }
    ready.Accepts 1#8 ∧ ready.rcc.splice.underWay = false ∧ (spliced .slotted ready).rcc.splice.underWay = true
    ∧ b.tailReserve < b.trigger ∧ 20000 ≤ b.tailReserve ∧ ¬ (200000 < b.trigger) :=
  ⟨accepts _ rfl, rfl, rfl, by decide, by decide, by decide⟩

/-- A MISSED splice with both rolls in place, the line IDLE. -/
def missed (c : MissCause) (u : Option Unconfirmed) : State :=
  { ready with rcc := { ready.rcc with u2 := .standby spare, splice := .missed c, unconfirmed := u } }

theorem witness_SpliceResolveByCause :
    (missed .noConfirm (some seam)).Accepts 1#8 ∧ (∀ c, ready.rcc.splice ≠ .missed c)
    ∧ ((missed .noConfirm (some seam)).rcc.splice = .missed .noConfirm
      ∧ (missed .noConfirm (some seam)).seq.line = .idle ∧ (missed .noConfirm (some seam)).rcc.unconfirmed = some seam
      ∧ (missed .noConfirm (some seam)).forming? = none)
    ∧ ((missed .noMatch none).rcc.splice = .missed .noMatch ∧ (missed .noMatch none).rcc.seams.length < 3
      ∧ (missed .noMatch none).rcc.u1 = .active roll ∧ (missed .noMatch none).rcc.u2 = .standby spare)
    ∧ 3 ≤ (List.replicate 3 (⟨0, 0, 0, 0, .accept⟩ : Seam)).length :=
  ⟨accepts _ rfl, (by intro c h; cases h), ⟨rfl, rfl, rfl, rfl⟩, ⟨rfl, by decide, rfl, rfl⟩, by decide⟩

/-- A MISSED splice in a line HELD for it alone, a panel FORMING or not. -/
def missedHeld (c : MissCause) (forming : Bool) (hold : HoldSet) : State :=
  let w := working .held (if forming then some (stroke .fed) else none)
  { w with
    track := if forming then [panel] else [], seq := { w.seq with hold := hold }
    rcc := { w.rcc with u2 := .standby spare, splice := .missed c, unconfirmed := some seam } }

theorem witness_SpliceResolveByCause_held :
    (let s := missedHeld .noConfirm false ⟨false, true, false, false⟩
     s.Accepts 1#8 ∧ s.seq.line = .held ∧ s.seq.hold = ⟨false, true, false, false⟩ ∧ s.forming? = none)
    ∧ (let s := missedHeld .estop true ⟨false, true, false, true⟩
       s.Accepts 1#8 ∧ s.seq.hold.fault = true ∧ s.forming? = some panel ∧ s.seq.step = some (stroke .fed)
         ∧ (stroke .fed).kind ≠ .gap) :=
  ⟨⟨accepts _ rfl, rfl, rfl, rfl⟩, accepts _ rfl, rfl, rfl, rfl, by decide⟩

theorem witness_SpliceResolveByCause_spindles :
    (let s : State := { missed .noMatch none with rcc := { (missed .noMatch none).rcc with u1 := .standby spare, u2 := .active roll } }
     s.Accepts 1#8 ∧ s.rcc.splice = .missed .noMatch ∧ s.seq.line = .idle ∧ s.forming? = none ∧ s.rcc.seams.length < 3
       ∧ s.rcc.spindle .u2 = .active roll ∧ s.rcc.spindle .u1 = .standby spare)
    ∧ (let s : State := { missed .noMatch none with rcc := { (missed .noMatch none).rcc with u1 := .spent roll } }
       s.Accepts 1#8 ∧ s.rcc.splice = .missed .noMatch ∧ s.rcc.activeRoll = none ∧ s.rcc.spindle .u2 = .standby spare
         ∧ s.rcc.spindle .u1 = .spent roll ∧ ∀ x, s.rcc.spindle .u1 ≠ .standby x) :=
  ⟨⟨accepts _ rfl, rfl, rfl, rfl, by decide, rfl, rfl⟩, accepts _ rfl, rfl, rfl, rfl, rfl, (by intro x h; cases h)⟩

theorem witness_SpliceTimeoutsMiss :
    (let s : State := { ready with rcc := { ready.rcc with splice := .preparing, matchTimer := true } }
     s.rcc.matchTimer = true ∧ s.seq.line = .idle)
    ∧ (let w := working .running (some (stroke .feed))
       let s : State := { w with rcc := { w.rcc with splice := .pressing, confirmTimer := some 2000 } }
       s.rcc.confirmTimer.isSome = true ∧ s.rcc.splice = .pressing ∧ s.seq.line = .running
         ∧ s.seq.step.isSome = true) := by decide

theorem witness_SpindleMatchedAsksForSlot :
    let s := spliced .preparing ready
    let w := spliced .preparing (working .running none)
    (s.rcc.splice = .preparing ∧ s.rcc.pressDue = none ∧ s.rcc.firePoint = none ∧ s.rcc.activeRoll = some roll
      ∧ s.steam.grants.sb < s.rcc.settings.sbNeed ∧ s.rcc.settings.tailReserve ≤ roll.remaining ∧ s.forming? = none)
    ∧ (w.forming? = some panel ∧ w.seq.plan = some plan
      ∧ plan.plannedEnd + w.rcc.settings.clearance < w.web + w.geometry.seamPath)
    ∧ (let near : State := { w with geometry := { w.geometry with seamPath := 432300 } }
       0 + near.geometry.seamPath = plan.plannedEnd + near.rcc.settings.clearance ∧ near.web ≤ 0
         ∧ near.rcc.settings.tailReserve + (0 - near.web) ≤ roll.remaining) :=
  ⟨⟨rfl, rfl, rfl, rfl, by decide, by decide, rfl⟩, ⟨rfl, rfl, by decide⟩, by decide⟩

theorem witness_FireTestFollowsTable :
    let s := spliced .slotted ready
    let t : State := { s with rcc := { s.rcc with firePoint := some 0 } }
    s.rcc.splice = .slotted ∧ s.rcc.settings.mode = .flying ∧ s.rcc.pressDue = none ∧ s.rcc.activeRoll = some roll
    ∧ s.rcc.firePoint = none ∧ ¬ (roll.remaining < s.rcc.settings.tailReserve)
    ∧ t.rcc.firePoint = some 0 ∧ 0 ≤ t.web ∧ ¬ (t.rcc.settings.sbNeed ≤ t.steam.grants.sb) :=
  ⟨rfl, rfl, rfl, rfl, rfl, by decide, rfl, by decide, by decide⟩

theorem witness_RollsChange :
    (missed .noMatch none).rcc.u1 = .active roll ∧ (missed .noMatch none).rcc.u2 = .standby spare
    ∧ { ready.rcc with u1 := .expiring roll }.u1 = .expiring roll ∧ { ready.rcc with tailTimer := true }.tailTimer = true
    ∧ (∀ r, ready.rcc.u1 ≠ .expiring r ∧ ready.rcc.u2 ≠ .expiring r) :=
  ⟨rfl, rfl, rfl, rfl, fun r => ⟨(by intro h; cases h), (by intro h; cases h)⟩⟩

/-- A splice SLOTTED and asking, the ACTIVE roll on U2 and the STANDBY roll on U1. -/
def slotted (m : SpliceMode) (remaining : Nat) (s : State) : State :=
  { s with rcc := { s.rcc with
      u1 := .standby spare, u2 := .active { roll with remaining := remaining }, splice := .slotted, slotRequest := true
      settings := { SpliceSettings.default with mode := m } } }

/-- The same with a press due. -/
def due (noGrant : Bool) (s : State) : State := { s with rcc := { s.rcc with pressDue := some noGrant } }

/-- The line at the open boundary before a panel's first run. -/
def openAt (l : LineState) : State :=
  let w := working l none
  { w with seq := { w.seq with plan := some { plan with run := 0, stroke := 0 } } }

theorem witness_FireTestFollowsTable_stopped :
    let short := slotted .stopped 99999
    ((short ready).rcc.splice = .slotted ∧ (short ready).rcc.activeRoll = some { roll with remaining := 99999 }
      ∧ (short ready).rcc.settings.tailReserve = 100000 ∧ (short ready).rcc.firePoint = none
      ∧ (short ready).rcc.seams.length < 3 ∧ (short ready).rcc.settings.mode = .stopped ∧ (short ready).rcc.pressDue = none)
    ∧ ((short ready).seq.line = .idle ∧ (short (atLine .waiting ready)).seq.line = .waiting
      ∧ (short (working .holding none)).seq.line = .holding
      ∧ (short (working .running (some (stroke .feed)))).seq.step.isSome = true
      ∧ (short (openAt .draining)).seq.step = none ∧ (short (openAt .draining)).boundaryClosed = false
      ∧ (short (openAt .draining)).seq.stop ≠ .now)
    ∧ ((due true (short ready)).rcc.pressDue = some true
      ∧ (due false (slotted .stopped 100000 (atLine .held ready))).rcc.pressDue = some false
      ∧ ¬ ((slotted .stopped 100000 ready).rcc.settings.sbNeed ≤ (slotted .stopped 100000 ready).steam.grants.sb)) :=
  ⟨⟨rfl, rfl, rfl, rfl, by decide, rfl, rfl⟩, ⟨rfl, rfl, rfl, rfl, rfl, rfl, by decide⟩, rfl, rfl, by decide⟩

theorem witness_RollsChange_mirrored :
    SpindleName.u1 ≠ .u2 ∧ (slotted .stopped 99999 ready).rcc.spindle .u2 = .active { roll with remaining := 99999 }
    ∧ (slotted .stopped 99999 ready).rcc.spindle .u1 = .standby spare := ⟨by decide, rfl, rfl⟩

/-- A splice in PRESSING with its unconfirmed seam, the line IDLE. -/
def pressing (m : SpliceMode) : State :=
  { ready with rcc := { ready.rcc with
      splice := .pressing, unconfirmed := some seam, confirmTimer := some 2000, candidate := some true, debounce := some 5
      settings := { SpliceSettings.default with mode := m } } }

theorem witness_SpliceConfirmed :
    ((pressing .stopped).rcc.splice = .pressing ∧ (pressing .stopped).rcc.settings.mode = .stopped
      ∧ (pressing .stopped).rcc.unconfirmed = some seam ∧ (pressing .stopped).seq.line = .idle)
    ∧ ((pressing .flying).rcc.candidate = some true ∧ (pressing .flying).rcc.debounce = some 5
      ∧ true = (pressing .flying).rcc.settings.rising ∧ (pressing .flying).rcc.settings.mode = .flying
      ∧ (pressing .flying).rcc.confirmTimer = some 2000)
    ∧ (pressing .stopped).rcc.candidate = some true ∧ false ≠ (pressing .flying).rcc.settings.rising := by decide

theorem witness_SpliceConfirmed_held :
    let s : State := { pressing .stopped with seq := { Seq.powerOn with line := .held, hold := ⟨false, true, false, false⟩ } }
    s.rcc.splice = .pressing ∧ s.rcc.settings.mode = .stopped ∧ s.rcc.unconfirmed = some seam ∧ s.seq.line = .held
    ∧ s.seq.hold = ⟨false, true, false, false⟩ := ⟨rfl, rfl, rfl, rfl, rfl⟩

/-! ## Witnesses: the line -/

/-- The line IDLE with a gap pending. -/
def gapped (l : LineState) : State :=
  { ready with seq := { Seq.powerOn with line := l, gap := some ⟨2000, 4⟩, pace := .running 10000 } }

theorem witness_LineRunStartsPanel :
    ready.Accepts 1#8 ∧ (working .running none).seq.line ≠ .idle
    ∧ (ready.seq.line = .idle ∧ ready.rcc.activeRoll = some roll ∧ (ready.segs.get 5).state = .ready)
    ∧ ((⟨true, false, false, false⟩ : HoldSet) ≠ ⟨false, false, false, false⟩ ∧ ready.rcc.pressDue = none
      ∧ ∀ j, (ready.segs.get j).state ≠ .active)
    ∧ (ready.seq.hold = ⟨false, false, false, false⟩ ∧ ready.rcc.splice ≠ .slotted ∧ ready.forming? = none
      ∧ ready.seq.step = none ∧ ready.seq.gap = none ∧ ready.seq.kept = none
      ∧ ∀ j, (ready.segs.get j).waiting ≠ some .boundary)
    ∧ ({ ready with orders := [] }.orders.isEmpty = true)
    ∧ (ready.inhibitsNow = ⟨false, false, false, false, false, false, false, false⟩ ∧ ready.orders = order :: []
      ∧ ready.pattern? order.slot = some (.flat 12000 :: [.pleat 40 2 2500 1200 2400 false])
      ∧ order.prefs.find? (fun n => decide ((ready.outlets.counts n).occupied + (ready.outlets.counts n).reserved
          < (ready.outlets.counts n).capacity)) = some .stackA
      ∧ (ready.makePlan order).ownNeed + ready.geometry.panelGap + 2000 ≤ roll.remaining)
    ∧ ((gapped .idle).seq.gap = some ⟨2000, 4⟩ ∧ (gapped .idle).seq.step = none ∧ (gapped .idle).seq.kept = none)
    ∧ (working .idle (some (stroke .fed))).seq.step = some ⟨.stroke .right, 2600, .fed⟩ :=
  ⟨accepts _ rfl, by decide, ⟨rfl, rfl, rfl⟩, ⟨by decide, rfl, by decide⟩,
    ⟨rfl, by decide, rfl, rfl, rfl, rfl, by decide⟩, rfl, ⟨rfl, rfl, rfl, rfl, by decide +kernel⟩, ⟨rfl, rfl, rfl⟩, rfl⟩

/-- A flat step of the FORMING panel, cut after its feed. -/
def flatFed (l : LineState) : State :=
  let w := working l (some ⟨.flat, 12000, .fed⟩)
  { w with seq := { w.seq with plan := some { plan with run := 0, stroke := 0 } }, segs := Six.fill (seg .ready) }

theorem witness_LineRunStartsPanel_short_and_flat :
    (let s : State := { ready with rcc := { ready.rcc with u1 := .active { roll with remaining := 4000 } } }
     s.Accepts 1#8 ∧ s.inhibitsNow = ⟨false, false, false, false, false, false, false, false⟩
       ∧ 4000 < (s.makePlan order).ownNeed + s.geometry.panelGap + 2000 ∧ s.rcc.standbyRoll = none)
    ∧ (let s := flatFed .idle
       s.seq.line = .idle ∧ s.rcc.activeRoll = some roll ∧ (s.segs.get 5).state = .ready
         ∧ s.seq.hold = ⟨false, false, false, false⟩ ∧ s.seq.kept = none ∧ s.seq.step = some ⟨.flat, 12000, .fed⟩
         ∧ s.forming? = some panel ∧ s.seq.plan = some { plan with run := 0, stroke := 0 }
         ∧ plan.runs[0]? = some (.flat 12000 12300) ∧ 0 + 1 < plan.runs.length ∧ order.cancel ≠ .abandon) :=
  ⟨⟨accepts _ rfl, rfl, by decide +kernel, rfl⟩, rfl, rfl, rfl, rfl, rfl, rfl, rfl, rfl, rfl, by decide, by decide⟩

/-- The line between two panels, a gap step cut after its feed or a gap delivery kept. -/
def betweenPanels (l : LineState) (step : Option StepRec) (kept : Option Nat) : State :=
  { ready with seq := { Seq.powerOn with line := l, step := step, kept := kept } }

theorem witness_LineRunStartsPanel_cut :
    (let s := betweenPanels .idle none (some 2000)
     s.Accepts 1#8 ∧ s.rcc.activeRoll = some roll ∧ s.seq.hold = ⟨false, false, false, false⟩ ∧ s.forming? = none
       ∧ s.seq.gap = none ∧ s.boundaryClosed = false ∧ s.seq.kept = some 2000 ∧ s.seq.step = none)
    ∧ (let s := betweenPanels .idle (some ⟨.gap, 2000, .fed⟩) none
       s.forming? = none ∧ s.seq.gap = none ∧ s.boundaryClosed = false ∧ s.seq.kept = none
         ∧ s.seq.step = some ⟨.gap, 2000, .fed⟩)
    ∧ (let s := working .idle (some (stroke .strokeCut))
       s.seq.step = some ⟨.stroke .right, 2600, .strokeCut⟩ ∧ (∀ j, (s.segs.get j).drive ≠ .withdraw)
         ∧ ((drive0 .withdraw s).segs.get 0).drive = .withdraw ∧ (stroke .feedCut).phase = .feedCut)
    ∧ (let p : Plan := { plan with runs := [.flat 12000 12300], run := 0, stroke := 0 }
       let w := flatFed .idle
       let s : State := { w with seq := { w.seq with plan := some p } }
       s.seq.step = some ⟨.flat, 12000, .fed⟩ ∧ s.forming? = some panel ∧ s.seq.plan = some p ∧ p.gap ≠ 0
         ∧ p.runs[p.run]? = some (.flat 12000 12300) ∧ p.runs.length ≤ p.run + 1) :=
  ⟨⟨accepts _ rfl, rfl, rfl, rfl, rfl, rfl, rfl, rfl⟩, ⟨rfl, rfl, rfl, rfl, rfl⟩, ⟨rfl, by decide, rfl, rfl⟩,
    rfl, rfl, rfl, by decide, rfl, by decide⟩

/-- The line IDLE with a splice SLOTTED, SEAM_PATH as given. -/
def offering (seamPath : Nat) : State :=
  let s := slotted .flying 5000000 ready
  { s with geometry := { s.geometry with seamPath := seamPath } }

theorem witness_LineRunStartsPanel_slot :
    (let own := (ready.makePlan order).ownNeed
     (offering (own + 10000)).Accepts 1#8 ∧ (offering (own + 10000)).rcc.splice = .slotted
       ∧ (offering (own + 10000)).inhibitsNow = ⟨false, false, false, false, false, false, false, false⟩
       ∧ (offering (own + 10000)).rcc.slotRequest = true
       ∧ 0 + (own + 10000) ≤ 0 + ((offering (own + 10000)).makePlan order).ownNeed + (offering (own + 10000)).rcc.settings.clearance
       ∧ ¬ 0 + (own + 10001) ≤ 0 + ((offering (own + 10001)).makePlan order).ownNeed + (offering (own + 10001)).rcc.settings.clearance
       ∧ (offering (own + 10001)).rcc.standbyRoll = some spare ∧ spare.cls = order.cls)
    ∧ (let s : State := { slotted .flying 4000 ready with orders := [] }
       s.inhibitsNow ≠ ⟨false, false, false, false, false, false, false, false⟩)
    ∧ (let s := slotted .flying 4000 ready
       let t : State := { s with rcc := { s.rcc with u1 := .standby { spare with cls := 3 } } }
       t.inhibitsNow = ⟨false, false, false, false, false, false, false, false⟩
         ∧ 4000 < (t.makePlan order).ownNeed + t.geometry.panelGap + 2000
         ∧ t.rcc.standbyRoll = some { spare with cls := 3 } ∧ 3 ≠ order.cls) := by
  refine ⟨⟨accepts _ rfl, rfl, ?_, rfl, ?_, ?_, rfl, rfl⟩, ?_, ?_, ?_, rfl, ?_⟩ <;> decide +kernel

theorem witness_LineStopByState :
    (working .running none).Accepts 1#8 ∧ (working .running none).rcc.pressDue = none
    ∧ (working .estop none).seq.line = .estop ∧ ready.seq.line = .idle ∧ (working .waiting none).seq.line = .waiting
    ∧ (working .held none).seq.line = .held ∧ (working .holding none).seq.line = .holding
    ∧ ((working .running (some (stroke .feed))).seq.line = .running
      ∧ (working .running (some (stroke .feed))).seq.step.isSome = true)
    ∧ ((working .draining none).seq.line = .draining ∧ (working .draining none).boundaryClosed = true)
    ∧ ((gapped .running).seq.step = none ∧ (gapped .running).boundaryClosed = false
      ∧ (gapped .running).forming? = none)
    ∧ (working .running none).forming?.isSome = true :=
  ⟨accepts _ rfl, rfl, rfl, rfl, rfl, rfl, rfl, ⟨rfl, rfl⟩, ⟨rfl, rfl⟩, ⟨rfl, rfl, rfl⟩, rfl⟩

/-- The line in a state with HOST alone in the hold requester set. -/
def hosted (l : LineState) : State :=
  { gapped l with seq := { (gapped l).seq with hold := ⟨true, false, false, false⟩ } }

theorem witness_HoldAndRelease :
    ready.Accepts 1#8 ∧ ready.rcc.pressDue = none ∧ ready.seq.line = .idle ∧ (gapped .waiting).seq.line = .waiting
    ∧ ((working .draining (some (stroke .feed))).seq.step.isSome = true
      ∧ (working .draining (some (stroke .feed))).seq.line = .draining)
    ∧ ready.seq.hold.host = false
    ∧ ((hosted .holding).seq.hold = ⟨true, false, false, false⟩ ∧ (hosted .holding).seq.line = .holding
      ∧ (hosted .holding).seq.stop ≠ .now)
    ∧ ((hosted .held).seq.line = .held ∧ (hosted .held).seq.stop = .none
      ∧ (hosted .held).seq.gap = some ⟨2000, 4⟩ ∧ (hosted .held).seq.step = none ∧ (hosted .held).seq.kept = none
      ∧ (hosted .held).someEngaged = true)
    ∧ { (hosted .held).seq with stop := .now }.stop = .now :=
  ⟨accepts _ rfl, rfl, rfl, rfl, ⟨rfl, rfl⟩, rfl, ⟨rfl, rfl, by decide⟩, ⟨rfl, rfl, rfl, rfl, rfl, rfl⟩, rfl⟩

theorem witness_HoldAndRelease_leaving :
    let held (stop : StopPending) (s : State) : State := { s with seq := { s.seq with line := .held, stop := stop } }
    let lost (s : State) : State := { s with segs := Six.fill (seg .parked) }
    ((held .now ready).seq.line = .held ∧ (held .now ready).rcc.pressDue = none ∧ (held .now ready).seq.stop = .now)
    ∧ ((held .endOfPanel ready).forming? = none ∧ (held .endOfPanel ready).seq.step = none)
    ∧ ((lost (held .none ready)).someEngaged = false ∧ (lost (held .none ready)).forming? = none)
    ∧ ((lost (held .none (flatFed .held))).someEngaged = false ∧ (lost (held .none (flatFed .held))).forming? = some panel)
    ∧ ((held .none ready).someEngaged = true ∧ (held .none ready).seq.gap = none ∧ (held .none ready).seq.kept = none)
    ∧ ((held .endOfPanel (working .held (some (stroke .fed)))).seq.step = some ⟨.stroke .right, 2600, .fed⟩
      ∧ (held .endOfPanel (working .held (some (stroke .fed)))).someEngaged = true)
    ∧ ((held .none (working .held none)).seq.step = none ∧ (held .none (working .held none)).seq.plan = some plan
      ∧ plan.runs[plan.run]? = some (.pleat 80 .box false 2600 (Six.fill 1200) (Six.fill (some 1200)) 5125))
    ∧ ((held .none (gapped .held)).seq.gap = some ⟨2000, 4⟩ ∧ (held .none (gapped .held)).someEngaged = true) :=
  ⟨⟨rfl, rfl, rfl⟩, ⟨rfl, rfl⟩, ⟨rfl, rfl⟩, ⟨rfl, rfl⟩, ⟨rfl, rfl, rfl⟩, ⟨rfl, rfl⟩, ⟨rfl, rfl, rfl⟩, rfl, rfl⟩

theorem witness_HoldAndRelease_between_steps :
    ((working .draining none).Accepts 1#8 ∧ (working .draining none).seq.step = none
      ∧ (working .draining none).boundaryClosed = true ∧ (working .draining none).rcc.pressDue = none)
    ∧ ((openAt .running).seq.step = none ∧ (openAt .running).boundaryClosed = false ∧ (openAt .running).seq.stop ≠ .now)
    ∧ (let s := betweenPanels .held none (some 2000)
       s.seq.line = .held ∧ s.rcc.pressDue = none ∧ s.seq.stop = .none ∧ s.someEngaged = true ∧ s.forming? = none
         ∧ s.seq.gap = none ∧ s.boundaryClosed = false ∧ s.seq.kept = some 2000)
    ∧ (let w := betweenPanels .held (some ⟨.gap, 2000, .fed⟩) none
       let s : State := { w with seq := { w.seq with stop := .endOfPanel } }
       s.seq.stop = .endOfPanel ∧ s.someEngaged = true ∧ s.seq.step = some ⟨.gap, 2000, .fed⟩ ∧ s.seq.kept = none)
    ∧ (flatFed .held).someEngaged = true ∧ (flatFed .held).seq.stop = .none :=
  ⟨⟨accepts _ rfl, rfl, rfl, rfl⟩, ⟨rfl, rfl, by decide⟩, ⟨rfl, rfl, rfl, rfl, rfl, rfl, rfl, rfl⟩, ⟨rfl, rfl, rfl, rfl⟩,
    rfl, rfl⟩

theorem witness_LineResetClears :
    (working .draining none).Accepts 1#8 ∧ (working .draining none).seq.line = .draining
    ∧ (working .held (some (stroke .fed))).Accepts 1#8 ∧ (working .held (some (stroke .fed))).seq.line = .held :=
  ⟨accepts _ rfl, rfl, accepts _ rfl, rfl⟩

/-! ## Witnesses: settings, steam, verifier -/

theorem witness_RateAndSteamSettingsWritten :
    let r : Five Nat := ⟨2000, 2000, 2000, 2000, 0⟩
    let timed : State := { ready with steam := { ready.steam with stallTimer := some 5000 } }
    ready.Accepts 1#8 ∧ ¬ (2001 ≤ 2000) ∧ (r.sb + r.z1 + r.z2 + r.z3 + r.z4 ≤ 8000 ∧ 5 ≤ 5 ∧ 5 ≤ 120)
    ∧ (∀ ms, ready.steam.stallTimer = some ms → ms < 120 * 1000) ∧ timed.steam.stallTimer = some 5000
    ∧ 5 * 1000 ≤ 5000 :=
  ⟨accepts _ rfl, by decide, by decide, (by intro ms h; cases h), rfl, by decide⟩

theorem witness_OutletAndVerifierSettingsWritten :
    ready.Accepts 1#8 ∧ ((⟨1, 200⟩ : OutletBody).outlet = 1) ∧ 2 ≤ (⟨2, 200⟩ : OutletBody).outlet
    ∧ (2000 + ready.geometry.verifyDist ≤ 12600) := ⟨accepts _ rfl, rfl, by decide, by decide⟩

theorem witness_RoundGrantsByPriority :
    let first := firstGrants 1900 ⟨0, 650, 380, 500, 700⟩ ⟨300, 400, 400, 400, 400⟩
    1900 - first.total < 250 + 100 + 300 ∧ (firstGrants 8000 ⟨1000, 1000, 1000, 1000, 1000⟩ first).total ≤ 8000 := by
  decide

theorem witness_RoundCountsAndSetsCeiling :
    (working .estop none).seq.line = .estop ∧ ready.seq.line ≠ .estop ∧ ready.steam.supplyTimer = true
    ∧ ready.rcc.splice ≠ .slotted ∧ ready.steam.satisfied + 1 < 4 ∧ 4 ≤ { ready.steam with satisfied := 3 }.satisfied + 1
    ∧ (let c := { ready.steam with starved := ⟨2, 0, 0, 0⟩ }
       3 ≤ c.starved.get 0 + 1 ∧ 10 * 0 < 9 * 1) := by decide

theorem witness_TunnelEvents :
    let p := { panel with head := 0 }
    let s : State := { ready with conv := 20000, track := [p] }
    s.track[0]? = some p ∧ (Span.holds (s.geometry.zones.get 0) (s.conv - p.head) = true)
    ∧ ((s.classFields p.cls).tmax : Int) < 2401 ∧ (ready.zones.get 3).silenceTimer = true
    ∧ { ready.steam with stallTimer := some 0 }.stallTimer.isSome = true := ⟨rfl, rfl, by decide, rfl, rfl⟩

/-- A checker with one expected fold at a count, its last match of the same panel at 1000. -/
def expectingOne (count : Nat) (locked : Bool) : Checker :=
  { Checker.powerOn with
    queue := [⟨1, 2600, count, false, 100⟩], last := some (1, 1000), locked := locked, run := 3 }

/-- Segment 0's checker is that one. -/
def expecting (conv count : Nat) (locked : Bool) : State :=
  { ready with
    conv := conv, track := [panel]
    verify := { Verifier.powerOn with checkers := Verifier.powerOn.checkers.set 0 (expectingOne count locked) } }

theorem witness_VerifierEvents :
    ((State.reset.verify.checkers.get 0).queue = [] ∧ (State.reset.segs.get 0).engaged = false)
    ∧ ((ready.segs.get 0).engaged = true ∧ (ready.segs.get 0).active.verify = true
      ∧ (ready.verify.checkers.get 0).queue = [])
    ∧ ((expecting 4000 4501 true).conv ≤ 4501 + 500 ∧ 500 < absDiff 4000 4501)
    ∧ (((expecting 4500 4000 true).verify.checkers.get 0).queue = ⟨1, 2600, 4000, false, 100⟩ :: []
      ∧ 4500 ≤ 4000 + 500 ∧ absDiff 4500 4000 ≤ 500 ∧ (2600 + 100 < 4500 - 1000))
    ∧ (4000 + 500 < (expecting 4501 4000 false).conv)
    ∧ ((∀ x, TxEntry.snapshot x ∉ List.replicate 27 TxEntry.flagNotice) ∧ (List.replicate 27 TxEntry.flagNotice).length < 28)
    ∧ { ready.verify with timer := true }.timer = true :=
  ⟨⟨rfl, rfl⟩, ⟨rfl, rfl, rfl⟩, ⟨by decide, by decide⟩, ⟨rfl, by decide, by decide, by decide⟩, by decide,
    ⟨(by intro x h; cases List.eq_of_mem_replicate h), by decide⟩, rfl⟩

theorem witness_FeedFigures :
    driveSteps ((12000 * (100000 + 2500) + 50000) / 100000) = 4100 :: [4100, 4100] := by decide

/-! ## Witnesses: the stroke cycle, exit, e-stop -/

theorem witness_PaceStartsNextStep :
    ((∀ p, ready.seq.pace ≠ .running p) ∧ (working .running (some (stroke .feed))).seq.pace = .running 10000)
    ∧ ((gapped .running).seq.pace = .running 10000 ∧ (gapped .running).seq.step = none
      ∧ (gapped .running).seq.line = .running ∧ (∀ i, ((gapped .running).segs.get i).waiting ≠ some .now)
      ∧ (gapped .running).seq.gap = some ⟨2000, 4⟩)
    ∧ ((working .running none).seq.gap = none ∧ (working .running none).seq.plan = some plan
      ∧ plan.runs[plan.run]? = some (.pleat 80 .box false 2600 (Six.fill 1200) (Six.fill (some 1200)) 5125)
      ∧ { plan with run := 0 }.runs[0]? = some (.flat 12000 12300)) :=
  ⟨⟨(by intro p h; cases h), rfl⟩, ⟨rfl, rfl, rfl, by decide, rfl⟩, ⟨rfl, rfl, rfl, rfl⟩⟩

theorem witness_PaceStartsNextStep_copies :
    let trims : SegSettings := { SegSettings.default with engage := true, depthTrim := -300 }
    let w := working .running none
    let s : State := { w with segs := w.segs.set 0 { w.segs.get 0 with
      staged := trims, status := .pending, waiting := some .now } }
    s.seq.pace = .running 10000 ∧ s.seq.step = none ∧ s.seq.gap = none ∧ (s.segs.get 0).waiting = some .now
    ∧ (s.segs.get 0).status = .pending ∧ (s.segs.get 0).engaged = true ∧ ((0 : Int) + trims.depthTrim < 0) := by
  refine ⟨rfl, rfl, rfl, rfl, rfl, rfl, by decide⟩

/-- The feed phase of the stroke in hand, segment 0 alone still feeding, its drive steps left. -/
def feeding (left : List Nat) : State :=
  let s := drive0 (.feed 5125) (working .running (some (stroke .feed)))
  { s with fmu := s.fmu.set 0 { s.fmu.get 0 with inStep := true, depth := 1200, left := left, commanded := 1 } }

theorem witness_FeedDoneEndsPhase :
    ((ready.segs.get 0).drive.isFeed = false)
    ∧ (((feeding [3792]).segs.get 0).drive = .feed 5125 ∧ ((feeding [3792]).segs.get 0).engaged = true
      ∧ (feeding [3792]).seq.step.map (·.phase) = some .feed ∧ ((feeding [3792]).fmu.get 0).left = 3792 :: [])
    ∧ ((feeding []).seq.step = some (stroke .feed) ∧ ((feeding []).fmu.get 0).left = []
      ∧ (∀ j, j ≠ 0 → ((feeding []).segs.get j).drive.isFeed = false) ∧ (feeding []).seq.line = .running
      ∧ (feeding []).rcc.u1 = .active roll ∧ (feeding []).rcc.u2 = .empty ∧ (feeding []).rcc.splice = .idle
      ∧ (feeding []).rcc.unconfirmed = none ∧ (feeding []).rcc.seams = [] ∧ 5125 < roll.remaining)
    ∧ ((drives (.feed 5125) (working .running (some (stroke .feed)))).segs.get 5).drive.isFeed = true :=
  ⟨rfl, ⟨rfl, rfl, rfl, rfl⟩, ⟨rfl, rfl, by decide, rfl, rfl, rfl, rfl, rfl, rfl, by decide⟩, rfl⟩

/-- A cut stroke whose last drive step is out on segment 0. -/
def feedingCut (l : LineState) : State :=
  let s := feeding []
  { s with seq := { s.seq with line := l, step := some (stroke .feedCut) } }

theorem witness_FeedDoneEndsPhase_cut :
    (feedingCut .held).seq.step = some (stroke .feedCut) ∧ (feedingCut .held).seq.line ≠ .waiting
    ∧ (feedingCut .running).seq.line = .running ∧ (∀ j, j ≠ 0 → ((feedingCut .held).segs.get j).drive.isFeed = false)
    ∧ ∀ b, (feedingCut .held).rcc.u2 ≠ .active b := ⟨rfl, by decide, rfl, by decide, (by intro b h; cases h)⟩

/-- A fault with a cut step in HELD that it ends at once, and one in the stroke phase. -/
theorem witness_FaultHoldsMovingLine_step :
    (let s := feedingCut .held
     (s.segs.get 0).drive.isFeed = true ∧ (s.segs.get 0).state ≠ .faulted ∧ s.seq.line = .held
       ∧ s.seq.step = some (stroke .feedCut) ∧ (∀ j, j ≠ 0 → (s.segs.get j).drive.isFeed = false)
       ∧ s.rcc.splice ≠ .slotted ∧ s.rcc.activeRoll = some roll ∧ s.webAdvance < roll.remaining)
    ∧ (let s := drives (.stroke 1200 .right) (working .running (some (stroke .stroke)))
       (s.segs.get 0).drive.isStroke = true ∧ s.seq.step.map (·.phase) = some .stroke ∧ (s.segs.get 5).engaged = true
         ∧ s.forming? = some panel) :=
  ⟨⟨rfl, by decide, rfl, rfl, by decide, by decide, rfl, by decide⟩, rfl, rfl, rfl, rfl⟩

/-- The same feed end with the detect point, a seam and the roll's end at the web count it reaches, 5125. -/
def feedingTo (splice : SpliceState) (remaining : Nat) : State :=
  let s := feeding []
  { s with rcc := { s.rcc with
      u1 := .active { roll with remaining := remaining }, splice := splice, detectPoint := some 5125
      unconfirmed := some seam, seams := [⟨5125, 1, 2, 0, .accept⟩] } }

theorem witness_FeedDoneEndsPhase_roll_change :
    ((feedingTo .pressing 5126).rcc.splice = .pressing ∧ (feedingTo .pressing 5126).rcc.settings.mode = .flying
      ∧ (feedingTo .pressing 5126).rcc.confirmTimer = none ∧ (feedingTo .pressing 5126).rcc.detectPoint = some 5125
      ∧ (feedingTo .pressing 5126).rcc.unconfirmed = some seam)
    ∧ (feedingTo .pressing 5126).rcc.seams.any (fun m => decide (m.position ≤ 5125)) = true
    ∧ ((feedingTo .idle 5125).rcc.u1 = .active { roll with remaining := 5125 } ∧ (feedingTo .idle 5125).rcc.splice ≠ .pressing
      ∧ (feedingTo .idle 5125).rcc.pressDue = none ∧ (feedingTo .idle 5125).forming?.isSome = true) :=
  ⟨⟨rfl, rfl, rfl, rfl, rfl⟩, by decide, rfl, by decide, rfl, rfl⟩

theorem witness_FeedDoneEndsPhase_slotted :
    (let s := slotted .flying 105125 (feeding [])
     s.rcc.spindle .u2 = .active { roll with remaining := 105125 } ∧ (∀ b, s.rcc.spindle .u1 ≠ .active b)
       ∧ s.rcc.splice = .slotted ∧ s.rcc.pressDue = none ∧ s.rcc.settings.tailReserve = 105125 - 5125
       ∧ s.rcc.firePoint = none ∧ s.orders = order :: [] ∧ order.seamPolicy ≠ .mark)
    ∧ (let s := slotted .flying 105124 (feeding [])
       105124 - 5125 < s.rcc.settings.tailReserve ∧ s.rcc.seams.length < 3 ∧ s.rcc.settings.mode = .flying
         ∧ s.rcc.spindle .u1 = .standby spare ∧ 0 < spare.remaining ∧ 0 < s.geometry.detectPath)
    ∧ ((slotted .stopped 105124 (feedingCut .held)).seq.line = .held
      ∧ (slotted .stopped 105124 (feeding [])).rcc.settings.mode = .stopped
      ∧ (slotted .stopped 105124 (feeding [])).seq.line = .running ∧ 5125 < 105124)
    ∧ (let far : Seam := ⟨5126, 1, 2, 0, .accept⟩
       ¬ ([far, far, far].filter fun m => decide (5125 < m.position)).length < 3) :=
  ⟨⟨rfl, (by intro b h; cases h), rfl, rfl, rfl, rfl, rfl, by decide⟩,
    ⟨by decide, by decide, rfl, rfl, by decide, by decide⟩, ⟨rfl, rfl, rfl, by decide⟩, by decide⟩

theorem witness_StrokeDoneDelivers :
    let s := drive0 (.stroke 1200 .right) (working .running (some (stroke .stroke)))
    ((ready.segs.get 0).drive.isStroke = false)
    ∧ ((s.segs.get 0).drive.isStroke = true ∧ (∀ j, j ≠ 0 → (s.segs.get j).drive.isStroke = false)
      ∧ s.seq.step = some ⟨.stroke .right, 2600, .stroke⟩ ∧ s.forming? = some panel ∧ 0 < s.geometry.outletDist)
    ∧ ((drives (.stroke 1200 .right) s).segs.get 5).drive.isStroke = true :=
  ⟨rfl, ⟨rfl, by decide, rfl, rfl, by decide⟩, rfl⟩

/-- The last stroke of a run out on segment 0, the plan at stroke `k`. -/
def delivering (l : LineState) (k : Nat) (c : CancelPending) : State :=
  let s := drive0 (.stroke 1200 .right) (working l (some (stroke .stroke)))
  { s with seq := { s.seq with plan := some { plan with stroke := k } }, orders := [{ order with cancel := c }] }

theorem witness_StrokeDoneDelivers_boundary :
    let s := delivering .holding 79 .none
    (s.seq.step = some ⟨.stroke .right, 2600, .stroke⟩ ∧ s.forming? = some panel ∧ 0 < s.geometry.outletDist
      ∧ s.seq.plan = some { plan with stroke := 79 } ∧ s.seq.gap = none ∧ (∀ j, j ≠ 0 → (s.segs.get j).drive.isStroke = false)
      ∧ plan.runs[plan.run]? = some (.pleat 80 .box false 2600 (Six.fill 1200) (Six.fill (some 1200)) 5125))
    ∧ (80 ≤ 79 + 1 ∧ plan.runs.length ≤ plan.run + 1)
    ∧ ((delivering .draining 79 .none).seq.line = .draining ∧ (delivering .running 79 .none).seq.pace = .running 10000)
    ∧ ((delivering .holding 1 .abandon).orders = [{ order with cancel := .abandon }] ∧ ¬ (1 % 2 = 0))
    ∧ (¬ (80 ≤ 1 + 1) ∧ (delivering .holding 1 .none).seq.line = .holding)
    ∧ (1 + 1 < 80 ∧ 0 % 2 = 0 ∧ (delivering .holding 0 .abandon).seq.line.moving = true) :=
  ⟨⟨rfl, rfl, by decide, rfl, rfl, by decide, rfl⟩, by decide, ⟨rfl, rfl⟩, ⟨rfl, by decide⟩, ⟨by decide, rfl⟩,
    by decide, by decide, rfl⟩

theorem witness_BackoffFollowsTensions :
    let s := working .running (some (stroke .stroke))
    let b := working .running (some (stroke .backoff))
    let c := drive0 .withdraw (working .held (some (stroke .strokeCut)))
    (s.seq.step.map (·.phase) ≠ some .backoff ∧ 4095 ≤ (s.segs.get 0).active.tensionLimit)
    ∧ (ready.seq.step.map (·.phase) ≠ some .stroke)
    ∧ ((s.segs.get 0).engaged = true ∧ s.seq.step = some (stroke .stroke) ∧ s.seq.backoffs < 3 ∧ s.seq.line = .running
      ∧ 3 ≤ { s.seq with backoffs := 3 }.backoffs)
    ∧ (b.seq.step = some ⟨.stroke .right, 2600, .backoff⟩ ∧ ∀ j, (b.segs.get j).drive ≠ .withdraw)
    ∧ ((c.segs.get 0).drive = .withdraw ∧ (∀ j, j ≠ 0 → (c.segs.get j).drive ≠ .withdraw)
      ∧ c.seq.step = some ⟨.stroke .right, 2600, .strokeCut⟩ ∧ c.seq.line.moving = false)
    ∧ ((drives .withdraw b).segs.get 5).drive = .withdraw ∧ ((s.fmu.get 0).tension = none) :=
  ⟨by decide, by decide, ⟨rfl, rfl, by decide, rfl, by decide⟩, ⟨rfl, by decide⟩, ⟨rfl, by decide, rfl, rfl⟩, rfl, rfl⟩

theorem witness_ExitSettlesPanel :
    let s : State := { ready with conv := 560000, track := [gonePanel 0, gonePanel 1] }
    s.track = gonePanel 0 :: [gonePanel 1]
    ∧ ((gonePanel 0).state = .travelling ∧ (gonePanel 0).tail = some 0 ∧ s.geometry.outletDist ≤ s.conv - 0)
    ∧ ¬ (s.geometry.outletDist ≤ s.conv - 1) ∧ s.link.queue.length < 28 := ⟨rfl, ⟨rfl, rfl, by decide⟩, by decide, by decide⟩

theorem witness_EstopStopsEverything :
    (inHand .estop true).estopInput = true ∧ (inHand .running false).estopInput = false
    ∧ (inHand .running false).seq.line ≠ .estop
    ∧ (∃ x, (working .draining (some ⟨.gap, 2000, .feed⟩)).seq.step = some x ∧ x.kind = .gap) :=
  ⟨rfl, rfl, by decide, _, rfl, rfl⟩

theorem witness_EstopStopsEverything_splice :
    ((spliced .pressing (inHand .running false)).rcc.splice = .pressing
      ∧ (spliced .slotted (inHand .running false)).rcc.splice = .slotted)
    ∧ ((inHand .running false).forming? = some panel ∧ (inHand .running false).orders = order :: []
      ∧ (inHand .running false).seq.plan = some plan)
    ∧ (let g := { seg .ready with status := .pending, waiting := some .now }
       g.status = .pending ∧ g.state ≠ .parked) := ⟨⟨rfl, rfl⟩, ⟨rfl, rfl, rfl⟩, rfl, by decide⟩

theorem witness_EstopReleasedAndBinLevel :
    let s : State := { ready with estopInput := true, seq := { Seq.powerOn with line := .estop } }
    ready.estopInput = false ∧ s.estopInput = true ∧ s.seq.line = .estop ∧ s.rcc.pressDue = none
    ∧ (∀ i, (s.segs.get i).state ≠ .active) ∧ false = ready.outlets.binFull ∧ true ≠ ready.outlets.binFull :=
  ⟨rfl, rfl, rfl, rfl, by decide, rfl, by decide⟩

/-! ## One step each: figures of the spec's worked examples -/

/-- What a command leaves passes a test. -/
def leaves (c : Instr) (s : State) (p : State → Bool) : Bool :=
  match exec c s with
  | .next t => p t
  | _ => false

/-- Table 6.8.1's panel opening: 12,000 wu at a sample of 2000 is 12,300, in three drive steps of 4100. -/
theorem test_line_run_feeds_flat_run :
    leaves (.lineRun 1#8) { ready with fmu := Six.fill { FeedSeg.powerOn with tension := some 2000 } } (fun t =>
      decide ((t.segs.get 5).drive = .feed 4100) && decide ((t.fmu.get 5).left = [4100, 4100])
        && decide (t.seq.pace = .running 10000)) = true := by decide +kernel

/-- Table 2.2.3: the second stroke of a BOX pleat is RIGHT; its advance is the graded spacing 2600. -/
theorem test_pace_starts_second_stroke :
    leaves .paceTimerExpiry (working .running none) (fun t =>
      decide (t.seq.step = some ⟨.stroke .right, 2600, .feed⟩) && decide ((t.segs.get 0).drive = .feed 5150)) = true := by
  decide +kernel

/-- R66, R159: a stroke's delivery: conveyor count, stroke count, and a fold expected VERIFY_DIST on. -/
theorem test_stroke_done_delivers :
    leaves (.strokeDone 0) (drive0 (.stroke 1200 .right) (working .running (some (stroke .stroke)))) (fun t =>
      decide (t.conv = 2600) && decide (t.track.map (·.strokes) = [2])
        && decide ((t.verify.checkers.get 5).queue = [⟨1, 2600, 8600, false, 100⟩])) = true := by decide +kernel

/-- R64: the feed end of a stroke: the web advances and the blades are commanded. -/
theorem test_feed_done_strokes :
    leaves (.feedDone 0) (feeding []) (fun t =>
      decide (t.web = 5125) && decide ((t.segs.get 0).drive = .stroke 1200 .right)
        && decide (t.rcc.u1 = .active { roll with remaining := 4994875 })) = true := by decide +kernel

/-- R71: a jam in the stroke phase withdraws every engaged blade and counts the backoff. -/
theorem test_jam_backs_off :
    leaves (.jamReport 2) (working .running (some (stroke .stroke))) (fun t =>
      decide ((t.segs.get 5).drive = .withdraw) && decide ((t.segs.get 2).retryTotal = 1)
        && decide (t.track.map (·.backoffs) = [1])) = true := by decide +kernel

/-- Table 3.7.3: at an e-stop the FORMING panel's tail is the conveyor count, and the record INTERRUPTED. -/
theorem test_estop_ends_panel :
    leaves .estopActive { working .running (some (stroke .stroke)) with conv := 7912000 } (fun t =>
      decide (t.track.map (·.tail) = [some 7912000]) && t.track.all (·.reasons.interrupted)
        && decide (t.seq.line = .estop) && decide ((t.segs.get 3).state = .parked)) = true := by decide +kernel

/-- R57: LINE-STOP END_OF_PANEL inside a panel drains the line. -/
theorem test_line_stop_drains :
    leaves (.lineStop 1#8 1) (working .running (some (stroke .feed))) (fun t =>
      decide (t.seq.line = .draining) && decide (t.seq.stop = .endOfPanel)) = true := by decide +kernel

/-- R87, R85: a BOUNDARY apply of ENGAGE on in IDLE commands home. -/
theorem test_seg_apply_homes :
    leaves (.segApply 1#8 1 0)
      { ready with segs := Six.fill { Segment.powerOn with staged := { SegSettings.default with engage := true } } }
      (fun t => decide ((t.segs.get 0).drive = .home) && decide ((t.segs.get 0).status = .inProgress)
        && decide ((t.segs.get 1).drive = .none)) = true := by decide +kernel

/-- R121: a STANDBY roll loaded beside an ACTIVE roll above the trigger arms the splice. -/
theorem test_roll_load_arms :
    leaves (.rollLoad 1#8 1 50218 4 3000000) ready (fun t =>
      decide (t.rcc.u2 = .standby spare) && decide (t.rcc.splice = .armed)) = true := by decide +kernel

/-- R139: a sample of 1950 with Kp 208 and SP 2000 demands 650 (Table 8.1.3). -/
theorem test_zone_sample_demand :
    leaves (.zoneSample 3 1950) { ready with zones := Four.fill { Zone.powerOn with sp := 2000, kp := 208 } } (fun t =>
      decide ((t.zones.get 3).demand = 650) && decide ((t.zones.get 0).demand = 0)) = true := by decide +kernel

/-- R140, R141: a probe at the start of Z1 collects T − Tb; a sample above Tmax scorches. -/
theorem test_zone_sample_dose :
    leaves (.zoneSample 0 2500) { ready with conv := 20000, track := [panel] } (fun t =>
      decide (t.track.map (·.lead.z1) = [1000]) && t.track.all (·.reasons.scorched)) = true := by decide +kernel

/-- R162, R163: a fold 500 past its count is matched; its pitch 3500 is out of 2600 ± 100. -/
theorem test_fold_out_of_tolerance :
    leaves (.foldEvent 0) (expecting 4500 4000 true) (fun t =>
      decide ((t.verify.checkers.get 0).outOfTol = 1) && decide (t.track.map (·.outOfTol) = [1])
        && decide ((t.verify.checkers.get 0).run = 0)) = true := by decide +kernel

/-- R165: the fourth fault in a row unlocks a checker. -/
theorem test_fourth_fault_unlocks :
    leaves (.foldEvent 0) (expecting 4000 4501 true) (fun t =>
      !(t.verify.checkers.get 0).locked && decide ((t.verify.checkers.get 0).extra = 1)) = true := by decide +kernel

/-- R181, R179: an underdosed panel drops into the reject bin and frees its credit. -/
theorem test_exit_rejects :
    let s : State := { working .running (some ⟨.gap, 2000, .feed⟩) with conv := 558000, track := [gonePanel 0] }
    let t := State.exitTest { s with conv := 560000 }
    t.track = [] ∧ t.outlets.port = some .reject ∧ t.outlets.stackA = ⟨50, 0, 0⟩ ∧ t.outlets.nextExit = 2 := by
  decide +kernel

/-- R188: a BUSY reply to KIND 50H is D0H; only an UNKNOWN reply to it is FFH. -/
theorem test_reply_kind_by_code :
    replyKind .busy 0x50#8 = 0xD0#8 ∧ replyKind .unknown 0x50#8 = 0xFF#8 ∧ replyKind .unknown 0x3E#8 = 0xBE#8 := by decide

/-- R190: a list of one entry a segment carries its count and is filled with zeros to six entries. -/
theorem test_segment_list_layout :
    (stagedItems 1 ready).length = 49 ∧ (stagedItems 1 ready).take 2 = [1#8, 1#8]
    ∧ statusItemsOf 5 ready = [2#8, 0#8, 0#8, 0#8, 0#8, 0#8, 0#8] := by decide +kernel

/-- R74: a flat step cut after its feed is delivered when the line runs, and the next step waits for the pace timer. -/
theorem test_flat_taken_up_with_pace :
    leaves (.lineRun 1#8) (flatFed .idle) (fun t =>
      decide (t.conv = 12000) && decide (t.seq.pace = .running 10000) && decide (t.seq.step = none)) = true := by
  decide +kernel

/-- R125, R126: a fire commands the press, with the knife in FLYING mode. -/
theorem test_fire_commands_press :
    (missed .noMatch none).fire.rcc.pressCommand = some .pressAndKnife
    ∧ { missed .noMatch none with rcc := { (missed .noMatch none).rcc with
        settings := { SpliceSettings.default with mode := .stopped } } }.fire.rcc.pressCommand = some .press := by
  decide +kernel

/-- R128: the edge that confirms a splice is remembered, for the next one that fires in the same feed phase. -/
theorem test_confirming_edge_is_remembered :
    leaves .debounceTimerExpiry (pressing .flying) (fun t =>
      t.rcc.edgeSeen && decide (t.rcc.splice = .idle) && decide (t.rcc.seams.length = 1)) = true := by decide +kernel

/-- R132: the seam list stands in order of position, older first among equals. -/
theorem test_seams_in_order :
    (insertSeam ⟨5, 1, 2, 9, .accept⟩ [⟨3, 0, 0, 0, .accept⟩, ⟨5, 0, 0, 0, .accept⟩, ⟨7, 0, 0, 0, .accept⟩]).map (·.time)
      = [0, 0, 9, 0] := by decide

end Sys2Proof.Tests
end

section
/-! PROOFS. PAT-DROP (R28): its tests, the emptied slot, and the ORDER-ADD that does not find it. -/

namespace Sys2Proof.Machine

/-! ## A request in process, and its command -/

@[simp] theorem processing_pattern? (n : Nat) (s : State) : s.processing.pattern? n = s.pattern? n := rfl
@[simp] theorem processing_slotInUse (n : Nat) (s : State) : s.processing.slotInUse n = s.slotInUse n := rfl
@[simp] theorem processing_patterns (s : State) : s.processing.patterns = s.patterns := rfl

/-- R188: what an accepted request command leaves, from what its block answers. -/
theorem exec_request_accepted {i : Instr} {tag : Byte} {r : Request} {s t : State} {code : ResultCode}
    {items : List Byte} (hi : i.request? = some (tag, r)) (ha : s.Accepts tag)
    (hr : handle r s.processing = (t, ⟨code, items⟩)) :
    exec i s = .next (State.replied r.kind tag code items t) := by
  rw [exec_request hi, takeRequest_accepted _ ha, hr]

theorem inRange_iff {lo hi v : Nat} : inRange lo hi v = true ↔ lo ≤ v ∧ v ≤ hi := by
  simp [inRange]

/-! ## The preference list of an ORDER-ADD -/

theorem outletOf?_byte (o : Outlet) : outletOf? o.byte = some o := by
  cases o <;> rfl

theorem exists_outlet_byte {n : Nat} (h : n ≤ 2) : ∃ o : Outlet, n = o.byte := by
  match n, h with
  | 0, _ => exact ⟨.stackA, rfl⟩
  | 1, _ => exact ⟨.stackB, rfl⟩
  | 2, _ => exact ⟨.rewind, rfl⟩

theorem mapM_outletOf?_bytes (os : List Outlet) : (os.map Outlet.byte).mapM outletOf? = some os := by
  induction os with
  | nil => rfl
  | cons o os ih => simp [outletOf?_byte, ih]

theorem exists_outlet_bytes {l : List Nat} (h : ∀ n ∈ l, n ≤ 2) : ∃ os : List Outlet, l = os.map Outlet.byte := by
  induction l with
  | nil => exact ⟨[], rfl⟩
  | cons n l ih =>
    obtain ⟨o, rfl⟩ := exists_outlet_byte (h n List.mem_cons_self)
    obtain ⟨os, rfl⟩ := ih fun m hm => h m (List.mem_cons_of_mem _ hm)
    exact ⟨o :: os, rfl⟩

/-- R50: the preference list is read from the first `prefCount` of the three bytes. -/
theorem prefList_eq_mapM {b : OrderBody} (h : 1 ≤ b.prefCount ∧ b.prefCount ≤ 3) :
    prefList b = ([b.pref1, b.pref2, b.pref3].take b.prefCount).mapM outletOf? := by
  obtain h1 | h2 | h3 : b.prefCount = 1 ∨ b.prefCount = 2 ∨ b.prefCount = 3 := by omega
  · rw [prefList, h1]; rfl
  · rw [prefList, h2]; rfl
  · rw [prefList, h3]; rfl

theorem exists_seamPolicy {n : Nat} (h : n ≤ 1) : ∃ p, seamPolicyOf? n = some p := by
  match n, h with
  | 0, _ => exact ⟨.skip, rfl⟩
  | 1, _ => exact ⟨.mark, rfl⟩

/-- R49, R50: a body with every field in its range and different good outlets makes an order with its slot and
class. -/
theorem exists_orderOf? {b : OrderBody} (htag : 1 ≤ b.tag ∧ b.tag ≤ 65535) (hslot : 1 ≤ b.slot ∧ b.slot ≤ 48)
    (hcls : b.cls < 16) (hgrade : 800 ≤ b.grade ∧ b.grade ≤ 1250) (hpanels : 1 ≤ b.panels ∧ b.panels ≤ 9999)
    (hfold : b.foldLimit ≤ 65535) (hseam : b.seamPolicy ≤ 1) (hcount : 1 ≤ b.prefCount ∧ b.prefCount ≤ 3)
    (hnodup : ([b.pref1, b.pref2, b.pref3].take b.prefCount).Nodup)
    (hprefs : ∀ n ∈ [b.pref1, b.pref2, b.pref3].take b.prefCount, n ≤ 2) :
    ∃ o, orderOf? b = some o ∧ o.slot = b.slot ∧ o.cls = b.cls := by
  obtain ⟨prefs, hbytes⟩ := exists_outlet_bytes hprefs
  obtain ⟨policy, hpolicy⟩ := exists_seamPolicy hseam
  have hlist : prefList b = some prefs := by rw [prefList_eq_mapM hcount, hbytes, mapM_outletOf?_bytes]
  have hdistinct : prefs.Nodup := by rw [hbytes] at hnodup; exact hnodup.of_map _
  simp [orderOf?, hlist, hpolicy, inRange_iff, Config.slots, htag, hslot, hcls, hgrade, hpanels, hfold, hdistinct]

/-- R50: an order of a defined class for a slot that holds no pattern is NOT_FOUND. -/
theorem reqOrderAdd_emptySlot {b : OrderBody} {o : Order} {s : State} (ho : orderOf? b = some o)
    (hcls : s.class? o.cls ≠ none) (hslot : s.pattern? o.slot = none) :
    State.reqOrderAdd b s = answered .notFound orderCount s := by
  simp [State.reqOrderAdd, ho, hcls, hslot]

/-! ## PAT-DROP -/

/-- R28: the four tests of PAT-DROP, in order. -/
theorem reqPatDrop_eq (slot : Nat) (s : State) :
    State.reqPatDrop slot s =
      if slot < 1 ∨ 48 < slot then answered .range (patDropItems slot) s
      else if s.pattern? slot = none then answered .notFound (patDropItems slot) s
      else if s.slotInUse slot = true then answered .inUse (patDropItems slot) s
      else answered .ok (patDropItems slot) { s with patterns := s.patterns.erase slot } := by
  have hrange : inRange 1 Config.slots slot = false ↔ slot < 1 ∨ 48 < slot := by
    rw [← Bool.not_eq_true, inRange_iff, Config.slots]; omega
  simp only [State.reqPatDrop, Bool.not_eq_true', hrange, Option.isNone_iff_eq_none]

/-- Settles O17: the four tests are PAT-DROP's own, a table in canonical form reads nothing at the key erased, and
ORDER-ADD tests the slot right after the ranges and the class. -/
theorem patDropEmptiesSlot : Obligations.PatDropEmptiesSlot := by
  intro tag slot s ha hwf t
  have hempty : t.pattern? slot = none := Table.get?_erase_same slot hwf
  refine ⟨?_, rfl, hempty, fun n hn => Table.get?_erase_of_ne _ hn, ?_⟩
  · have hdrop := reqPatDrop_eq slot s.processing
    rw [processing_pattern?, processing_slotInUse] at hdrop
    split_ifs at hdrop ⊢ <;> exact exec_request_accepted (r := .patDrop slot) rfl ha hdrop
  · intro again b u hu hpatterns hb htag hslot ⟨hcls, hdefined⟩ hgrade hpanels hfold hseam hcount ⟨hnodup, hprefs⟩
    subst hb
    obtain ⟨o, ho, hoslot, hocls⟩ :=
      exists_orderOf? htag hslot hcls hgrade hpanels hfold hseam hcount hnodup hprefs
    have hgone : u.processing.pattern? o.slot = none := by
      rw [hoslot, State.pattern?, processing_patterns, hpatterns]; exact hempty
    have hclass : u.processing.class? o.cls ≠ none := by rwa [hocls]
    exact exec_request_accepted (r := .orderAdd b) rfl hu (reqOrderAdd_emptySlot ho hclass hgone)

end Sys2Proof.Machine
end

section
/-! PROOFS. An allocation round (R146, R147): the first pass, the truncated shares, the units handed out one each,
and the grants they make together. -/

namespace Sys2Proof.Five

/-! ## Five numbers as a list -/

theorem getD_zipWith {f : Nat → Nat → Nat} (hf : f 0 0 = 0) (v w : Five Nat) (k : Nat) :
    (zipWith f v w).toList.getD k 0 = f (v.toList.getD k 0) (w.toList.getD k 0) := by
  match k with
  | 0 | 1 | 2 | 3 | 4 => rfl
  | k + 5 => exact hf.symm

theorem total_eq_sum (v : Five Nat) : v.total = v.toList.sum := by
  simp only [total, toList, List.sum_cons, List.sum_nil]
  omega

theorem total_zipWith_add (v w : Five Nat) : (zipWith (· + ·) v w).total = v.total + w.total := by
  simp only [total, zipWith]
  omega

theorem countP_toList (p : Nat → Bool) (v : Five Nat) :
    v.toList.countP p = ((List.range 5).filter fun k => p (v.toList.getD k 0)).length := by
  have hmap : v.toList = (List.range 5).map fun k => v.toList.getD k 0 := rfl
  rw [hmap, List.countP_map, List.countP_eq_length_filter, ← hmap]
  rfl

end Sys2Proof.Five

namespace Sys2Proof.Machine

/-! ## The first pass -/

/-- R146: each consumer in its turn. -/
theorem firstGrants_getD (c : Nat) (demand reserve : Five Nat) {k : Nat} (hk : k < 5) :
    (firstGrants c demand reserve).toList.getD k 0 = min (demand.toList.getD k 0)
      (min (reserve.toList.getD k 0) (c - ((firstGrants c demand reserve).toList.take k).sum)) := by
  match k, hk with
  | 0, _ | 1, _ | 2, _ | 3, _ | 4, _ =>
    simp only [firstGrants, Five.toList, List.getD_cons_zero, List.getD_cons_succ, List.take_zero,
      List.take_succ_cons, List.sum_cons, List.sum_nil, Nat.sub_add_eq, Nat.sub_zero]

theorem firstGrants_getD_le (c : Nat) (demand reserve : Five Nat) {k : Nat} (hk : k < 5) :
    (firstGrants c demand reserve).toList.getD k 0 ≤ demand.toList.getD k 0 := by
  rw [firstGrants_getD c demand reserve hk]
  exact Nat.min_le_left _ _

/-- R146: the amount available never falls below 0. -/
theorem sum_take_firstGrants_le (c : Nat) (demand reserve : Five Nat) :
    ∀ k ≤ 5, ((firstGrants c demand reserve).toList.take k).sum ≤ c
  | 0, _ => Nat.zero_le c
  | k + 1, hk => by
    have ih := sum_take_firstGrants_le c demand reserve k (by omega)
    have hgrant := firstGrants_getD c demand reserve (k := k) (by omega)
    have hlength : k < (firstGrants c demand reserve).toList.length := hk
    rw [List.sum_take_succ _ _ hlength, ← List.getD_eq_getElem _ 0 hlength]
    omega

theorem firstGrants_total_le (c : Nat) (demand reserve : Five Nat) :
    (firstGrants c demand reserve).total ≤ c := by
  rw [Five.total_eq_sum]
  exact sum_take_firstGrants_le c demand reserve 5 le_rfl

/-! ## What truncation loses -/

/-- R147: a truncated share is less than its unmet amount, because the leftover is less than their sum. -/
theorem share_lt_unmet {leftover all unmet : Nat} (hless : leftover < all) (hunmet : 0 < unmet) :
    leftover * unmet / all < unmet :=
  Nat.div_lt_of_lt_mul (Nat.mul_lt_mul_of_pos_right hless hunmet)

/-- R147: the truncated shares take no more than the leftover. -/
theorem mul_sum_shares_le (leftover all : Nat) (unmet : List Nat) :
    all * (unmet.map fun u => leftover * u / all).sum ≤ leftover * unmet.sum := by
  induction unmet with
  | nil => simp
  | cons u us ih =>
    have hdiv := Nat.mul_div_le (leftover * u) all
    simp only [List.map_cons, List.sum_cons, Nat.mul_add]
    omega

/-- R147: the truncation loses less than one unit, `all - 1` parts of `all`, for each consumer with an unmet
amount. -/
theorem mul_sum_le_shares {all : Nat} (hall : 0 < all) (leftover : Nat) (unmet : List Nat) :
    leftover * unmet.sum ≤ all * (unmet.map fun u => leftover * u / all).sum
      + (all - 1) * unmet.countP (0 < ·) := by
  induction unmet with
  | nil => simp
  | cons u us ih =>
    have hsplit := Nat.div_add_mod (leftover * u) all
    have hrest := Nat.mod_lt (leftover * u) hall
    rcases Nat.eq_zero_or_pos u with rfl | hu
    · simpa using ih
    · simp only [List.map_cons, List.sum_cons, List.countP_cons, Nat.mul_add, hu, decide_true, if_true]
      omega

/-- R147: the undistributed units are fewer than the consumers with an unmet amount. -/
theorem undistributed_lt_countP {leftover : Nat} {unmet : List Nat} (hless : leftover < unmet.sum) :
    leftover - (unmet.map fun u => leftover * u / unmet.sum).sum < unmet.countP (0 < ·) := by
  have hall : 0 < unmet.sum := by omega
  have hsome : 0 < unmet.countP (0 < ·) := by
    rw [List.countP_pos_iff]
    by_contra hnone
    push Not at hnone
    have hzero : ∀ u ∈ unmet, u = 0 := fun u hu => by simpa using hnone u hu
    exact hall.ne' (List.sum_eq_zero hzero)
  have hbound := mul_sum_le_shares hall leftover unmet
  generalize unmet.sum = all at *
  generalize (unmet.map fun u => leftover * u / all).sum = shares at *
  generalize unmet.countP (0 < ·) = n at *
  refine Nat.lt_of_mul_lt_mul_left (a := all) ?_
  calc all * (leftover - shares) = leftover * all - all * shares := by rw [Nat.mul_sub, Nat.mul_comm]
    _ ≤ (all - 1) * n := by omega
    _ < all * n := Nat.mul_lt_mul_of_pos_right (by omega) hsome

/-! ## The units handed out -/

/-- R147: the unit that goes to a consumer with the unmet amount `unmet` while one of `left` is left. -/
def unitFor (left unmet : Nat) : Nat := if 0 < left ∧ 0 < unmet then 1 else 0

/-- R147: the units that go one each, in priority order, to consumers with an unmet amount. -/
def handedOut : Nat → List Nat → List Nat
  | _, [] => []
  | left, u :: us => unitFor left u :: handedOut (left - unitFor left u) us

/-- R147: a consumer gets a unit when it has an unmet amount and those before it leave one. -/
theorem handedOut_getD (left : Nat) (unmet : List Nat) (k : Nat) :
    (handedOut left unmet).getD k 0 =
      if 0 < unmet.getD k 0 ∧ (unmet.take k).countP (0 < ·) < left then 1 else 0 := by
  induction unmet generalizing left k with
  | nil => simp [handedOut]
  | cons u us ih =>
    cases k with
    | zero => simp [handedOut, unitFor, and_comm]
    | succ k =>
      rw [handedOut, List.getD_cons_succ, List.getD_cons_succ, ih, List.take_succ_cons, List.countP_cons]
      refine if_congr (and_congr_right fun _ => ?_) rfl rfl
      rcases Nat.eq_zero_or_pos u with rfl | hu
      · simp [unitFor]
      · simp only [unitFor, hu, decide_true, if_true, and_true]
        split_ifs <;> omega

theorem handedOut_getD_le_one (left : Nat) (unmet : List Nat) (k : Nat) :
    (handedOut left unmet).getD k 0 ≤ 1 := by
  rw [handedOut_getD]
  split_ifs <;> omega

theorem handedOut_getD_eq_zero {left k : Nat} {unmet : List Nat} (hmet : unmet.getD k 0 = 0) :
    (handedOut left unmet).getD k 0 = 0 := by
  rw [handedOut_getD, if_neg (by omega)]

/-- R147: the priority order. No consumer gets a unit while one before it with an unmet amount gets none. -/
theorem handedOut_priority {left j k : Nat} {unmet : List Nat} (hjk : j < k)
    (hk : (handedOut left unmet).getD k 0 = 1) (hj : 0 < unmet.getD j 0) :
    (handedOut left unmet).getD j 0 = 1 := by
  rw [handedOut_getD] at hk ⊢
  have hbefore : (unmet.take j).countP (0 < ·) ≤ (unmet.take k).countP (0 < ·) :=
    (List.take_sublist_take_left hjk.le).countP_le
  split_ifs at hk with hunit
  exact if_pos ⟨hj, hbefore.trans_lt hunit.2⟩

theorem sum_handedOut (left : Nat) (unmet : List Nat) :
    (handedOut left unmet).sum = min left (unmet.countP (0 < ·)) := by
  induction unmet generalizing left with
  | nil => simp [handedOut]
  | cons u us ih =>
    rw [handedOut, List.sum_cons, ih, List.countP_cons]
    rcases Nat.eq_zero_or_pos u with rfl | hu
    · simp [unitFor]
    · simp only [unitFor, hu, decide_true, if_true, and_true]
      split_ifs <;> omega

/-! ## The shared pass -/

/-- R147: the truncated shares of the five consumers. -/
def truncatedShares (leftover : Nat) (unmet : Five Nat) : Five Nat :=
  ⟨leftover * unmet.sb / unmet.total, leftover * unmet.z1 / unmet.total, leftover * unmet.z2 / unmet.total,
    leftover * unmet.z3 / unmet.total, leftover * unmet.z4 / unmet.total⟩

/-- R147: the units that go to the five consumers. -/
def extraUnits (left : Nat) (unmet : Five Nat) : Five Nat :=
  let given := (handedOut left unmet.toList).getD
  ⟨given 0 0, given 1 0, given 2 0, given 3 0, given 4 0⟩

theorem truncatedShares_getD (leftover : Nat) (unmet : Five Nat) (k : Nat) :
    (truncatedShares leftover unmet).toList.getD k 0 = leftover * unmet.toList.getD k 0 / unmet.total := by
  match k with
  | 0 | 1 | 2 | 3 | 4 => rfl
  | k + 5 => simp [Five.toList]

theorem truncatedShares_toList (leftover : Nat) (unmet : Five Nat) :
    (truncatedShares leftover unmet).toList = unmet.toList.map fun u => leftover * u / unmet.toList.sum := by
  rw [← Five.total_eq_sum]
  rfl

theorem extraUnits_toList (left : Nat) (unmet : Five Nat) :
    (extraUnits left unmet).toList = handedOut left unmet.toList := by
  simp only [extraUnits, Five.toList, handedOut, List.getD_cons_zero, List.getD_cons_succ]

theorem truncatedShares_total_le {leftover : Nat} {unmet : Five Nat} (hless : leftover < unmet.total) :
    (truncatedShares leftover unmet).total ≤ leftover := by
  have hsum := mul_sum_shares_le leftover unmet.toList.sum unmet.toList
  rw [Five.total_eq_sum] at hless
  rw [Five.total_eq_sum, truncatedShares_toList]
  rw [Nat.mul_comm leftover] at hsum
  exact Nat.le_of_mul_le_mul_left hsum (by omega)

theorem undistributed_lt {leftover : Nat} {unmet : Five Nat} (hless : leftover < unmet.total) :
    leftover - (truncatedShares leftover unmet).total < unmet.toList.countP (0 < ·) := by
  rw [Five.total_eq_sum] at hless ⊢
  rw [truncatedShares_toList]
  exact undistributed_lt_countP hless

/-- R147: all the undistributed units are handed out. -/
theorem extraUnits_total {leftover : Nat} {unmet : Five Nat} (hless : leftover < unmet.total) :
    (extraUnits (leftover - (truncatedShares leftover unmet).total) unmet).total
      = leftover - (truncatedShares leftover unmet).total := by
  rw [Five.total_eq_sum, extraUnits_toList, sum_handedOut]
  exact Nat.min_eq_left (undistributed_lt hless).le

/-- R147: the model's test of the share is one of the unmet amount, since a share is less than an unmet amount
above 0. -/
theorem extraUnit_eq {leftover all : Nat} (hless : leftover < all) (left unmet : Nat) :
    extraUnit left (leftover * unmet / all) unmet
      = (leftover * unmet / all + unitFor left unmet, left - unitFor left unmet) := by
  have htest : leftover * unmet / all < unmet ↔ 0 < unmet :=
    ⟨Nat.zero_lt_of_lt, share_lt_unmet hless⟩
  simp only [extraUnit, unitFor, htest]
  split_ifs <;> rfl

/-- R147: what each consumer receives when the unmet amounts exceed the leftover. -/
theorem dividedShares_eq {leftover : Nat} {unmet : Five Nat} (hless : leftover < unmet.total) :
    dividedShares leftover unmet = Five.zipWith (· + ·) (truncatedShares leftover unmet)
      (extraUnits (leftover - (truncatedShares leftover unmet).total) unmet) := by
  simp only [dividedShares, extraUnit_eq hless, Five.zipWith, truncatedShares, extraUnits, Five.toList, handedOut,
    List.getD_cons_zero, List.getD_cons_succ]

theorem sharedPass_of_covered {leftover : Nat} {unmet : Five Nat} (hcovered : unmet.total ≤ leftover) :
    sharedPass leftover unmet = unmet := if_pos hcovered

theorem sharedPass_of_short {leftover : Nat} {unmet : Five Nat} (hless : leftover < unmet.total) :
    sharedPass leftover unmet = Five.zipWith (· + ·) (truncatedShares leftover unmet)
      (extraUnits (leftover - (truncatedShares leftover unmet).total) unmet) := by
  rw [sharedPass, if_neg hless.not_ge, dividedShares_eq hless]

theorem sharedPass_total_le (leftover : Nat) (unmet : Five Nat) :
    (sharedPass leftover unmet).total ≤ leftover := by
  rcases Nat.lt_or_ge leftover unmet.total with hless | hcovered
  · have hshares := truncatedShares_total_le hless
    have hextra := extraUnits_total hless
    rw [sharedPass_of_short hless, Five.total_zipWith_add]
    omega
  · rwa [sharedPass_of_covered hcovered]

/-- R147: no consumer receives more than its unmet amount. -/
theorem sharedPass_getD_le (leftover : Nat) (unmet : Five Nat) (k : Nat) :
    (sharedPass leftover unmet).toList.getD k 0 ≤ unmet.toList.getD k 0 := by
  rcases Nat.lt_or_ge leftover unmet.total with hless | hcovered
  · rw [sharedPass_of_short hless, Five.getD_zipWith rfl, truncatedShares_getD, extraUnits_toList]
    rcases Nat.eq_zero_or_pos (unmet.toList.getD k 0) with hmet | hunmet
    · rw [handedOut_getD_eq_zero hmet, hmet]
      simp
    · have hshare := share_lt_unmet hless hunmet
      have hunit := handedOut_getD_le_one (leftover - (truncatedShares leftover unmet).total) unmet.toList k
      omega
  · rw [sharedPass_of_covered hcovered]

/-- R147: where the leftover falls short, each consumer's truncated share and what it gets of the undistributed
units. -/
theorem exists_extra_of_short {leftover : Nat} {unmet : Five Nat} (hless : leftover < unmet.total) :
    ∃ extra : Five Nat,
      (∀ k, (sharedPass leftover unmet).toList.getD k 0
        = leftover * unmet.toList.getD k 0 / unmet.total + extra.toList.getD k 0)
      ∧ (∀ k, extra.toList.getD k 0 ≤ 1)
      ∧ (∀ k, unmet.toList.getD k 0 = 0 → extra.toList.getD k 0 = 0)
      ∧ (∀ j k, j < k → extra.toList.getD k 0 = 1 → 0 < unmet.toList.getD j 0 → extra.toList.getD j 0 = 1)
      ∧ (truncatedShares leftover unmet).total + extra.total = leftover
      ∧ extra.total < unmet.toList.countP (0 < ·) := by
  have htotal := extraUnits_total hless
  refine ⟨extraUnits (leftover - (truncatedShares leftover unmet).total) unmet, fun k => ?_, ?_⟩
  · rw [sharedPass_of_short hless, Five.getD_zipWith rfl, truncatedShares_getD]
  · rw [htotal, extraUnits_toList]
    exact ⟨handedOut_getD_le_one _ _, fun _ => handedOut_getD_eq_zero, fun _ _ => handedOut_priority,
      Nat.add_sub_cancel' (truncatedShares_total_le hless), undistributed_lt hless⟩

/-! ## The round -/

/-- R146: the unmet amounts after the first pass. -/
def unmetAfterFirst (c : Nat) (demand reserve : Five Nat) : Five Nat :=
  Five.zipWith (· - ·) demand (firstGrants c demand reserve)

theorem unmetAfterFirst_getD (c : Nat) (demand reserve : Five Nat) (k : Nat) :
    (unmetAfterFirst c demand reserve).toList.getD k 0
      = demand.toList.getD k 0 - (firstGrants c demand reserve).toList.getD k 0 :=
  Five.getD_zipWith rfl demand _ k

theorem roundGrants_eq (c : Nat) (demand reserve : Five Nat) :
    roundGrants c demand reserve = Five.zipWith (· + ·) (firstGrants c demand reserve)
      (sharedPass (c - (firstGrants c demand reserve).total) (unmetAfterFirst c demand reserve)) := rfl

theorem roundGrants_getD (c : Nat) (demand reserve : Five Nat) (k : Nat) :
    (roundGrants c demand reserve).toList.getD k 0 = (firstGrants c demand reserve).toList.getD k 0
      + (sharedPass (c - (firstGrants c demand reserve).total)
          (unmetAfterFirst c demand reserve)).toList.getD k 0 := by
  rw [roundGrants_eq, Five.getD_zipWith rfl]

theorem roundGrants_total_le (c : Nat) (demand reserve : Five Nat) :
    (roundGrants c demand reserve).total ≤ c := by
  have hfirst := firstGrants_total_le c demand reserve
  have hshared := sharedPass_total_le (c - (firstGrants c demand reserve).total)
    (unmetAfterFirst c demand reserve)
  rw [roundGrants_eq, Five.total_zipWith_add]
  omega

theorem roundGrants_getD_le (c : Nat) (demand reserve : Five Nat) {k : Nat} (hk : k < 5) :
    (roundGrants c demand reserve).toList.getD k 0 ≤ demand.toList.getD k 0 := by
  have hfirst := firstGrants_getD_le c demand reserve hk
  have hshared := sharedPass_getD_le (c - (firstGrants c demand reserve).total)
    (unmetAfterFirst c demand reserve) k
  rw [unmetAfterFirst_getD] at hshared
  rw [roundGrants_getD]
  omega

/-- Settles O49: the first pass consumer by consumer, the shared pass as truncated shares and a list of units handed
out, whose total is what the truncation leaves. -/
theorem roundGrantsByPriority : Obligations.RoundGrantsByPriority := by
  intro c demand reserve at_ first grants available unmet all leftover
  have hunmet (k : Nat) : (unmetAfterFirst c demand reserve).toList.getD k 0 = unmet k :=
    unmetAfterFirst_getD c demand reserve k
  refine ⟨fun k hk => ?_, firstGrants_total_le c demand reserve, fun hcovered k _ => ?_, fun hless => ?_,
    roundGrants_total_le c demand reserve, fun k hk => roundGrants_getD_le c demand reserve hk,
    fun hsupply hdemand k hk => ?_⟩
  · have hgrant : at_ first k = min (at_ demand k) (min (at_ reserve k) (available k)) :=
      firstGrants_getD c demand reserve hk
    exact ⟨hgrant, fun hempty => by simp only [hgrant, hempty, Nat.min_zero],
      firstGrants_getD_le c demand reserve hk⟩
  · have hgrant := roundGrants_getD c demand reserve k
    rwa [sharedPass_of_covered (unmet := unmetAfterFirst c demand reserve) hcovered, hunmet] at hgrant
  · obtain ⟨extra, hshared, hone, hnone, hpriority, htotal, hfew⟩ :=
      exists_extra_of_short (unmet := unmetAfterFirst c demand reserve) hless
    simp only [hunmet] at hshared hnone hpriority
    refine ⟨extra, fun k _ => ⟨?_, hone k, hnone k, share_lt_unmet hless, fun j => hpriority j k⟩, htotal, ?_⟩
    · rw [Nat.add_assoc]
      exact (roundGrants_getD c demand reserve k).trans (congrArg _ (hshared k))
    · rw [Five.countP_toList] at hfew
      simpa only [hunmet] using hfew
  · have hleft : leftover ≤ 8000 := (Nat.sub_le _ _).trans hsupply
    have hrest : unmet k ≤ 1000 := (Nat.sub_le _ _).trans (hdemand k hk)
    exact Nat.mul_le_mul hleft hrest

end Sys2Proof.Machine
end

section
/-! PROOFS. The latched flags (R192, R194, R195): what a raise sets and notifies, that the transmit queue's own work
leaves them, and READ-FLAGS and MASK-SET. -/

namespace Sys2Proof.Machine

/-! ## The transmit queue leaves the flags -/

@[simp] theorem admitReply_flags (l : Link) : l.admitReply.flags = l.flags := by
  unfold Link.admitReply
  split
  · split <;> rfl
  · rfl

@[simp] theorem admitNotice_flags (l : Link) : l.admitNotice.flags = l.flags := by
  unfold Link.admitNotice
  split <;> rfl

@[simp] theorem letIn_flags (l : Link) : l.letIn.flags = l.flags := by simp [Link.letIn]

@[simp] theorem start_flags (l : Link) : l.start.flags = l.flags := by
  unfold Link.start
  split
  · rw [letIn_flags]
    split <;> rfl
  · rfl

@[simp] theorem service_flags (l : Link) : l.service.flags = l.flags := by simp [Link.service]

@[simp] theorem pushReply_flags (e : TxEntry) (l : Link) : (l.pushReply e).flags = l.flags := by
  unfold Link.pushReply
  dsimp only
  split <;> exact letIn_flags l

@[simp] theorem replied_flags (kind tag : Byte) (code : ResultCode) (items : List Byte) (s : State) :
    (State.replied kind tag code items s).link.flags = s.link.flags := by simp [State.replied]

@[simp] theorem replied_masks (kind tag : Byte) (code : ResultCode) (items : List Byte) (s : State) :
    (State.replied kind tag code items s).link.masks = s.link.masks := by simp [State.replied]

/-! ## A raised flag -/

/-- Table 11.4.5: the numbers of the flags are the bits of the six-byte set. -/
theorem Flag.number_lt (f : Flag) : f.number < 48 := by
  cases f <;> simp only [Flag.number] <;> omega

theorem flagBit_getLsbD_self {n : Nat} (hn : n < 48) : (flagBit n).getLsbD n = true := by
  simp [flagBit, hn]

/-- R194: a raised flag is set, whether or not it was before. -/
theorem link_raise_flag_set {n : Nat} (hn : n < 48) (l : Link) : (l.raise n).flags.getLsbD n = true := by
  obtain hset | ⟨hwas, hsame⟩ := link_raise_flags n l
  · simp [hset, flagBit_getLsbD_self hn]
  · rwa [hsame]

/-- R194: raising one flag where none is set leaves that flag alone set. -/
theorem link_raise_flags_of_clear {n : Nat} {l : Link} (hclear : l.flags = 0#48) : (l.raise n).flags = flagBit n := by
  obtain hset | ⟨hwas, _⟩ := link_raise_flags n l
  · rw [hset, hclear, BitVec.zero_or]
  · simp [hclear] at hwas

/-- R192: a number that joins the pending FLAG-NOTICE stands in it. -/
theorem joinNotice_notice {n : Nat} (hn : n < 48) (l : Link) :
    ∃ set, (l.joinNotice n).notice = some set ∧ set.getLsbD n = true := by
  unfold Link.joinNotice
  split
  next pending _ => exact ⟨pending ||| flagBit n, rfl, by simp [flagBit_getLsbD_self hn]⟩
  next => split <;> exact ⟨flagBit n, rfl, flagBit_getLsbD_self hn⟩

/-- R194: raising a clear, unmasked flag notifies it. -/
theorem link_raise_notice {n : Nat} {l : Link} (hn : n < 48) (hclear : l.flags.getLsbD n = false)
    (hunmasked : l.masks.getLsbD n = false) :
    ∃ set, (l.raise n).notice = some set ∧ set.getLsbD n = true := by
  simp only [Link.raise, hclear, hunmasked, Bool.false_eq_true, if_false]
  exact joinNotice_notice hn _

@[simp] theorem link_raise_busy (n : Nat) (l : Link) : (l.raise n).busy = l.busy := by
  unfold Link.raise Link.joinNotice
  repeat' split
  all_goals rfl

/-- R188, R191: a raised flag takes none of the queue's last four entries, so a request is still accepted. -/
theorem State.Accepts.raise {s : State} {tag : Byte} (ha : s.Accepts tag) (f : Flag) : (s.raise f).Accepts tag where
  room := by
    obtain hsame | ⟨hroom, hjoined⟩ := link_raise_queue f.number s.link
    · rw [raise_link, hsame]
      exact ha.room
    · rw [raise_link, hjoined, List.length_append, List.length_singleton]
      omega
  free := (link_raise_busy f.number s.link).trans ha.free
  tagged := ha.tagged

/-! ## READ-FLAGS and MASK-SET -/

/-- R195: an accepted READ-FLAGS answers the flags as they stand and clears every flag. -/
theorem exec_readFlags_accepted {s : State} {tag : Byte} (ha : s.Accepts tag) :
    exec (.readFlags tag) s = .next (State.replied 0x34#8 tag .ok (flagBytes s.link.flags)
      { s with link := { s.link with busy := true, flags := 0#48 } }) :=
  exec_request_accepted (r := .readFlags) rfl ha rfl

/-- R196: an accepted MASK-SET write replaces the masks and answers them. -/
theorem exec_maskSet_accepted {s : State} {tag : Byte} (ha : s.Accepts tag) (m : BitVec 48) :
    exec (.maskSet tag (some m)) s = .next (State.replied 0x38#8 tag .ok (flagBytes m)
      { s with link := { s.link with busy := true, masks := m } }) :=
  exec_request_accepted (r := .maskSet (some m)) rfl ha rfl

/-- Settles O14: the state after a raise accepts READ-FLAGS as the state before it does, and what READ-FLAGS leaves
has every flag clear under the same masks, so a later raise sets its flag alone and notifies it when unmasked. -/
theorem flagsReadAndMasked : Obligations.FlagsReadAndMasked := by
  intro tag m f s ha reads
  refine ⟨exec_readFlags_accepted ha, exec_readFlags_accepted (ha.raise f), link_raise_flag_set f.number_lt s.link,
    ⟨_, exec_readFlags_accepted ha, replied_flags .., replied_masks .., ?_, fun hunmasked => ?_⟩,
    exec_maskSet_accepted ha m⟩
  · exact link_raise_flags_of_clear (replied_flags ..)
  · exact link_raise_notice f.number_lt (by simp) (by rwa [replied_masks])

end Sys2Proof.Machine
end

section
/-! PROOFS. What holds of every command: a request, an event, or power-on. The invariant (O5), what stands (O6), and
the e-stop (O7), each from its law for every operation. -/

namespace Sys2Proof.Machine

/-! ## The commands by kind -/

/-- What an event does before the link's own work; a request and power-on are no events. -/
def State.event : Instr → State → State
  | .characterReceived c broken, s => if broken then s.takeBroken else s.takeChar c
  | .characterGapTimeout, s => s.setRx Receiver.hunting
  | .transmitFrameDone, s => s.setLink Link.frameDone
  | .estopActive, s => if s.estopInput then s else s.estop
  | .estopInactive, s => if s.estopInput then s.estopReleased else s
  | .paceTimerExpiry, s => s.paceExpires
  | .feedDone i, s => s.feedIsDone i
  | .feedTimeout i, s => s.driveTimeout i Drive.isFeed .feedTimeout
  | .strokeDone i, s => s.strokeIsDone i
  | .strokeTimeout i, s => s.driveTimeout i Drive.isStroke .strokeTimeout
  | .tensionSample i v, s => s.tensionArrives i v
  | .jamReport i, s => s.offend i
  | .withdrawDone i, s => s.withdrawIsDone i
  | .withdrawTimeout i, s => s.driveTimeout i Drive.isWithdraw .withdrawTimeout
  | .homeDone i, s => s.homeIsDone i
  | .homeTimeout i, s => s.driveTimeout i Drive.isHome .homeTimeout
  | .parkDone i, s => s.parkIsDone i
  | .parkTimeout i, s => s.driveTimeout i Drive.isPark .parkTimeout
  | .driveFault i, s => s.segmentFault i .driveFault
  | .zoneSample z t, s => s.zoneSample z t
  | .zoneSilenceTimeout z, s => s.zoneSilent z
  | .supplyReading v, s => s.readSupply v
  | .supplyWatchTimeout, s => s.supplySilent
  | .stallTimerExpiry, s => if s.steam.stallTimer.isSome then s.stallNow else s
  | .tailCutDone, s => if s.rcc.u1.expiring? || s.rcc.u2.expiring? then s.spendTail else s
  | .tailTimerExpiry, s => if s.rcc.tailTimer then s.spendTail else s
  | .spindleMatched, s => if s.rcc.splice = .preparing then s.enterSlotted else s
  | .matchTimeout, s => if s.rcc.matchTimer then s.enterMissed .noMatch else s
  | .sealed, s => if s.rcc.splice = .pressing && decide (s.rcc.settings.mode = .stopped) then s.sealDone else s
  | .confirmTimeout, s =>
    if s.rcc.confirmTimer.isSome && decide (s.rcc.splice = .pressing) then s.enterMissed .noConfirm else s
  | .seamDetectorChange level, s => s.setRcc fun r =>
    if level = r.stable then { r with candidate := none, debounce := none }
    else { r with candidate := some level, debounce := some r.settings.debounce }
  | .debounceTimerExpiry, s => s.debounced
  | .rejectBinInputChange full, s => s.binLevel full
  | .foldEvent i, s => s.foldEvent i
  | .snapshotTimerExpiry, s => if s.verify.timer then s.setLink (Link.pushSnapshot s.snapshot) else s
  | _, s => s

/-- Every command is power-on, a request with its TAG, or an event served by the link at its end. -/
theorem command_kinds (c : Instr) :
    (∃ e b d, c = .powerOn e b d) ∨ (∃ tag r, c.request? = some (tag, r)) ∨
      (c.request? = none ∧ ∀ s, exec c s = (s.event c).finish) := by
  cases c
  case powerOn e b d => exact .inl ⟨e, b, d, rfl⟩
  all_goals first
    | exact .inr (.inl ⟨_, _, rfl⟩)
    | exact .inr (.inr ⟨rfl, fun _ => rfl⟩)

/-! ## The invariant -/

@[simp] theorem finish_eq (s : State) : s.finish = .next (s.setLink Link.service) := rfl

theorem handle_inv (r : Request) (s : State) (h : s.Inv) : (handle r s).1.Inv := by
  cases r <;> simp [handle, h]

/-- R188: a request keeps the invariant when its block's rule does. -/
theorem takeRequest_inv {kind tag : Byte} {f : Handler} (hf : ∀ s : State, s.Inv → (f s).1.Inv) {s : State}
    (h : s.Inv) : (s.takeRequest kind tag f).Inv := by
  have hb : (s.setLink fun l => { l with busy := true }).Inv := setLink_inv h h.queue
  have ht : ∀ u : State, u.Inv → (tagTested tag f u).1.Inv := by
    intro u hu; unfold tagTested; split
    · exact hu
    · exact hf u hu
  unfold State.takeRequest
  refine inv_ite (setLink_inv h h.queue) (inv_ite (setLink_inv h (pushReply_queue _ h.queue)) ?_)
  exact setLink_inv (ht _ hb) (pushReply_queue _ (ht _ hb).queue)

theorem handleAsked_inv (a : Asked) (s : State) (h : s.Inv) : (handleAsked a s).1.Inv := by
  cases a with
  | unknown => exact h
  | misshapen => exact h
  | request r => exact handle_inv r s h

theorem takeChar_inv (c : Byte) {s : State} (h : s.Inv) : (s.takeChar c).Inv := by
  unfold State.takeChar State.endFrame
  refine inv_ite ?_ (State.setRx_inv _ _ h)
  dsimp only
  split
  · exact takeRequest_inv (handleAsked_inv _) (State.setRx_inv _ _ h)
  · exact setLink_inv (State.setRx_inv _ _ h) h.queue

/-- Every block's rule: an event keeps the invariant. -/
theorem event_inv (c : Instr) {s : State} (h : s.Inv) : (s.event c).Inv := by
  cases c
  case characterReceived c broken => exact inv_ite (State.takeBroken_inv _ h) (takeChar_inv c h)
  case estopInactive =>
    simp only [State.event]
    split
    case isTrue ha => exact State.estopReleased_inv _ h ha
    case isFalse => exact h
  case transmitFrameDone => exact setLink_inv h (frameDone_queue h.queue)
  case seamDetectorChange level =>
    simp only [State.event]
    apply setRcc_inv h <;> split <;> rfl
  case snapshotTimerExpiry => exact inv_ite (setLink_inv h (pushSnapshot_queue _ h.queue)) h
  all_goals simp [State.event, inv_ite, h]

/-- Settles O4. -/
theorem resetMeetsInvariant : Obligations.ResetMeetsInvariant where
  patterns := rfl
  classes := rfl
  baseRate := by decide
  carries := by decide
  spindles := by decide
  ceiling := by decide
  estop := by decide
  orders := by decide
  queue := by decide
  track := ⟨by decide, .nil, by simp [State.reset]⟩
  credits := ⟨fun n => by cases n <;> rfl, fun n => by cases n <;> decide⟩
  exits := ⟨by decide, by decide, rfl⟩

/-- Power-on meets the invariant at any level of the three inputs, the queue of commands and the counter kept. -/
theorem poweredOn_inv (e b d : Bool) (pending : List Instr) (free : Nat) :
    State.Inv { State.poweredOn e b d with pending := pending, freeIndex := free } :=
  have hr : State.reset.Inv := resetMeetsInvariant
  { hr with
    estop := by cases e <;> simp [State.poweredOn]
    credits := ⟨fun n => by cases n <;> rfl, fun n => by cases n <;> exact Nat.zero_le _⟩
    exits := ⟨hr.exits.length, hr.exits.next, hr.exits.numbers⟩ }

theorem exec_inv {c : Instr} {s t : State} (h : s.Inv) (he : exec c s = .next t) : t.Inv := by
  obtain ⟨e, b, d, rfl⟩ | ⟨tag, r, hr⟩ | ⟨-, hexec⟩ := command_kinds c
  · cases he
    exact poweredOn_inv e b d ..
  · rw [exec_request hr] at he
    cases he
    have ht := takeRequest_inv (handle_inv r) (kind := r.kind) (tag := tag) h
    exact setLink_inv ht (service_queue ht.queue)
  · rw [hexec] at he
    cases he
    exact setLink_inv (event_inv c h) (service_queue (event_inv c h).queue)

/-- Settles O5: a request keeps the invariant through its block's rule, an event through its own, and power-on and
the idle millisecond meet it. -/
theorem stepKeepsInvariant : Obligations.StepKeepsInvariant := by
  intro s t h ht
  unfold step at ht
  split at ht
  · next c rest hp => exact exec_inv (s := { s with pending := rest }) { h with } ht
  · cases ht
    exact State.tick_inv s h

/-! ## What stands -/

theorem handle_standing {r : Request} (hr : requestSets r = false) (s : State) :
    (handle r s).1.standing = s.standing := by
  cases r <;> simp [handle, requestSets] at hr ⊢

/-- A request leaves what stands when its block's rule does. -/
theorem takeRequest_standing {kind tag : Byte} {f : Handler} (hf : ∀ s, (f s).1.standing = s.standing) (s : State) :
    (s.takeRequest kind tag f).standing = s.standing := by
  have ht : ∀ u : State, (tagTested tag f u).1.standing = u.standing := by
    intro u; unfold tagTested; split
    · rfl
    · exact hf u
  unfold State.takeRequest
  split_ifs
  · exact setLink_standing _ (countError_masks _)
  · exact setLink_standing _ (pushReply_masks ..)
  · exact (setLink_standing _ (pushReply_masks ..)).trans ((ht _).trans (setLink_standing _ rfl))

/-- No event but an e-stop edge and a character changes what stands. -/
theorem event_standing {c : Instr} (ha : c ≠ .estopActive) (hi : c ≠ .estopInactive)
    (hr : ∀ x b, c ≠ .characterReceived x b) (s : State) : (s.event c).standing = s.standing := by
  cases c
  case estopActive => exact absurd rfl ha
  case estopInactive => exact absurd rfl hi
  case characterReceived x b => exact absurd rfl (hr x b)
  case seamDetectorChange level => exact setRcc_standing _ (by simp only [apply_ite RollChange.settings, ite_self])
  all_goals simp [State.event, apply_ite State.standing]

/-- Settles O6: a request that sets nothing leaves what stands through its block's rule, and an event through its
own. -/
theorem settingsStand : Obligations.SettingsStand := by
  intro c s t hc he
  obtain ⟨e, b, d, rfl⟩ | ⟨tag, r, hr⟩ | ⟨-, hexec⟩ := command_kinds c
  · cases hc
  · have hsets : requestSets r = false := by
      cases c <;> simp_all [commandSets, Instr.request?]
    rw [exec_request hr] at he
    cases he
    simp [takeRequest_standing (handle_standing hsets)]
  · rw [hexec] at he
    cases he
    have hs := event_standing (c := c) (by rintro rfl; cases hc) (by rintro rfl; cases hc)
      (by rintro x b rfl; cases hc) s
    simp [hs]

/-! ## The e-stop input -/

theorem estopInput_of_standing {s t : State} (h : t.standing = s.standing) : t.estopInput = s.estopInput :=
  congrArg Standing.estopInput h

@[simp] theorem refused_fst (c : ResultCode) (s : State) : (refused c s).1 = s := rfl
@[simp] theorem refused_snd (c : ResultCode) (s : State) : (refused c s).2 = ⟨c, []⟩ := rfl
@[simp] theorem answered_fst (c : ResultCode) (f : State → List Byte) (s : State) : (answered c f s).1 = s := rfl
@[simp] theorem answered_snd (c : ResultCode) (f : State → List Byte) (s : State) :
    (answered c f s).2 = ⟨c, f s⟩ := rfl

@[simp] theorem evalStandby_estopInput (s : State) : s.evalStandby.estopInput = s.estopInput :=
  estopInput_of_standing (by simp)

@[simp] theorem triggerTest_estopInput (s : State) : s.triggerTest.estopInput = s.estopInput :=
  estopInput_of_standing (by simp)

@[simp] theorem reevaluateSince_estopInput (before s : State) :
    (State.reevaluateSince before s).estopInput = s.estopInput :=
  estopInput_of_standing (by simp)

@[simp] theorem stallIfDue_estopInput (s : State) : s.stallIfDue.estopInput = s.estopInput :=
  estopInput_of_standing (by simp)

@[simp] theorem setCapacity_estopInput (n : Outlet) (capacity : Nat) (s : State) :
    (s.setCapacity n capacity).estopInput = s.estopInput := by
  unfold State.setCapacity
  dsimp only
  split
  · exact congrArg Standing.estopInput (State.raise?_standing ..)
  · rfl

theorem foldl_estopInput {α : Type} {f : State → α → State} (h : ∀ s a, (f s a).estopInput = s.estopInput)
    (l : List α) (s : State) : (l.foldl f s).estopInput = s.estopInput := by
  induction l generalizing s with
  | nil => rfl
  | cons a l ih => exact (ih _).trans (h s a)

theorem reqPatDefine_estopInput (slot : Nat) (p : List PatStep) (s : State) :
    (State.reqPatDefine slot p s).1.estopInput = s.estopInput := by
  unfold State.reqPatDefine; repeat' split
  all_goals rfl

theorem reqPatDrop_estopInput (slot : Nat) (s : State) : (State.reqPatDrop slot s).1.estopInput = s.estopInput := by
  unfold State.reqPatDrop; repeat' split
  all_goals rfl

theorem reqClassSet_estopInput (n : Nat) (fields : Option FabricClass) (s : State) :
    (State.reqClassSet n fields s).1.estopInput = s.estopInput := by
  unfold State.reqClassSet; repeat' split
  all_goals rfl

theorem reqSegStage_estopInput (mask : Nat) (b : StageBody) (s : State) :
    (State.reqSegStage mask b s).1.estopInput = s.estopInput := by
  unfold State.reqSegStage; split
  · rfl
  · exact foldl_estopInput (f := State.stageSeg b) (fun _ _ => rfl) _ s

theorem reqSpliceSet_estopInput (settings : Option SpliceBody) (s : State) :
    (State.reqSpliceSet settings s).1.estopInput = s.estopInput := by
  unfold State.reqSpliceSet; repeat' split
  all_goals simp

theorem reqLineRate_estopInput (rate : Nat) (s : State) : (State.reqLineRate rate s).1.estopInput = s.estopInput := by
  unfold State.reqLineRate; split <;> rfl

theorem reqLineGeometry_estopInput (settings : Option Geometry) (s : State) :
    (State.reqLineGeometry settings s).1.estopInput = s.estopInput := by
  unfold State.reqLineGeometry; repeat' split
  all_goals rfl

theorem reqZoneSet_estopInput (zone : Nat) (settings : Option ZoneBody) (s : State) :
    (State.reqZoneSet zone settings s).1.estopInput = s.estopInput := by
  unfold State.reqZoneSet; repeat' split
  all_goals rfl

theorem reqSteamSet_estopInput (settings : Option SteamBody) (s : State) :
    (State.reqSteamSet settings s).1.estopInput = s.estopInput := by
  unfold State.reqSteamSet; repeat' split
  all_goals simp

theorem reqOutletSet_estopInput (settings : Option OutletBody) (s : State) :
    (State.reqOutletSet settings s).1.estopInput = s.estopInput := by
  unfold State.reqOutletSet; repeat' split
  all_goals simp

theorem reqVerifySet_estopInput (settings : Option VerifyBody) (s : State) :
    (State.reqVerifySet settings s).1.estopInput = s.estopInput := by
  unfold State.reqVerifySet; repeat' split
  all_goals rfl

theorem reqMaskSet_estopInput (masks : Option (BitVec 48)) (s : State) :
    (State.reqMaskSet masks s).1.estopInput = s.estopInput := by
  cases masks <;> rfl

/-- No request writes the level of the e-stop input: those that set nothing leave what stands, and each of the others
writes its own part. -/
theorem handle_estopInput (r : Request) (s : State) : (handle r s).1.estopInput = s.estopInput := by
  cases r
  case patDefine => exact reqPatDefine_estopInput ..
  case patDrop => exact reqPatDrop_estopInput ..
  case classSet => exact reqClassSet_estopInput ..
  case segStage => exact reqSegStage_estopInput ..
  case spliceSet => exact reqSpliceSet_estopInput ..
  case lineRate => exact reqLineRate_estopInput ..
  case lineGeometry => exact reqLineGeometry_estopInput ..
  case zoneSet => exact reqZoneSet_estopInput ..
  case steamSet => exact reqSteamSet_estopInput ..
  case outletSet => exact reqOutletSet_estopInput ..
  case verifySet => exact reqVerifySet_estopInput ..
  case maskSet => exact reqMaskSet_estopInput ..
  all_goals exact estopInput_of_standing (handle_standing rfl s)

theorem takeRequest_estopInput {kind tag : Byte} {f : Handler} (hf : ∀ s, (f s).1.estopInput = s.estopInput)
    (s : State) : (s.takeRequest kind tag f).estopInput = s.estopInput := by
  have ht : ∀ u : State, (tagTested tag f u).1.estopInput = u.estopInput := by
    intro u; unfold tagTested; split
    · rfl
    · exact hf u
  unfold State.takeRequest
  split_ifs
  · rfl
  · rfl
  · exact ht _

theorem takeChar_estopInput (c : Byte) (s : State) : (s.takeChar c).estopInput = s.estopInput := by
  unfold State.takeChar State.endFrame
  dsimp only
  split_ifs
  · split
    · refine takeRequest_estopInput (fun u => ?_) _
      cases decodeRequest _ _ with
      | request r => exact handle_estopInput r u
      | _ => rfl
    · rfl
  · rfl

/-- R76, R77: with the e-stop input active, no event but its going inactive changes its level. -/
theorem event_estopInput {c : Instr} {s : State} (ha : s.estopInput = true) (hc : c ≠ .estopInactive) :
    (s.event c).estopInput = true := by
  by_cases hactive : c = .estopActive
  · subst hactive
    simp [State.event, ha]
  by_cases hchar : ∃ x b, c = .characterReceived x b
  · obtain ⟨x, b, rfl⟩ := hchar
    simp only [State.event]
    split
    · exact ha
    · rw [takeChar_estopInput, ha]
  · have hs := event_standing hactive hc (fun x b h => hchar ⟨x, b, h⟩) s
    exact (estopInput_of_standing hs).trans ha

/-- Settles O7: the line is in ESTOP exactly while the e-stop input is active (the invariant), and no other command
writes the input's level. -/
theorem onlyReleaseLeavesEstop : Obligations.OnlyReleaseLeavesEstop := by
  intro c s t h hline hc hp he
  refine (exec_inv h he).estop.mp ?_
  have ha := h.estop.mpr hline
  obtain ⟨e, b, d, rfl⟩ | ⟨tag, r, hr⟩ | ⟨-, hexec⟩ := command_kinds c
  · exact absurd rfl (hp e b d)
  · rw [exec_request hr] at he
    cases he
    exact (takeRequest_estopInput (handle_estopInput r) s).trans ha
  · rw [hexec] at he
    cases he
    exact event_estopInput ha hc

end Sys2Proof.Machine
end

section
/-! PROOFS. A step and an idle millisecond (O1, O2), power-on (O3), the tests R188 makes of every request (O10), a
flag raised (O13), and the transmit queue (O11). -/

namespace Sys2Proof.Machine

/-- Settles O1. -/
theorem stepRunsFrontCommand : Obligations.StepRunsFrontCommand := fun _ _ => rfl

/-- Settles O2. -/
theorem emptyQueueIdlesOneMillisecond : Obligations.EmptyQueueIdlesOneMillisecond := by
  intro s hs
  rw [step, hs]
  simp only [State.tick, State.setLink, Steam.tick, hs]

/-- Settles O3: beside the levels of the inputs, only the set of flags raised at power-on depends on them. -/
theorem powerOnState : Obligations.PowerOnState := by
  intro estop binFull seam s
  have hflags : powerOnFlags estop binFull =
      1#48 ||| (if estop then 1#48 <<< 3 else 0#48) ||| (if binFull then 1#48 <<< 46 else 0#48) := by
    cases estop <;> cases binFull <;> decide
  simp only [← hflags]
  rfl

/-! ## The tests of R188 -/

theorem countError_errors (l : Link) :
    l.countError = { l with errors := if 65535 ≤ l.errors then 65535 else l.errors + 1 } := by
  have : satAdd 65535 l.errors 1 = if 65535 ≤ l.errors then 65535 else l.errors + 1 := by
    unfold satAdd; split <;> split <;> omega
  rw [Link.countError, this]

/-- Settles O10: each test stops a request before its block, whatever the request. -/
theorem badRequestsAnsweredByTests : Obligations.BadRequestsAnsweredByTests := by
  intro i tag r s hi
  rw [exec_request hi]
  refine ⟨fun hfull => ?_, fun hroom hbusy => ?_, fun hroom hfree htag => ?_⟩
  · rw [takeRequest_overrun _ hfull, ← countError_errors]
    rfl
  · rw [takeRequest_busy _ hroom hbusy]
    rfl
  · subst htag
    exact takeRequest_untagged _ hroom hfree

/-! ## A flag raised -/

/-- Settles O13. -/
theorem raiseLatchesAndNotifies : Obligations.RaiseLatchesAndNotifies := by
  intro f s
  refine ⟨fun hset => ?_, fun hclear hmask => ?_, fun set hclear hmask hnotice => ?_,
    fun hclear hmask hnotice hroom => ?_, fun hclear hmask hnotice hfull => ?_⟩
  · simp [State.raise, Link.raise, hset]
  · simp [State.raise, Link.raise, hclear, hmask, flagBit]
  · simp [State.raise, Link.raise, Link.joinNotice, hclear, hmask, hnotice, flagBit]
  · simp [State.raise, Link.raise, Link.joinNotice, hclear, hmask, hnotice, hroom, Config.noticeCapacity, flagBit]
  · simp [State.raise, Link.raise, Link.joinNotice, hclear, hmask, hnotice, Nat.not_lt.mpr hfull, Config.noticeCapacity, flagBit]

/-! ## The transmit queue -/

/-- A FLAG-NOTICE waits outside the queue (log 5). -/
def Link.noticeOutside (l : Link) : Prop := l.notice.isSome = true ∧ l.noticeQueued = false

theorem admitNotice_of_inside {l : Link} (h : l.notice = none ∨ l.noticeQueued = true) : l.admitNotice = l := by
  rcases h with h | h <;> simp [Link.admitNotice, h]

theorem admitNotice_of_outside {l : Link} (h : l.noticeOutside) (hroom : l.queue.length < 28) :
    l.admitNotice = { l with queue := l.queue ++ [.flagNotice], noticeQueued := true } := by
  simp [Link.admitNotice, h.1, h.2, Config.noticeCapacity, hroom]

theorem admitNotice_of_full {l : Link} (h : 28 ≤ l.queue.length) : l.admitNotice = l := by
  simp [Link.admitNotice, Config.noticeCapacity, Nat.not_lt.mpr h]

theorem admitReply_of_none {l : Link} (h : l.waitingReplies = []) : l.admitReply = l := by
  simp [Link.admitReply, h]

theorem admitReply_of_room {l : Link} {w : TxEntry} {more : List TxEntry} (h : l.waitingReplies = w :: more)
    (hroom : l.queue.length < 32) :
    l.admitReply = { l with queue := l.queue ++ [w], waitingReplies := more } := by
  simp [Link.admitReply, h, Config.queueCapacity, hroom]

theorem admitReply_of_full {l : Link} (h : 32 ≤ l.queue.length) : l.admitReply = l := by
  unfold Link.admitReply
  split
  · simp [Config.queueCapacity, Nat.not_lt.mpr h]
  · rfl

theorem letIn_of_full {l : Link} (h : 32 ≤ l.queue.length) : l.letIn = l := by
  rw [Link.letIn, admitReply_of_full h, admitNotice_of_full (by omega)]

theorem letIn_of_no_reply {l : Link} (h : l.waitingReplies = []) : l.letIn = l.admitNotice := by
  rw [Link.letIn, admitReply_of_none h]

theorem start_of_sending {l : Link} (h : l.sending.isSome = true) : l.start = l := by
  unfold Link.start
  split
  · simp_all
  · rfl

theorem start_of_empty {l : Link} (h : l.queue = []) : l.start = l := by
  unfold Link.start
  split
  · simp_all
  · rfl

/-- The link once an idle transmitter has taken the entry `x`, before what waits outside enters. -/
def Link.taking (x : TxEntry) (rest : List TxEntry) (l : Link) : Link :=
  { l with
    sending := some (x.sending l.notice), queue := rest
    notice := if x = .flagNotice then none else l.notice
    noticeQueued := if x = .flagNotice then false else l.noticeQueued }

theorem start_of_idle {l : Link} {x : TxEntry} {rest : List TxEntry} (hs : l.sending = none)
    (hq : l.queue = x :: rest) : l.start = (l.taking x rest).letIn := by
  simp only [Link.start, hs, hq, Link.taking]
  split <;> rfl

theorem pushReply_of_full {l : Link} (e : TxEntry) (h : 32 ≤ l.queue.length) :
    l.pushReply e = { l with waitingReplies := l.waitingReplies ++ [e] } := by
  simp [Link.pushReply, letIn_of_full h, Config.queueCapacity, Nat.not_lt.mpr h]

theorem pushReply_of_letIn {l m : Link} (e : TxEntry) (h : l.letIn = m) (hroom : m.queue.length < 32) :
    l.pushReply e = { m with queue := m.queue ++ [e] } := by
  simp [Link.pushReply, h, Config.queueCapacity, hroom]

/-- R188, R191, R192: a reply handed over where no other waits. -/
theorem pushReply_rules (e : TxEntry) {l : Link} (hw : l.waitingReplies = []) :
    ((l.notice = none ∨ l.noticeQueued = true) → l.queue.length < 32 →
      l.pushReply e = { l with queue := l.queue ++ [e] })
    ∧ (l.noticeOutside → l.queue.length < 28 →
      l.pushReply e = { l with queue := l.queue ++ [.flagNotice, e], noticeQueued := true })
    ∧ (l.noticeOutside → 28 ≤ l.queue.length → l.queue.length < 32 →
      l.pushReply e = { l with queue := l.queue ++ [e] }) := by
  have hletIn := letIn_of_no_reply hw
  refine ⟨fun hin hroom => ?_, fun hout hroom => ?_, fun _ hfull hroom => ?_⟩
  · exact pushReply_of_letIn e (hletIn.trans (admitNotice_of_inside hin)) hroom
  · rw [pushReply_of_letIn e (hletIn.trans (admitNotice_of_outside hout hroom)) (by simp; omega)]
    simp
  · exact pushReply_of_letIn e (hletIn.trans (admitNotice_of_full hfull)) hroom

/-- R191, R192: a transmitter at work takes nothing, and what waits outside enters where there is room. -/
theorem service_at_work {l : Link} (hs : l.sending.isSome = true) :
    (l.waitingReplies = [] → (l.notice = none ∨ l.noticeQueued = true) → l.service = l)
    ∧ (l.waitingReplies = [] → l.noticeOutside → l.queue.length < 28 →
      l.service = { l with queue := l.queue ++ [.flagNotice], noticeQueued := true })
    ∧ (l.waitingReplies = [] → 28 ≤ l.queue.length → l.service = l)
    ∧ (∀ w more, l.waitingReplies = w :: more → l.queue.length < 32 →
      ((l.notice = none ∨ l.noticeQueued = true) ∨ 28 ≤ l.queue.length) →
      l.service = { l with queue := l.queue ++ [w], waitingReplies := more })
    ∧ (32 ≤ l.queue.length → l.service = l) := by
  have hserve : ∀ {m : Link}, l.letIn = m → m.sending = l.sending → l.service = m := by
    intro m hm hsame
    rw [Link.service, hm, start_of_sending (by rw [hsame, hs])]
  refine ⟨fun hw hin => ?_, fun hw hout hroom => ?_, fun hw hfull => ?_, fun w more hw hroom hstays => ?_,
    fun hfull => ?_⟩
  · exact hserve ((letIn_of_no_reply hw).trans (admitNotice_of_inside hin)) rfl
  · exact hserve ((letIn_of_no_reply hw).trans (admitNotice_of_outside hout hroom)) rfl
  · exact hserve ((letIn_of_no_reply hw).trans (admitNotice_of_full hfull)) rfl
  · refine hserve ?_ rfl
    rw [Link.letIn, admitReply_of_room hw hroom]
    rcases hstays with hin | hfull
    · exact admitNotice_of_inside hin
    · exact admitNotice_of_full (by simp; omega)
  · exact hserve (letIn_of_full hfull) rfl

theorem letIn_taking {l : Link} (x : TxEntry) (rest : List TxEntry) (hw : l.waitingReplies = []) :
    (l.taking x rest).letIn = (l.taking x rest).admitNotice := letIn_of_no_reply hw

theorem letIn_taking_inside {l : Link} {x : TxEntry} (rest : List TxEntry) (hw : l.waitingReplies = [])
    (hin : l.notice = none ∨ l.noticeQueued = true) : (l.taking x rest).letIn = l.taking x rest := by
  rw [letIn_taking x rest hw]
  refine admitNotice_of_inside ?_
  by_cases hx : x = .flagNotice <;> simp [Link.taking, hx, hin]

theorem start_of_idle_inside {l : Link} {x : TxEntry} {rest : List TxEntry} (hs : l.sending = none)
    (hq : l.queue = x :: rest) (hw : l.waitingReplies = []) (hin : l.notice = none ∨ l.noticeQueued = true) :
    l.start = l.taking x rest := by
  rw [start_of_idle hs hq, letIn_taking_inside rest hw hin]

/-- R191, R192: an idle transmitter with an empty queue. -/
theorem service_idle_empty {l : Link} (hs : l.sending = none) (hq : l.queue = []) (hw : l.waitingReplies = []) :
    ((l.notice = none ∨ l.noticeQueued = true) → l.service = l)
    ∧ (l.noticeOutside → l.service = l.taking .flagNotice []) := by
  have hletIn := letIn_of_no_reply hw
  refine ⟨fun hin => ?_, fun hout => ?_⟩
  · rw [Link.service, hletIn, admitNotice_of_inside hin, start_of_empty hq]
  · rw [Link.service, hletIn, admitNotice_of_outside hout (by simp [hq])]
    exact start_of_idle_inside (l := { l with queue := l.queue ++ [.flagNotice], noticeQueued := true }) hs
      (by simp [hq]) hw (.inr rfl)

/-- R191, R192: an idle transmitter takes the oldest entry, and what waits outside enters as it leaves. -/
theorem service_idle {l : Link} {x : TxEntry} {rest : List TxEntry} (hs : l.sending = none)
    (hq : l.queue = x :: rest) :
    (l.waitingReplies = [] → (l.notice = none ∨ l.noticeQueued = true) → l.service = l.taking x rest)
    ∧ (l.waitingReplies = [] → l.noticeOutside → x ≠ .flagNotice → rest.length < 28 →
      l.service = { l.taking x (rest ++ [.flagNotice]) with noticeQueued := true })
    ∧ (l.waitingReplies = [] → l.noticeOutside → x ≠ .flagNotice → 28 ≤ rest.length →
      l.service = l.taking x rest)
    ∧ (∀ w more, l.waitingReplies = w :: more → rest.length = 31 →
      l.service = { l.taking x (rest ++ [w]) with waitingReplies := more }) := by
  have hlen : l.queue.length = rest.length + 1 := by simp [hq]
  have hstays : l.letIn = l → l.service = (l.taking x rest).letIn := fun h => by
    rw [Link.service, h, start_of_idle hs hq]
  refine ⟨fun hw hin => ?_, fun hw hout hx hroom => ?_, fun hw hout hx hfull => ?_, fun w more hw hfull => ?_⟩
  · rw [hstays ((letIn_of_no_reply hw).trans (admitNotice_of_inside hin)), letIn_taking_inside _ hw hin]
  · obtain hroom | hfull : l.queue.length < 28 ∨ 28 ≤ l.queue.length := by omega
    · rw [Link.service, letIn_of_no_reply hw, admitNotice_of_outside hout hroom]
      refine (start_of_idle_inside (l := { l with queue := l.queue ++ [.flagNotice], noticeQueued := true })
        (x := x) (rest := rest ++ [.flagNotice]) hs (by simp [hq]) hw (.inr rfl)).trans ?_
      simp [Link.taking, hx]
    · rw [hstays ((letIn_of_no_reply hw).trans (admitNotice_of_full hfull)), letIn_taking x rest hw]
      exact admitNotice_of_outside (l := l.taking x rest)
        (by simpa [Link.noticeOutside, Link.taking, hx] using hout) hroom
  · rw [hstays ((letIn_of_no_reply hw).trans (admitNotice_of_full (by omega))), letIn_taking x rest hw]
    exact admitNotice_of_full hfull
  · rw [hstays (letIn_of_full (by omega)), Link.letIn,
      admitReply_of_room (l := l.taking x rest) hw (by simp [Link.taking, hfull])]
    exact admitNotice_of_full (by simp [Link.taking, hfull])

/-- Settles O11. -/
theorem transmitQueueRules : Obligations.TransmitQueueRules := by
  intro e l sent taken inside outside n
  have htaken : ∀ x q, taken x q = l.taking x q := by
    intro x q
    cases x <;> rfl
  simp only [htaken]
  exact ⟨pushReply_rules e, pushReply_of_full e, service_at_work,
    fun hs => ⟨fun hq hw => (service_idle_empty hs hq hw).1, fun hq hw => (service_idle_empty hs hq hw).2,
      fun x rest hq => service_idle hs hq⟩⟩

end Sys2Proof.Machine
end

section
/-! PROOFS. The bodies of requests: fields written and read back (O8), and the frame that carries a request (O9). -/

namespace Sys2Proof

/-! ## Fields -/

theorem fieldValue_writeField {w v : Nat} (h : v < 256 ^ w) : fieldValue (writeField w v) = v := by
  induction w generalizing v with
  | zero => exact (Nat.lt_one_iff.mp h).symm
  | succ w ih =>
    have hdiv : v / 256 < 256 ^ w := Nat.div_lt_of_lt_mul (by rwa [pow_succ, mul_comm] at h)
    rw [writeField, fieldValue, ih hdiv, BitVec.toNat_ofNat]
    omega

@[simp] theorem length_writeField (w v : Nat) : (writeField w v).length = w := by
  induction w generalizing v with
  | zero => rfl
  | succ w ih => simp [writeField, ih]

theorem length_writeFields (fs : List (Nat × Nat)) : (writeFields fs).length = (fs.map (·.1)).sum := by
  induction fs with
  | nil => rfl
  | cons f fs ih => simp [writeFields, ih]

/-- R190: fields that fit their sizes read back as written. -/
theorem readFields_writeFields (fs : List (Nat × Nat)) (h : fs.all (fun f => fits f.1 f.2) = true) :
    readFields (fs.map (·.1)) (writeFields fs) = some (fs.map (·.2)) := by
  induction fs with
  | nil => rfl
  | cons f fs ih =>
    obtain ⟨hf, hfs⟩ := Bool.and_eq_true_iff.mp h
    have hv : f.2 < 256 ^ f.1 := of_decide_eq_true hf
    simp [readFields, writeFields, ih hfs, fieldValue_writeField hv]

/-- R190: the numbers read are as many as the fields, and the body is as long as they are together. -/
theorem length_of_readFields {ws : List Nat} {bs : List Byte} {vs : List Nat} (h : readFields ws bs = some vs) :
    bs.length = ws.sum ∧ vs.length = ws.length := by
  induction ws generalizing bs vs with
  | nil =>
    cases bs with
    | nil => cases h; exact ⟨rfl, rfl⟩
    | cons => cases h
  | cons w ws ih =>
    unfold readFields at h
    split at h
    · cases h
    · next hw =>
      obtain ⟨rest, hrest, rfl⟩ := Option.map_eq_some_iff.mp h
      obtain ⟨hlen, hnum⟩ := ih hrest
      rw [List.length_drop] at hlen
      exact ⟨by rw [List.sum_cons]; omega, by simp [hnum]⟩

theorem readFields_of_length {ws : List Nat} {bs : List Byte} (h : bs.length ≠ ws.sum) : readFields ws bs = none := by
  cases hr : readFields ws bs with
  | none => rfl
  | some vs => exact absurd (length_of_readFields hr).1 h

@[simp] theorem flag?_flagNumber (b : Bool) : flag? (flagNumber b) = some b := by cases b <;> rfl

theorem fits_flagNumber (b : Bool) : fits 1 (flagNumber b) = true := by cases b <;> rfl

theorem signed16_unsigned16 {v : Int} (h1 : -32768 ≤ v) (h2 : v < 32768) : signed16 (unsigned16 v) = v := by
  unfold signed16 unsigned16
  split <;> omega

theorem fits_unsigned16 (v : Int) : fits 2 (unsigned16 v) = true := by
  refine decide_eq_true (?_ : (v % 65536).toNat < 65536)
  omega

/-! ## The steps of a pattern -/

theorem decodeSteps_encodeStep (x : PatStep) (n : Nat) (bs : List Byte) (h : x.wf = true) :
    decodeSteps (n + 1) (encodeStep x ++ bs) = (decodeSteps n bs).map (x :: ·) := by
  cases x with
  | pleat count form sp dw dh locked =>
    let fs := [(2, count), (1, form), (2, sp), (2, dw), (2, dh), (1, flagNumber locked)]
    have hlen : (writeFields fs).length = 10 := length_writeFields fs
    have hread : readFields pleatWidths (writeFields fs) =
        some [count, form, sp, dw, dh, flagNumber locked] :=
      readFields_writeFields fs (by simpa [fs, fits_flagNumber, PatStep.wf, and_assoc] using h)
    show decodeSteps (n + 1) (0#8 :: (writeFields fs ++ bs)) = _
    rw [decodeSteps, if_pos rfl, List.take_left' hlen, List.drop_left' hlen, hread]
    cases decodeSteps n bs <;> simp
  | flat length =>
    let fs := [(4, length)]
    have hlen : (writeFields fs).length = 4 := length_writeFields fs
    have hread : readFields [4] (writeFields fs) = some [length] :=
      readFields_writeFields fs (by simpa [fs, PatStep.wf] using h)
    show decodeSteps (n + 1) (1#8 :: (writeFields fs ++ bs)) = _
    rw [decodeSteps, if_neg (by decide), if_pos rfl, List.take_left' hlen, List.drop_left' hlen, hread]
    cases decodeSteps n bs <;> simp

theorem decodeSteps_encodeSteps {steps : List PatStep} (h : steps.all PatStep.wf = true) :
    decodeSteps steps.length (steps.flatMap encodeStep) = some steps := by
  induction steps with
  | nil => rfl
  | cons x steps ih =>
    obtain ⟨hx, hsteps⟩ := Bool.and_eq_true_iff.mp h
    rw [List.length_cons, List.flatMap_cons, decodeSteps_encodeStep x _ _ hx, ih hsteps]
    rfl

/-! ## Optional items -/

@[simp] theorem present_isSome_getD {α : Type} (x : Option α) (d : α) : present x.isSome (x.getD d) = x := by
  cases x <;> rfl

@[simp] theorem flag?_getD (x : Option Bool) : flag? ((x.map flagNumber).getD 0) = some (x.getD false) := by
  cases x
  · rfl
  · simp

theorem present_signed16 {x : Option Int} (h : fitsSigned x = true) :
    present x.isSome (signed16 ((x.map unsigned16).getD 0)) = x := by
  cases x with
  | none => rfl
  | some v =>
    obtain ⟨h1, h2⟩ := Bool.and_eq_true_iff.mp h
    simp [present, signed16_unsigned16 (of_decide_eq_true h1) (of_decide_eq_true h2)]

/-- R190: an optional item fits when the number it carries does. -/
theorem fits_optionFields {w : Nat} {v : Option Nat} (h : ∀ n ∈ v, fits w n = true) :
    (optionFields w v).all (fun f => fits f.1 f.2) = true := by
  cases v with
  | none => simp [optionFields, fits, flagNumber]
  | some n => simpa [optionFields, fits, flagNumber] using h n rfl

/-! ## The bodies -/

theorem decodeOne_writeFields {w v : Nat} (f : Nat → Request) (h : fits w v = true) :
    decodeOne w f (writeFields [(w, v)]) = some (f v) := by
  have hread : readFields [w] (writeFields [(w, v)]) = some [v] := readFields_writeFields [(w, v)] (by simpa using h)
  simp [decodeOne, hread]

theorem decodeTwo_writeFields {w1 v1 w2 v2 : Nat} (f : Nat → Nat → Request) (h1 : fits w1 v1 = true)
    (h2 : fits w2 v2 = true) : decodeTwo w1 w2 f (writeFields [(w1, v1), (w2, v2)]) = some (f v1 v2) := by
  have hread : readFields [w1, w2] (writeFields [(w1, v1), (w2, v2)]) = some [v1, v2] :=
    readFields_writeFields [(w1, v1), (w2, v2)] (by simp [h1, h2])
  simp [decodeTwo, hread]

theorem decodePattern_body {slot : Nat} {steps : List PatStep} (h : (Request.patDefine slot steps).wf = true) :
    decodePattern (Request.patDefine slot steps).body = some (.patDefine slot steps) := by
  simp only [Request.wf, Bool.and_eq_true, fits, decide_eq_true_eq] at h
  obtain ⟨⟨hslot, hlen⟩, hsteps⟩ := h
  have h1 : slot % 256 = slot := Nat.mod_eq_of_lt (by simpa using hslot)
  have h2 : steps.length % 256 = steps.length := Nat.mod_eq_of_lt (by simpa using hlen)
  simp [Request.body, writeFields, writeField, decodePattern, BitVec.toNat_ofNat, h1, h2,
    decodeSteps_encodeSteps hsteps]

theorem decodeClassSet_body {cls : Nat} {fields : Option FabricClass} (h : (Request.classSet cls fields).wf = true) :
    decodeClassSet (Request.classSet cls fields).body = some (.classSet cls fields) := by
  cases fields with
  | none =>
    have hread : readFields [1, 1] (writeFields [(1, cls), (1, 0)]) = some [cls, 0] :=
      readFields_writeFields [(1, cls), (1, 0)] (by simpa [Request.wf, wfOpt, fits] using h)
    simp [decodeClassSet, Request.body, hread]
  | some c =>
    have hlong : readFields [1, 1] (Request.classSet cls (some c)).body = none :=
      readFields_of_length (by simp [Request.body, length_writeFields, encodeClass, optionFields])
    have hread : readFields classWidths (Request.classSet cls (some c)).body =
        some [cls, 1, c.ecls, c.tref, c.tb, c.tmax, c.doseMin, flagNumber c.doseMax.isSome, c.doseMax.getD 0,
          c.pitchTol] := by
      refine readFields_writeFields ([(1, cls), (1, 1)] ++ encodeClass c) ?_
      cases hmax : c.doseMax <;>
        simp_all [Request.wf, wfOpt, FabricClass.wf, fitsOpt, encodeClass, optionFields, flagNumber, fits]
    simp [decodeClassSet, hlong, hread]

theorem decodeOrderAdd_body {o : OrderBody} (h : (Request.orderAdd o).wf = true) :
    decodeOrderAdd (Request.orderAdd o).body = some (.orderAdd o) := by
  have hread : readFields orderWidths (writeFields (encodeOrder o)) = some ((encodeOrder o).map (·.2)) :=
    readFields_writeFields (encodeOrder o)
      (by simpa [Request.wf, OrderBody.wf, encodeOrder, fits_flagNumber, and_assoc] using h)
  simp only [decodeOrderAdd, Request.body, hread]
  simp [encodeOrder]

theorem fits_encodeStage {b : StageBody} (h : b.wf = true) : (encodeStage b).all (fun f => fits f.1 f.2) = true := by
  have hflag : ∀ x : Option Bool, ∀ n ∈ x.map flagNumber, fits 1 n = true := by
    rintro (_ | x) n hn <;> cases hn
    exact fits_flagNumber x
  have hsigned : ∀ x : Option Int, ∀ n ∈ x.map unsigned16, fits 2 n = true := by
    rintro (_ | x) n hn <;> cases hn
    exact fits_unsigned16 x
  have htension : ∀ n ∈ b.tensionLimit, fits 2 n = true := by
    obtain ⟨_, ht⟩ := Bool.and_eq_true_iff.mp h
    intro n hn
    rwa [hn] at ht
  simp only [encodeStage, List.all_append, Bool.and_eq_true]
  exact ⟨⟨⟨⟨fits_optionFields (hflag _), fits_optionFields (hsigned _)⟩, fits_optionFields (hsigned _)⟩,
    fits_optionFields htension⟩, fits_optionFields (hflag _)⟩

theorem decodeSegStage_body {mask : Nat} {b : StageBody} (h : (Request.segStage mask b).wf = true) :
    decodeSegStage (Request.segStage mask b).body = some (.segStage mask b) := by
  obtain ⟨hmask, hb⟩ := Bool.and_eq_true_iff.mp h
  have hread : readFields stageWidths (writeFields ((1, mask) :: encodeStage b)) =
      some (((1, mask) :: encodeStage b).map (·.2)) :=
    readFields_writeFields ((1, mask) :: encodeStage b) (by rw [List.all_cons, hmask, fits_encodeStage hb]; rfl)
  obtain ⟨⟨hdepth, hfeed⟩, _⟩ := (Bool.and_eq_true_iff.mp hb).imp_left Bool.and_eq_true_iff.mp
  simp only [decodeSegStage, Request.body, hread]
  simp [encodeStage, optionFields, present_signed16 hdepth, present_signed16 hfeed]

theorem decodeSpliceSet_body {settings : Option SpliceBody} (h : (Request.spliceSet settings).wf = true) :
    decodeSpliceSet (Request.spliceSet settings).body = some (.spliceSet settings) := by
  cases settings with
  | none => rfl
  | some b =>
    have hread : readFields spliceWidths (writeFields (encodeSplice b)) = some ((encodeSplice b).map (·.2)) :=
      readFields_writeFields (encodeSplice b)
        (by simpa [Request.wf, wfOpt, SpliceBody.wf, encodeSplice, and_assoc] using h)
    simp only [decodeSpliceSet, Request.body, hread]
    simp [encodeSplice]

theorem decodeGeometry_body {settings : Option Geometry} (h : (Request.lineGeometry settings).wf = true) :
    decodeGeometry (Request.lineGeometry settings).body = some (.lineGeometry settings) := by
  cases settings with
  | none => rfl
  | some g =>
    have hread : readFields geometryWidths (writeFields (encodeGeometry g)) = some ((encodeGeometry g).map (·.2)) :=
      readFields_writeFields (encodeGeometry g)
        (by simpa [Request.wf, wfOpt, Geometry.wf, Span.wf, encodeGeometry, encodeSpan, and_assoc] using h)
    simp only [decodeGeometry, Request.body, hread]
    simp [encodeGeometry, encodeSpan]

theorem decodeZoneSet_body {zone : Nat} {settings : Option ZoneBody} (h : (Request.zoneSet zone settings).wf = true) :
    decodeZoneSet (Request.zoneSet zone settings).body = some (.zoneSet zone settings) := by
  cases settings with
  | none =>
    have hread : readFields [1] (writeFields [(1, zone)]) = some [zone] :=
      readFields_writeFields [(1, zone)] (by simpa [Request.wf, wfOpt] using h)
    simp [decodeZoneSet, Request.body, hread]
  | some b =>
    let fs := [(1, zone), (2, b.sp), (2, b.standby), (1, b.kp)]
    have hlong : readFields [1] (writeFields fs) = none :=
      readFields_of_length (by simp [fs, length_writeFields])
    have hread : readFields [1, 2, 2, 1] (writeFields fs) = some [zone, b.sp, b.standby, b.kp] :=
      readFields_writeFields fs (by simpa [Request.wf, wfOpt, ZoneBody.wf, fs, and_assoc] using h)
    simp only [decodeZoneSet, Request.body, hlong, fs, hread]

theorem decodeSteamSet_body {settings : Option SteamBody} (h : (Request.steamSet settings).wf = true) :
    decodeSteamSet (Request.steamSet settings).body = some (.steamSet settings) := by
  cases settings with
  | none => rfl
  | some b =>
    let fs := [(2, b.reservations.sb), (2, b.reservations.z1), (2, b.reservations.z2), (2, b.reservations.z3),
      (2, b.reservations.z4), (1, b.stallLimit)]
    have hread : readFields [2, 2, 2, 2, 2, 1] (writeFields fs) = some (fs.map (·.2)) :=
      readFields_writeFields fs (by simpa [Request.wf, wfOpt, SteamBody.wf, fs, and_assoc] using h)
    simp only [decodeSteamSet, Request.body, fs, hread]
    simp

theorem decodeOutletSet_body {settings : Option OutletBody} (h : (Request.outletSet settings).wf = true) :
    decodeOutletSet (Request.outletSet settings).body = some (.outletSet settings) := by
  cases settings with
  | none => rfl
  | some b =>
    have hread : readFields [1, 1] (writeFields [(1, b.outlet), (1, b.capacity)]) = some [b.outlet, b.capacity] :=
      readFields_writeFields [(1, b.outlet), (1, b.capacity)]
        (by simpa [Request.wf, wfOpt, OutletBody.wf] using h)
    simp [decodeOutletSet, Request.body, hread]

theorem decodeVerifySet_body {settings : Option VerifyBody} (h : (Request.verifySet settings).wf = true) :
    decodeVerifySet (Request.verifySet settings).body = some (.verifySet settings) := by
  cases settings with
  | none => rfl
  | some b =>
    let fs := [(2, b.window), (1, b.action), (1, b.period)]
    have hread : readFields [2, 1, 1] (writeFields fs) = some [b.window, b.action, b.period] :=
      readFields_writeFields fs (by simpa [Request.wf, wfOpt, VerifyBody.wf, fs, and_assoc] using h)
    simp only [decodeVerifySet, Request.body, fs, hread]

theorem decodeMaskSet_body (masks : Option (BitVec 48)) :
    decodeMaskSet (Request.maskSet masks).body = some (.maskSet masks) := by
  cases masks with
  | none => rfl
  | some m =>
    have hread : readFields [6] (writeFields [(6, m.toNat)]) = some [m.toNat] :=
      readFields_writeFields [(6, m.toNat)] (by simp [fits, m.isLt])
    simp [decodeMaskSet, Request.body, hread]

theorem decodeRollLoad_body {spindle rollId cls length : Nat}
    (h : (Request.rollLoad spindle rollId cls length).wf = true) :
    decodeRollLoad (Request.rollLoad spindle rollId cls length).body = some (.rollLoad spindle rollId cls length) := by
  let fs := [(1, spindle), (4, rollId), (1, cls), (4, length)]
  have hread : readFields [1, 4, 1, 4] (writeFields fs) = some [spindle, rollId, cls, length] :=
    readFields_writeFields fs (by simpa [Request.wf, fs, and_assoc] using h)
  simp only [decodeRollLoad, Request.body, fs, hread]

/-- Settles O8: KIND names the decoder, and each decoder reads its own encoder back. -/
theorem bodyRoundTrip : Obligations.BodyRoundTrip := by
  intro r h
  cases r
  case patDefine => exact congrArg Asked.ofBody (decodePattern_body h)
  case classSet => exact congrArg Asked.ofBody (decodeClassSet_body h)
  case orderAdd => exact congrArg Asked.ofBody (decodeOrderAdd_body h)
  case segStage => exact congrArg Asked.ofBody (decodeSegStage_body h)
  case spliceSet => exact congrArg Asked.ofBody (decodeSpliceSet_body h)
  case lineGeometry => exact congrArg Asked.ofBody (decodeGeometry_body h)
  case zoneSet => exact congrArg Asked.ofBody (decodeZoneSet_body h)
  case steamSet => exact congrArg Asked.ofBody (decodeSteamSet_body h)
  case outletSet => exact congrArg Asked.ofBody (decodeOutletSet_body h)
  case verifySet => exact congrArg Asked.ofBody (decodeVerifySet_body h)
  case maskSet => exact congrArg Asked.ofBody (decodeMaskSet_body _)
  case rollLoad => exact congrArg Asked.ofBody (decodeRollLoad_body h)
  case orderCancel | segApply | outletUnload =>
    obtain ⟨h1, h2⟩ := Bool.and_eq_true_iff.mp h
    exact congrArg Asked.ofBody (decodeTwo_writeFields _ h1 h2)
  case orderList | lineRun | lineHold | lineRelease | lineReset | readCounters | readStatus | readFlags => rfl
  all_goals exact congrArg Asked.ofBody (decodeOne_writeFields _ h)

end Sys2Proof

namespace Sys2Proof.Machine

/-! ## The frame of a request -/

/-- R187: the second CHECK byte of a good frame takes the frame, with the receiver back in HUNT. -/
theorem takeChar_last {s : State} {c1 c2 kind tag : Byte} {body : List Byte} (hstate : s.link.rx.state = .check)
    (hbuffer : s.link.rx.buffer = kind :: tag :: body) (hcheck : s.link.rx.checkBytes = [c1])
    (hcrc : frameCheck s.link.rx.lenBytes s.link.rx.buffer = [c1, c2]) :
    s.takeChar c2 = (s.setRx Receiver.hunting).takeFrame kind tag body := by
  have hcollect : s.link.rx.collect c2 = { s.link.rx with checkBytes := [c1, c2] } := by
    simp [Receiver.collect, hstate, hcheck]
  rw [hbuffer] at hcrc
  simp [State.takeChar, hcollect, Receiver.complete, hstate, State.endFrame, Receiver.checked, hbuffer, hcrc]

/-- Settles O9: the frame's body decodes to the request (O8), and the frame and the command run the same rule. -/
theorem lastCheckByteTakesRequest : Obligations.LastCheckByteTakesRequest := by
  intro i tag r s c1 c2 hi hsend hstate hbuffer hcheck hcrc
  have hwf : r.wf = true := (Bool.and_eq_true_iff.mp hsend).1
  rw [exec_request hi]
  show (s.takeChar c2).finish = _
  rw [takeChar_last hstate hbuffer hcheck hcrc, State.takeFrame, bodyRoundTrip r hwf]
  rfl

end Sys2Proof.Machine
end

section
/-! PROOFS. The receiver, character by character, and what it makes of a frame that carries no request (O12). -/

namespace Sys2Proof

/-! ## What a KIND and a BODY ask for -/

theorem ofBody_ne_unknown (x : Option Request) : Asked.ofBody x ≠ .unknown := by
  cases x <;> simp [Asked.ofBody]

/-- R188 test 4: a KIND of a request is not answered UNKNOWN. -/
theorem decodeRequest_kind_ne_unknown (r : Request) (body : List Byte) : decodeRequest r.kind body ≠ .unknown := by
  cases r <;> exact ofBody_ne_unknown _

/-- R188 test 4: a KIND that is not answered UNKNOWN is that of a request. -/
theorem exists_kind_of_known {kind : Byte} {body : List Byte} (h : decodeRequest kind body ≠ .unknown) :
    ∃ r : Request, r.kind = kind := by
  have hkind : ∀ r : Request, kind.toNat = r.kind.toNat → ∃ r : Request, r.kind = kind :=
    fun r hr => ⟨r, (BitVec.eq_of_toNat_eq hr).symm⟩
  unfold decodeRequest at h
  split at h
  next hk => exact hkind (.patDefine 0 []) hk
  next hk => exact hkind (.patDrop 0) hk
  next hk => exact hkind (.patRead 0) hk
  next hk => exact hkind (.classSet 0 none) hk
  next hk => exact hkind (.classRead 0) hk
  next hk => exact hkind (.orderAdd ⟨0, 0, 0, 0, 0, 0, 0, 0, 0, 0, 0, false⟩) hk
  next hk => exact hkind (.orderCancel 0 0) hk
  next hk => exact hkind .orderList hk
  next hk => exact hkind (.segStage 0 ⟨none, none, none, none, none⟩) hk
  next hk => exact hkind (.segApply 0 0) hk
  next hk => exact hkind (.segClear 0) hk
  next hk => exact hkind (.segRead 0) hk
  next hk => exact hkind (.rollLoad 0 0 0 0) hk
  next hk => exact hkind (.rollRemove 0) hk
  next hk => exact hkind (.spliceSet none) hk
  next hk => exact hkind (.spliceResolve 0) hk
  next hk => exact hkind .lineRun hk
  next hk => exact hkind (.lineStop 0) hk
  next hk => exact hkind .lineHold hk
  next hk => exact hkind .lineRelease hk
  next hk => exact hkind (.lineRate 0) hk
  next hk => exact hkind (.lineGeometry none) hk
  next hk => exact hkind .lineReset hk
  next hk => exact hkind (.zoneSet 0 none) hk
  next hk => exact hkind (.steamSet none) hk
  next hk => exact hkind (.outletSet none) hk
  next hk => exact hkind (.outletUnload 0 0) hk
  next hk => exact hkind (.verifySet none) hk
  next hk => exact hkind (.readTrack 0) hk
  next hk => exact hkind (.readExits 0) hk
  next hk => exact hkind .readCounters hk
  next hk => exact hkind .readStatus hk
  next hk => exact hkind .readFlags hk
  next hk => exact hkind (.maskSet none) hk
  next => exact absurd rfl h

/-! ## The length of a body -/

theorem decodeSteps_length {n : Nat} {bs : List Byte} {steps : List PatStep} (h : decodeSteps n bs = some steps) :
    bs.length = (steps.flatMap encodeStep).length := by
  induction n generalizing bs steps with
  | zero =>
    cases bs with
    | nil => cases h; rfl
    | cons => cases h
  | succ n ih =>
    cases bs with
    | nil => cases h
    | cons k bs =>
      rw [decodeSteps] at h
      split_ifs at h
      · split at h
        · next hread hrest =>
          obtain ⟨b, -, rfl⟩ := Option.map_eq_some_iff.mp h
          have hlen := (length_of_readFields hread).1
          have := ih hrest
          simp [encodeStep, length_writeFields, pleatWidths] at hlen this ⊢
          omega
        · cases h
      · split at h
        · next hread hrest =>
          cases h
          have hlen := (length_of_readFields hread).1
          have := ih hrest
          simp [encodeStep, length_writeFields] at hlen this ⊢
          omega
        · cases h

/-- The request has the KIND, and a body of its own as long as the body. -/
def Request.Shapes (kind : Byte) (body : List Byte) (r : Request) : Prop :=
  r.kind = kind ∧ r.body.length = body.length

theorem shapes_of_readFields {kind : Byte} {body : List Byte} {r : Request} {ws vs : List Nat}
    (hread : readFields ws body = some vs) (hkind : r.kind = kind) (hlen : r.body.length = ws.sum) :
    r.Shapes kind body := ⟨hkind, hlen.trans (length_of_readFields hread).1.symm⟩

theorem decodePattern_shapes {body : List Byte} {r : Request} (h : decodePattern body = some r) :
    r.Shapes 0x01#8 body := by
  unfold decodePattern at h
  split at h
  · obtain ⟨steps, hsteps, rfl⟩ := Option.map_eq_some_iff.mp h
    exact ⟨rfl, by simp [Request.body, length_writeFields, decodeSteps_length hsteps]; omega⟩
  · cases h

theorem decodeOne_shapes {kind : Byte} {w : Nat} {f : Nat → Request} {body : List Byte} {r : Request}
    (h : decodeOne w f body = some r) (hf : ∀ v, (f v).kind = kind ∧ (f v).body.length = w) :
    r.Shapes kind body := by
  unfold decodeOne at h
  split at h
  · next v hread =>
    cases h
    exact shapes_of_readFields hread (hf v).1 (hf v).2
  · cases h

theorem decodeTwo_shapes {kind : Byte} {w v : Nat} {f : Nat → Nat → Request} {body : List Byte} {r : Request}
    (h : decodeTwo w v f body = some r) (hf : ∀ a b, (f a b).kind = kind ∧ (f a b).body.length = w + v) :
    r.Shapes kind body := by
  unfold decodeTwo at h
  split at h
  · next a b hread =>
    cases h
    exact shapes_of_readFields hread (hf a b).1 (hf a b).2
  · cases h

theorem decodeEmpty_shapes {r' r : Request} {body : List Byte} (h : decodeEmpty r' body = some r)
    (hbody : r'.body = []) : r.Shapes r'.kind body := by
  unfold decodeEmpty at h
  split at h
  · next hb =>
    cases h
    exact ⟨rfl, by rw [hb, hbody]⟩
  · cases h

theorem decodeClassSet_shapes {body : List Byte} {r : Request} (h : decodeClassSet body = some r) :
    r.Shapes 0x04#8 body := by
  unfold decodeClassSet at h
  split at h
  · next hread => cases h; exact shapes_of_readFields hread rfl rfl
  · split at h
    · next hread =>
      obtain ⟨p, -, rfl⟩ := Option.map_eq_some_iff.mp h
      exact shapes_of_readFields hread rfl (by simp [Request.body, length_writeFields, encodeClass, optionFields, classWidths])
    · cases h

theorem decodeOrderAdd_shapes {body : List Byte} {r : Request} (h : decodeOrderAdd body = some r) :
    r.Shapes 0x08#8 body := by
  unfold decodeOrderAdd at h
  split at h
  · next hread =>
    obtain ⟨v, -, rfl⟩ := Option.map_eq_some_iff.mp h
    exact shapes_of_readFields hread rfl (length_writeFields _)
  · cases h

theorem decodeSegStage_shapes {body : List Byte} {r : Request} (h : decodeSegStage body = some r) :
    r.Shapes 0x10#8 body := by
  unfold decodeSegStage at h
  split at h
  · next hread =>
    split at h
    · cases h; exact shapes_of_readFields hread rfl (length_writeFields _)
    · cases h
  · cases h

theorem decodeRollLoad_shapes {body : List Byte} {r : Request} (h : decodeRollLoad body = some r) :
    r.Shapes 0x18#8 body := by
  unfold decodeRollLoad at h
  split at h
  · next hread => cases h; exact shapes_of_readFields hread rfl (length_writeFields _)
  · cases h

theorem decodeZoneSet_shapes {body : List Byte} {r : Request} (h : decodeZoneSet body = some r) :
    r.Shapes 0x28#8 body := by
  unfold decodeZoneSet at h
  split at h
  · next hread => cases h; exact shapes_of_readFields hread rfl (length_writeFields _)
  · next hread _ => cases h; exact shapes_of_readFields hread rfl (length_writeFields _)
  · cases h

/-- A query has an empty body, and a write one of the size of its settings. -/
theorem decodeQuery_shapes {kind : Byte} {query r : Request} {body : List Byte}
    (h : (if body = [] then some query else none) = some r) (hkind : query.kind = kind) (hbody : query.body = []) :
    r.Shapes kind body := by
  split at h
  · next hb => cases h; exact ⟨hkind, by rw [hb, hbody]⟩
  · cases h

theorem decodeSpliceSet_shapes {body : List Byte} {r : Request} (h : decodeSpliceSet body = some r) :
    r.Shapes 0x1A#8 body := by
  unfold decodeSpliceSet at h
  split at h
  · next hread => cases h; exact shapes_of_readFields hread rfl (length_writeFields _)
  · exact decodeQuery_shapes h rfl rfl

theorem decodeGeometry_shapes {body : List Byte} {r : Request} (h : decodeGeometry body = some r) :
    r.Shapes 0x25#8 body := by
  unfold decodeGeometry at h
  split at h
  · next hread => cases h; exact shapes_of_readFields hread rfl (length_writeFields _)
  · exact decodeQuery_shapes h rfl rfl

theorem decodeSteamSet_shapes {body : List Byte} {r : Request} (h : decodeSteamSet body = some r) :
    r.Shapes 0x29#8 body := by
  unfold decodeSteamSet at h
  split at h
  · next hread => cases h; exact shapes_of_readFields hread rfl (length_writeFields _)
  · exact decodeQuery_shapes h rfl rfl

theorem decodeOutletSet_shapes {body : List Byte} {r : Request} (h : decodeOutletSet body = some r) :
    r.Shapes 0x2A#8 body := by
  unfold decodeOutletSet at h
  split at h
  · next hread => cases h; exact shapes_of_readFields hread rfl (length_writeFields _)
  · exact decodeQuery_shapes h rfl rfl

theorem decodeVerifySet_shapes {body : List Byte} {r : Request} (h : decodeVerifySet body = some r) :
    r.Shapes 0x2C#8 body := by
  unfold decodeVerifySet at h
  split at h
  · next hread => cases h; exact shapes_of_readFields hread rfl (length_writeFields _)
  · exact decodeQuery_shapes h rfl rfl

theorem decodeMaskSet_shapes {body : List Byte} {r : Request} (h : decodeMaskSet body = some r) :
    r.Shapes 0x38#8 body := by
  unfold decodeMaskSet at h
  split at h
  · next hread => cases h; exact shapes_of_readFields hread rfl (length_writeFields _)
  · exact decodeQuery_shapes h rfl rfl

theorem ofBody_eq_request {x : Option Request} {r : Request} (h : Asked.ofBody x = .request r) : x = some r := by
  cases x <;> cases h
  rfl

/-- R188 test 5: a body read as a request has the length of that request's own body. -/
theorem decodeRequest_shapes {q r : Request} {body : List Byte} (h : decodeRequest q.kind body = .request r) :
    r.Shapes q.kind body := by
  cases q
  case patDefine => exact decodePattern_shapes (ofBody_eq_request h)
  case classSet => exact decodeClassSet_shapes (ofBody_eq_request h)
  case orderAdd => exact decodeOrderAdd_shapes (ofBody_eq_request h)
  case segStage => exact decodeSegStage_shapes (ofBody_eq_request h)
  case rollLoad => exact decodeRollLoad_shapes (ofBody_eq_request h)
  case spliceSet => exact decodeSpliceSet_shapes (ofBody_eq_request h)
  case lineGeometry => exact decodeGeometry_shapes (ofBody_eq_request h)
  case zoneSet => exact decodeZoneSet_shapes (ofBody_eq_request h)
  case steamSet => exact decodeSteamSet_shapes (ofBody_eq_request h)
  case outletSet => exact decodeOutletSet_shapes (ofBody_eq_request h)
  case verifySet => exact decodeVerifySet_shapes (ofBody_eq_request h)
  case maskSet => exact decodeMaskSet_shapes (ofBody_eq_request h)
  case orderList | lineRun | lineHold | lineRelease | lineReset | readCounters | readStatus | readFlags =>
    exact decodeEmpty_shapes (ofBody_eq_request h) rfl
  case orderCancel | segApply | outletUnload =>
    exact decodeTwo_shapes (ofBody_eq_request h) fun a b => ⟨rfl, length_writeFields _⟩
  all_goals exact decodeOne_shapes (ofBody_eq_request h) fun v => ⟨rfl, length_writeFields _⟩

/-! ## The yes/no bytes of a body -/

/-- R190: a field of one byte reads as that byte. -/
theorem getElem?_of_readFields {us ws : List Nat} {body : List Byte} {vs : List Nat} {b : Byte}
    (hread : readFields (us ++ 1 :: ws) body = some vs) (hb : body[us.sum]? = some b) :
    vs[us.length]? = some b.toNat := by
  induction us generalizing body vs with
  | nil =>
    cases body with
    | nil => cases hb
    | cons c bs =>
      cases hb
      simp only [List.nil_append, readFields] at hread
      split at hread
      · cases hread
      · obtain ⟨rest, -, rfl⟩ := Option.map_eq_some_iff.mp hread
        simp [fieldValue]
  | cons u us ih =>
    simp only [List.cons_append, readFields] at hread
    split at hread
    · cases hread
    · obtain ⟨rest, hrest, rfl⟩ := Option.map_eq_some_iff.mp hread
      simpa using ih hrest (by simpa using hb)

theorem flag?_of_two_le {n : Nat} (h : 2 ≤ n) : flag? n = none := by
  match n, h with
  | n + 2, _ => rfl

/-- R188 test 5: a step byte other than 0 and 1. -/
theorem decodePattern_badStep {body : List Byte} {b : Byte} (hb : body[2]? = some b) (h2 : 2 ≤ b.toNat) :
    decodePattern body = none := by
  have h0 : b ≠ 0#8 := by rintro rfl; cases h2
  have h1 : b ≠ 1#8 := by rintro rfl; exact absurd h2 (by decide)
  unfold decodePattern
  split
  · next slot n bs =>
    cases bs with
    | nil => cases hb
    | cons c bs =>
      cases hb
      cases hn : n.toNat with
      | zero => rfl
      | succ m => simp [decodeSteps, h0, h1]
  · rfl

theorem decodeClassSet_badFlag {body : List Byte} {b : Byte} {k : Nat} (hk : k ∈ [1, 14]) (hb : body[k]? = some b)
    (h2 : 2 ≤ b.toNat) : decodeClassSet body = none := by
  unfold decodeClassSet
  simp only [List.mem_cons, List.not_mem_nil, or_false] at hk
  rcases hk with rfl | rfl
  · split
    · next hread => 
      have := getElem?_of_readFields (us := [1]) hread hb
      simp at this; omega
    · split
      · next hread =>
        have := getElem?_of_readFields (us := [1]) hread hb
        simp at this; omega
      · rfl
  · split
    · next hread =>
      have hlen := (length_of_readFields hread).1
      have := (List.getElem?_eq_some_iff.mp hb).1
      simp at hlen
      omega
    · split
      · next hread =>
        have hflag := getElem?_of_readFields (us := [1, 1, 2, 2, 2, 2, 4]) hread hb
        simp at hflag
        rw [hflag, flag?_of_two_le h2]
        rfl
      · rfl

theorem decodeOrderAdd_badFlag {body : List Byte} {b : Byte} (hb : body[15]? = some b) (h2 : 2 ≤ b.toNat) :
    decodeOrderAdd body = none := by
  unfold decodeOrderAdd
  split
  · next hread =>
    have hflag := getElem?_of_readFields (us := [2, 1, 1, 2, 2, 1, 1, 1, 1, 1, 2]) hread hb
    simp at hflag
    rw [hflag, flag?_of_two_le h2]
    rfl
  · rfl

theorem decodeSegStage_badFlag {body : List Byte} {b : Byte} {k : Nat} (hk : k ∈ [1, 2, 3, 6, 9, 12, 13])
    (hb : body[k]? = some b) (h2 : 2 ≤ b.toNat) : decodeSegStage body = none := by
  unfold decodeSegStage
  split
  · next hread =>
    have hbad := flag?_of_two_le h2
    simp only [List.mem_cons, List.not_mem_nil, or_false] at hk
    rcases hk with rfl | rfl | rfl | rfl | rfl | rfl | rfl
    · have hflag := getElem?_of_readFields (us := [1]) hread hb
      simp at hflag; simp [hflag, hbad]
    · have hflag := getElem?_of_readFields (us := [1, 1]) hread hb
      simp at hflag; simp [hflag, hbad]
    · have hflag := getElem?_of_readFields (us := [1, 1, 1]) hread hb
      simp at hflag; simp [hflag, hbad]
    · have hflag := getElem?_of_readFields (us := [1, 1, 1, 1, 2]) hread hb
      simp at hflag; simp [hflag, hbad]
    · have hflag := getElem?_of_readFields (us := [1, 1, 1, 1, 2, 1, 2]) hread hb
      simp at hflag; simp [hflag, hbad]
    · have hflag := getElem?_of_readFields (us := [1, 1, 1, 1, 2, 1, 2, 1, 2]) hread hb
      simp at hflag; simp [hflag, hbad]
    · have hflag := getElem?_of_readFields (us := [1, 1, 1, 1, 2, 1, 2, 1, 2, 1]) hread hb
      simp at hflag; simp [hflag, hbad]
  · rfl

end Sys2Proof

namespace Sys2Proof.Machine

/-! ## The receiver -/

/-- R187: a character that does not end a frame is collected. -/
theorem exec_character_collected {c : Byte} {s : State} {r : Receiver} (hr : s.link.rx.collect c = r)
    (hc : r.complete = false) : exec (.characterReceived c false) s = .next (s.setRx r).served := by
  show (s.takeChar c).finish = _
  simp [State.takeChar, hr, hc, State.served, State.setLink]

theorem complete_of_state {r : Receiver} (h : r.state ≠ .check) : r.complete = false := by
  simp [Receiver.complete, h]

/-- R187: both CHECK bytes of a frame that does not check. -/
theorem takeChar_badCheck {s : State} {d c : Byte} (hstate : s.link.rx.state = .check)
    (hcheck : s.link.rx.checkBytes = [d]) (hcrc : frameCheck s.link.rx.lenBytes s.link.rx.buffer ≠ [d, c]) :
    s.takeChar c = s.takeBroken := by
  have hcollect : s.link.rx.collect c = { s.link.rx with checkBytes := [d, c] } := by
    simp [Receiver.collect, hstate, hcheck]
  simp [State.takeChar, hcollect, Receiver.complete, hstate, State.endFrame, Receiver.checked, hcrc, State.takeBroken]

/-- R187: the receiver back in HUNT with one more link error. -/
theorem takeBroken_finish (s : State) :
    s.takeBroken.finish = .next (State.served { s with link := { s.link with
      rx := ⟨.hunt, [], [], []⟩, errors := if 65535 ≤ s.link.errors then 65535 else s.link.errors + 1 } }) := by
  simp [State.takeBroken, State.setRx, State.setLink, countError_errors, State.served, Receiver.hunting]

/-- R188 tests 4 and 5: a good frame that carries no request is answered with its code. -/
theorem takeFrame_refused {s : State} {kind tag : Byte} {body : List Byte} {code : ResultCode} {rx : Receiver}
    (ha : s.Accepts tag) (hasked : handleAsked (decodeRequest kind body) = refuseWith code) :
    ((s.setRx rx).takeFrame kind tag body).finish = .next (State.served { s with
      link := Link.pushReply (.reply (replyKind code kind) tag (u8 code.byte) true) { s.link with
        rx := rx, busy := true } }) := by
  have ha' : (s.setRx rx).Accepts tag := ⟨ha.room, ha.free, ha.tagged⟩
  rw [State.takeFrame, hasked, takeRequest_accepted _ ha']
  simp [State.replied, refuseWith, Answer.bare, State.processing, State.served]

/-- R188 test 5: a KIND of a request with a body no such request has is answered FORMAT. -/
theorem handleAsked_misshapen {kind : Byte} {body : List Byte} (hkind : ∃ r : Request, r.kind = kind)
    (hnone : ∀ r, decodeRequest kind body ≠ .request r) :
    handleAsked (decodeRequest kind body) = refuseWith .format := by
  obtain ⟨q, rfl⟩ := hkind
  cases hasked : decodeRequest q.kind body with
  | unknown => exact absurd hasked (decodeRequest_kind_ne_unknown q body)
  | misshapen => rfl
  | request r => exact absurd hasked (hnone r)

theorem handleAsked_unknown {kind : Byte} {body : List Byte} (hkind : ∀ r : Request, r.kind ≠ kind) :
    handleAsked (decodeRequest kind body) = refuseWith .unknown := by
  by_cases h : decodeRequest kind body = .unknown
  · rw [h]; rfl
  · obtain ⟨r, hr⟩ := exists_kind_of_known h
    exact absurd hr (hkind r)

theorem handleAsked_badByte {kind : Byte} {body : List Byte} {k : Nat} {b : Byte} (hb : body[k]? = some b)
    (h2 : 2 ≤ b.toNat) (hk : kind = 0x01#8 ∧ k = 2 ∨ kind = 0x04#8 ∧ k ∈ [1, 14] ∨ kind = 0x08#8 ∧ k = 15
      ∨ kind = 0x10#8 ∧ k ∈ [1, 2, 3, 6, 9, 12, 13]) :
    handleAsked (decodeRequest kind body) = refuseWith .format := by
  have hnone : ∀ {x : Option Request}, x = none → handleAsked (Asked.ofBody x) = refuseWith .format := by
    rintro _ rfl; rfl
  rcases hk with ⟨rfl, rfl⟩ | ⟨rfl, hk⟩ | ⟨rfl, rfl⟩ | ⟨rfl, hk⟩
  · exact hnone (decodePattern_badStep hb h2)
  · exact hnone (decodeClassSet_badFlag hk hb h2)
  · exact hnone (decodeOrderAdd_badFlag hb h2)
  · exact hnone (decodeSegStage_badFlag hk hb h2)

/-! ## One character in each state -/

theorem collect_hunt {r : Receiver} (c : Byte) (h : r.state = .hunt) :
    r.collect c = if c = 0xA5#8 then ⟨.sync, [], [], []⟩ else Receiver.hunting := by
  simp [Receiver.collect, h]

theorem collect_sync {r : Receiver} (c : Byte) (h : r.state = .sync) :
    r.collect c = if c = 0x5A#8 then ⟨.length, [], [], []⟩
      else if c = 0xA5#8 then ⟨.sync, [], [], []⟩ else Receiver.hunting := by
  simp [Receiver.collect, h]

theorem collect_length {r : Receiver} (c : Byte) {f : Byte} (h : r.state = .length) (hl : r.lenBytes = [f]) :
    r.collect c = if 2 ≤ f.toNat + 256 * c.toNat ∧ f.toNat + 256 * c.toNat ≤ 1026
      then ⟨.content, [f, c], [], []⟩ else Receiver.hunting := by
  simp [Receiver.collect, h, hl, Receiver.afterLength, lenOf, fieldValue]

theorem collect_content {r : Receiver} (c : Byte) {f g : Byte} (h : r.state = .content) (hl : r.lenBytes = [f, g]) :
    r.collect c = if r.buffer.length + 1 < f.toNat + 256 * g.toNat then { r with buffer := r.buffer ++ [c] }
      else ⟨.check, [f, g], r.buffer ++ [c], []⟩ := by
  simp [Receiver.collect, h, hl, lenOf, fieldValue]

theorem replyKind_format (kind : Byte) : replyKind .format kind = kind + 0x80#8 := by simp [replyKind]

theorem replyKind_unknown (kind : Byte) : replyKind .unknown kind =
    if 1 ≤ kind.toNat ∧ kind.toNat ≤ 0x3F then kind + 0x80#8 else 0xFF#8 := by
  unfold replyKind
  split <;> split <;> simp_all

/-- Settles O12: each state of the receiver collects its own bytes, and the last CHECK byte takes the frame, which
the decoder refuses as UNKNOWN or FORMAT. -/
theorem receiverFollowsItsTable : Obligations.ReceiverFollowsItsTable := by
  refine ⟨fun c s => ?_, fun s => ⟨rfl, fun f hf => ?_, fun hf => ?_⟩⟩
  · intro rx goes hunt error next
    have hgo : ∀ r : Receiver, rx.collect c = r → r.complete = false → next = goes r :=
      fun r hr hc => exec_character_collected hr hc
    refine ⟨fun h => ?_, fun h => ?_, fun h hl => ?_, fun f h hl => ?_, fun f g h hl => ?_, fun h hb => ?_,
      fun d h hb hcrc => ?_, fun d kind tag body h hb hcrc hbuf ha => ?_, takeBroken_finish s⟩
    · have hcollect := collect_hunt c h
      split_ifs at hcollect ⊢ <;> exact hgo _ hcollect rfl
    · have hcollect := collect_sync c h
      split_ifs at hcollect ⊢ <;> exact hgo _ hcollect rfl
    · exact hgo { rx with lenBytes := [c] } (by simp [Receiver.collect, h, hl]) (complete_of_state (by simp [h]))
    · have hcollect := collect_length c h hl
      split_ifs at hcollect ⊢ <;> exact hgo _ hcollect rfl
    · have hcollect := collect_content c h hl
      split_ifs at hcollect ⊢
      · exact hgo _ hcollect (complete_of_state (by simp [h]))
      · exact hgo _ hcollect rfl
    · exact hgo { rx with checkBytes := [c] } (by simp [Receiver.collect, h, hb]) (by simp [Receiver.complete])
    · exact (congrArg State.finish (takeChar_badCheck h hb hcrc)).trans (takeBroken_finish s)
    · intro answer
      have htake : next = ((s.setRx hunt).takeFrame kind tag body).finish :=
        congrArg State.finish (takeChar_last h hbuf hb hcrc)
      have hformat : handleAsked (decodeRequest kind body) = refuseWith .format →
          next = answer (kind + 0x80#8) 0x03#8 := fun hasked => by
        rw [htake, takeFrame_refused ha hasked, replyKind_format]
        rfl
      refine ⟨fun hkind => ?_, fun hkind hlen => ?_, fun k b hk h2 hplace => ?_⟩
      · rw [htake, takeFrame_refused ha (handleAsked_unknown hkind), replyKind_unknown]
        rfl
      · refine hformat (handleAsked_misshapen hkind fun r hr => ?_)
        obtain ⟨q, rfl⟩ := hkind
        obtain ⟨hrkind, hrlen⟩ := decodeRequest_shapes hr
        exact hlen r hrkind hrlen
      · exact hformat (handleAsked_badByte hk h2 hplace)
  · show (s.setLink Link.frameDone).finish = _
    simp [Link.frameDone, hf, State.setLink, State.served]
  · show (s.setLink Link.frameDone).finish = _
    simp [Link.frameDone, hf, State.setLink, State.served]

end Sys2Proof.Machine
end

section
/-! PROOFS. The pattern store, the class table and the line geometry (O15, O16, O18, O19, O20), and the queries (O21,
O22, O26). -/

namespace Sys2Proof.Machine

/-! ## A state with a request in process -/

@[simp] theorem processing_clock (s : State) : s.processing.clock = s.clock := rfl
@[simp] theorem processing_web (s : State) : s.processing.web = s.web := rfl
@[simp] theorem processing_conv (s : State) : s.processing.conv = s.conv := rfl
@[simp] theorem processing_geometry (s : State) : s.processing.geometry = s.geometry := rfl
@[simp] theorem processing_classes (s : State) : s.processing.classes = s.classes := rfl
@[simp] theorem processing_orders (s : State) : s.processing.orders = s.orders := rfl
@[simp] theorem processing_track (s : State) : s.processing.track = s.track := rfl
@[simp] theorem processing_seq (s : State) : s.processing.seq = s.seq := rfl
@[simp] theorem processing_segs (s : State) : s.processing.segs = s.segs := rfl
@[simp] theorem processing_fmu (s : State) : s.processing.fmu = s.fmu := rfl
@[simp] theorem processing_rcc (s : State) : s.processing.rcc = s.rcc := rfl
@[simp] theorem processing_zones (s : State) : s.processing.zones = s.zones := rfl
@[simp] theorem processing_steam (s : State) : s.processing.steam = s.steam := rfl
@[simp] theorem processing_verify (s : State) : s.processing.verify = s.verify := rfl
@[simp] theorem processing_outlets (s : State) : s.processing.outlets = s.outlets := rfl
@[simp] theorem processing_class? (n : Nat) (s : State) : s.processing.class? n = s.class? n := rfl
@[simp] theorem processing_forming? (s : State) : s.processing.forming? = s.forming? := rfl
@[simp] theorem processing_freeEntries (s : State) : s.processing.freeEntries = s.freeEntries := rfl
@[simp] theorem processing_stepsIn (n : Nat) (s : State) : s.processing.stepsIn n = s.stepsIn n := rfl
@[simp] theorem processing_classInUse (n : Nat) (s : State) : s.processing.classInUse n = s.classInUse n := rfl

/-! ## The figures of a pattern -/

theorem stepStrokes_eq {x : PatStep} (h : fieldsInRange x) : stepStrokes x = strokesOf x := by
  cases x with
  | flat => rfl
  | pleat count form =>
    obtain ⟨-, hform, -⟩ := h
    match form, hform with
    | 0, _ | 1, _ => simp [stepStrokes, strokesOf, formOf?, Form.strokesPerPleat, Form.twoStroke]
    | 2, _ | 3, _ => simp [stepStrokes, strokesOf, formOf?, Form.strokesPerPleat, Form.twoStroke, mul_comm]

theorem stepDelivered_eq {x : PatStep} (h : fieldsInRange x) : stepDelivered x = deliveredOf x := by
  cases x with
  | flat => rfl
  | pleat count form sp dw dh locked => simp only [stepDelivered, deliveredOf, stepStrokes_eq h]

theorem formOf?_isSome {n : Nat} : (formOf? n).isSome = true ↔ n ≤ 3 := by
  match n with
  | 0 | 1 | 2 | 3 => simp [formOf?]
  | n + 4 => simp [formOf?]

theorem stepInRange_iff (x : PatStep) : stepInRange x = true ↔ fieldsInRange x := by
  cases x <;> simp [stepInRange, fieldsInRange, inRange_iff, formOf?_isSome, and_assoc]

theorem stepLockOk_iff {x : PatStep} (h : fieldsInRange x) : stepLockOk x = true ↔ lockFits x := by
  cases x with
  | flat => simp [stepLockOk, lockFits]
  | pleat count form sp dw dh locked =>
    cases locked with
    | true => simp [stepLockOk, lockFits, stepStrokes_eq h]
    | false => simp [stepLockOk, lockFits]

theorem totalStrokes_eq {p : List PatStep} (h : ∀ x ∈ p, fieldsInRange x) : totalStrokes p = (p.map strokesOf).sum := by
  rw [totalStrokes, List.map_congr_left fun x hx => stepStrokes_eq (h x hx)]

theorem totalLength_eq {p : List PatStep} (h : ∀ x ∈ p, fieldsInRange x) :
    totalLength p = (p.map deliveredOf).sum := by
  rw [totalLength, List.map_congr_left fun x hx => stepDelivered_eq (h x hx)]

/-- R25 test 3: the steps before the first bad one pass. -/
theorem firstBadStep_append {good : List PatStep} (h : ∀ x ∈ good, fieldsInRange x ∧ lockFits x) (k : Nat)
    (rest : List PatStep) : firstBadStep k (good ++ rest) = firstBadStep (k + good.length) rest := by
  induction good generalizing k with
  | nil => rfl
  | cons x good ih =>
    obtain ⟨hrange, hlock⟩ := h x List.mem_cons_self
    rw [List.cons_append, firstBadStep, (stepInRange_iff x).mpr hrange, (stepLockOk_iff hrange).mpr hlock]
    simp [ih fun y hy => h y (List.mem_cons_of_mem x hy), Nat.add_comm, Nat.add_left_comm]

theorem firstBadStep_of_fine {p : List PatStep} (h : ∀ x ∈ p, fieldsInRange x ∧ lockFits x) (k : Nat) :
    firstBadStep k p = none := by
  rw [← List.append_nil p, firstBadStep_append h]
  rfl

/-- R25: a pattern with its slot, its number of steps and each step allowed. -/
theorem patternFault_of_fine {slot : Nat} {p : List PatStep} (hslot : 1 ≤ slot ∧ slot ≤ 48)
    (hlen : 1 ≤ p.length ∧ p.length ≤ 64) (h : ∀ x ∈ p, fieldsInRange x ∧ lockFits x) :
    patternFault slot p = if 2000 < (p.map strokesOf).sum then some ⟨5, 0⟩
      else if 1500000 < (p.map deliveredOf).sum then some ⟨6, 0⟩ else none := by
  have hrange : ∀ x ∈ p, fieldsInRange x := fun x hx => (h x hx).1
  simp [patternFault, inRange_iff.mpr hslot, inRange_iff.mpr hlen, Config.slots, firstBadStep_of_fine h,
    totalStrokes_eq hrange, totalLength_eq hrange]

theorem patternFault_of_badStep {slot : Nat} {p : List PatStep} (hslot : 1 ≤ slot ∧ slot ≤ 48)
    (hlen : 1 ≤ p.length ∧ p.length ≤ 64) {c : PatCause} (h : firstBadStep 1 p = some c) :
    patternFault slot p = some c := by
  simp [patternFault, inRange_iff.mpr hslot, inRange_iff.mpr hlen, Config.slots, h]

/-! ## PAT-DEFINE -/

/-- R25: a pattern with a fault is refused with it. -/
theorem exec_patDefine_fault {tag : Byte} {slot : Nat} {p : List PatStep} {s : State} (ha : s.Accepts tag)
    {c : PatCause} (hc : patternFault slot p = some c) :
    exec (.patDefine tag slot p) s = .next (State.replied 0x01#8 tag .range
      (u8 slot ++ u16 s.freeEntries ++ u8 (s.stepsIn slot) ++ u8 c.cause ++ u8 c.index) s.processing) :=
  exec_request_accepted (r := .patDefine slot p) rfl ha (by
    show State.reqPatDefine slot p s.processing = _
    rw [State.reqPatDefine, hc]
    rfl)

/-- R24: the slot is in use. -/
theorem slotInUse_iff (slot : Nat) (s : State) : s.slotInUse slot = true ↔
    (∃ o ∈ s.orders, o.slot = slot) ∨ ∃ x, s.forming? = some x ∧ x.slot = slot := by
  rw [State.slotInUse, Bool.or_eq_true]
  refine or_congr (by simp) ?_
  cases s.forming? <;> simp

/-- Settles O15. -/
theorem patDefineStores : Obligations.PatDefineStores := by
  intro tag slot p s ha h1 h48 hp1 hp64 hfine hstrokes hlength used refuses t
  have hfault : patternFault slot p = none := by
    rw [patternFault_of_fine ⟨h1, h48⟩ ⟨hp1, hp64⟩ hfine, if_neg (by omega), if_neg (by omega)]
  have hreq : ∀ {u : State} {code : ResultCode} {items : List Byte},
      State.reqPatDefine slot p s.processing = (u, ⟨code, items⟩) →
      exec (.patDefine tag slot p) s = .next (State.replied 0x01#8 tag code items u) :=
    fun hr => exec_request_accepted (r := .patDefine slot p) rfl ha hr
  have hused : s.slotInUse slot = true ↔ used := slotInUse_iff slot s
  have hstored : t.pattern? slot = some p := Table.get?_insert_same ..
  have hsteps : t.stepsIn slot = p.length := by rw [State.stepsIn, hstored]
  refine ⟨fun hu => hreq ?_, fun hu hroom => hreq ?_, fun hu hroom => hreq ?_, hstored,
    fun n hn => Table.get?_insert_of_ne _ _ hn⟩
  · simp [State.reqPatDefine, hfault, hused.mpr hu, answered, patDefineItems]
  · simp [State.reqPatDefine, hfault, mt hused.mp hu, hroom, answered, patDefineItems]
  · rw [← hsteps]
    simp [State.reqPatDefine, hfault, mt hused.mp hu, Nat.not_lt.mpr hroom, answered, patDefineItems, t]

/-- Settles O16: the tests are made in order, and the steps before the first bad one pass them. -/
theorem patDefineNamesFirstBadStep : Obligations.PatDefineNamesFirstBadStep := by
  intro tag slot p s ha refuses fine
  have href : ∀ cause index, patternFault slot p = some ⟨cause, index⟩ → refuses cause index :=
    fun cause index h => exec_patDefine_fault (c := ⟨cause, index⟩) ha h
  refine ⟨fun hslot => href _ _ ?_, fun h1 h48 => ⟨fun hlen => href _ _ ?_, fun good bad rest hp hlen hgood => ?_,
    fun hp1 hp64 hfine => ?_⟩⟩
  · have hrange : inRange 1 Config.slots slot = false := by
      rw [← Bool.not_eq_true, inRange_iff, Config.slots]; omega
    simp [patternFault, hrange]
  · have hrange : inRange 1 64 p.length = false := by
      rw [← Bool.not_eq_true, inRange_iff]
      rcases hlen with rfl | hlen
      · simp
      · omega
    simp [patternFault, inRange_iff.mpr ⟨h1, h48⟩, Config.slots, hrange]
  · have hp1 : 1 ≤ p.length := by
      rw [hp, List.length_append, List.length_cons]; omega
    have hfirst : ∀ c, firstBadStep (good.length + 1) (bad :: rest) = some c → patternFault slot p = some c := by
      intro c hc
      refine patternFault_of_badStep ⟨h1, h48⟩ ⟨hp1, hlen⟩ ?_
      rw [hp, firstBadStep_append hgood, Nat.add_comm, hc]
    refine ⟨fun hbad => href _ _ (hfirst _ ?_), fun hrange hlock => href _ _ (hfirst _ ?_)⟩
    · rw [firstBadStep, eq_false_of_ne_true (mt (stepInRange_iff bad).mp hbad)]
      rfl
    · rw [firstBadStep, (stepInRange_iff bad).mpr hrange,
        eq_false_of_ne_true (mt (stepLockOk_iff hrange).mp hlock)]
      rfl
  · have hfault := patternFault_of_fine ⟨h1, h48⟩ ⟨hp1, hp64⟩ hfine
    refine ⟨fun hs => href _ _ ?_, fun hs hl => href _ _ ?_⟩
    · rw [hfault, if_pos hs]
    · rw [hfault, if_neg (by omega), if_pos hl]

/-! ## CLASS-SET -/

theorem classValid_iff (c : FabricClass) : classValid c = true ↔ classInRange c := by
  cases hmax : c.doseMax <;> simp [classValid, classInRange, inRange_iff, hmax, Nat.succ_le_iff, and_assoc]

theorem classInUse_iff (n : Nat) (s : State) : s.classInUse n = true ↔
    (∃ o ∈ s.orders, o.cls = n) ∨ (∃ p ∈ s.track, p.cls = n)
      ∨ s.rcc.u1.names n = true ∨ s.rcc.u2.names n = true := by
  simp only [State.classInUse, State.classOnSpindle, State.classInOrder, State.classInTrack, Bool.or_eq_true,
    List.any_eq_true, decide_eq_true_eq]
  rw [or_assoc, or_comm, or_assoc]

/-- Settles O18. -/
theorem classSetDefines : Obligations.ClassSetDefines := by
  intro tag n c s ha used answer
  have hreq : ∀ {fields : Option FabricClass} {u : State} {code : ResultCode},
      State.reqClassSet n fields s.processing = (u, ⟨code, []⟩) →
      exec (.classSet tag n fields) s = answer code u :=
    fun {fields _ _} hr => exec_request_accepted (r := .classSet n fields) rfl ha hr
  have hused : s.classInUse n = true ↔ used := classInUse_iff n s
  have hvalid := classValid_iff c
  refine ⟨fun hn => ⟨hreq ?_, hreq ?_⟩, fun hn hc => hreq ?_, fun hn hc hu => hreq ?_, fun hn hu => hreq ?_,
    fun hn hc hu => hreq ?_, fun hn hu => hreq ?_⟩
  · simp [State.reqClassSet, classNumber, Nat.not_lt.mpr hn, refused, Answer.bare]
  · simp [State.reqClassSet, classNumber, Nat.not_lt.mpr hn, refused, Answer.bare]
  · simp [State.reqClassSet, classNumber, hn, hvalid, hc, refused, Answer.bare]
  · simp [State.reqClassSet, classNumber, hn, hvalid, hc, hused, hu, refused, Answer.bare]
  · simp [State.reqClassSet, classNumber, hn, hused, hu, refused, Answer.bare]
  · simp [State.reqClassSet, classNumber, hn, hvalid.mpr hc, mt hused.mp hu, answered]
  · simp [State.reqClassSet, classNumber, hn, mt hused.mp hu, answered]

/-! ## LINE-GEOMETRY -/

/-- R6, Table 1.2.1: what the geometry tests together, the verify window among it. -/
theorem geometryValid_iff (window : Nat) (g : Geometry) : geometryValid window g = true ↔
    (100000 ≤ g.seamPath ∧ g.seamPath ≤ 3000000)
      ∧ (10000 ≤ g.detectPath ∧ g.detectPath + 10000 ≤ g.seamPath)
      ∧ (1000 ≤ g.verifyDist ∧ g.verifyDist ≤ 12000 ∧ g.verifyDist + window ≤ 12600)
      ∧ g.verifyDist < g.zones.z1.start ∧ g.zones.z1.start < g.zones.z1.stop
      ∧ g.zones.z1.stop ≤ g.zones.z2.start ∧ g.zones.z2.start < g.zones.z2.stop
      ∧ g.zones.z2.stop ≤ g.zones.z3.start ∧ g.zones.z3.start < g.zones.z3.stop
      ∧ g.zones.z3.stop ≤ g.zones.z4.start ∧ g.zones.z4.start < g.zones.z4.stop
      ∧ (g.zones.z4.stop ≤ g.outletDist ∧ g.outletDist ≤ 4000000) ∧ g.panelGap ≤ 50000 := by
  simp only [geometryValid, Bool.and_eq_true, decide_eq_true_eq, inRange_iff]
  constructor
  · intro h; omega
  · intro h; omega

/-- Settles O19. -/
theorem geometryWriteTaken : Obligations.GeometryWriteTaken := by
  intro tag g s ha consistent
  have hreq : ∀ {u : State} {code : ResultCode} {items : List Byte},
      State.reqLineGeometry (some g) s.processing = (u, ⟨code, items⟩) →
      exec (.lineGeometry tag (some g)) s = .next (State.replied 0x25#8 tag code items u) :=
    fun hr => exec_request_accepted (r := .lineGeometry (some g)) rfl ha hr
  have hvalid : geometryValid s.verify.window g = true ↔ consistent := geometryValid_iff _ g
  refine ⟨fun hbusy => hreq ?_, fun hidle htrack hbad => hreq ?_, fun hidle htrack hok => hreq ?_⟩
  · rw [State.reqLineGeometry]
    exact if_pos hbusy
  · simp [State.reqLineGeometry, hidle, htrack, mt hvalid.mp hbad, answered, geometryReply]
  · simp [State.reqLineGeometry, hidle, htrack, hvalid.mpr hok, answered, geometryReply, State.emptyFolds]

/-! ## PAT-READ and CLASS-READ -/

/-- R29: PAT-READ of a slot that holds a pattern. -/
theorem reqPatRead_stored {n : Nat} {p : List PatStep} {s : State} (h1 : 1 ≤ n) (h48 : n ≤ 48) (hp : s.pattern? n = some p) :
    s.reqPatRead n = answered .ok (patternItems n p) s := by
  have hin : ¬ Config.slots < n := Nat.not_lt.mpr h48
  rw [State.reqPatRead, if_neg (Nat.ne_of_gt h1), if_neg hin, hp]

/-- Settles O20. -/
theorem tableReadsAnswer : Obligations.TableReadsAnswer := by
  intro tag n s ha inForming
  have hread : ∀ {code : ResultCode} {items : List Byte},
      State.reqPatRead n s.processing = (s.processing, ⟨code, items⟩) →
      exec (.patRead tag n) s = .next (State.replied 0x03#8 tag code items s.processing) :=
    fun hr => exec_request_accepted (r := .patRead n) rfl ha hr
  refine ⟨fun p h1 h48 hp => hread ?_, fun h1 h48 hp => hread ?_, fun h0 => hread ?_, fun h48 => hread ?_,
    fun hn => exec_request_accepted (r := .classRead n) rfl ha ?_,
    fun hn => exec_request_accepted (r := .classRead n) rfl ha ?_⟩
  · exact reqPatRead_stored (s := s.processing) h1 h48 hp
  · simp [State.reqPatRead, Nat.ne_of_gt h1, Config.slots, Nat.not_lt.mpr h48, hp, answered, patDropItems]
  · subst h0
    rfl
  · simp [State.reqPatRead, Config.slots, h48, Nat.ne_of_gt (Nat.lt_of_le_of_lt (Nat.zero_le 48) h48), answered]
  · show State.reqClassRead n s.processing = _
    rw [State.reqClassRead, if_neg (by simp [classNumber, hn])]
    rfl
  · simp [handle, State.reqClassRead, classNumber, Nat.not_lt.mpr hn, refused, Answer.bare]

/-! ## The queries -/

/-- Settles O21: each of these requests answers in every state, with the items of its block. -/
theorem queriesChangeNothing : Obligations.QueriesChangeNothing := by
  intro tag start z s ha answer panels exits
  have hzone : zoneOf? z.val = some z := by fin_cases z <;> rfl
  refine ⟨exec_request_accepted (r := .lineGeometry none) rfl ha rfl,
    exec_request_accepted (r := .spliceSet none) rfl ha rfl,
    exec_request_accepted (r := .zoneSet z.val none) rfl ha ?_,
    exec_request_accepted (r := .steamSet none) rfl ha rfl,
    exec_request_accepted (r := .outletSet none) rfl ha rfl,
    exec_request_accepted (r := .verifySet none) rfl ha rfl,
    exec_request_accepted (r := .maskSet none) rfl ha rfl,
    exec_request_accepted (r := .readTrack start) rfl ha rfl,
    exec_request_accepted (r := .readExits start) rfl ha rfl,
    exec_request_accepted (r := .readCounters) rfl ha rfl,
    exec_request_accepted (r := .readStatus) rfl ha rfl⟩
  show State.reqZoneSet z.val none s.processing = _
  rw [State.reqZoneSet, hzone]
  rfl

/-- Settles O22. -/
theorem orderListAnswersEveryOrder : Obligations.OrderListAnswersEveryOrder := by
  intro tag s ha
  refine exec_request_accepted (r := .orderList) rfl ha ?_
  simp only [handle, State.reqOrderList, answered, listItem, Config.orderCapacity, processing_orders]
  congr 4
  refine congrArg (fun entry => s.orders.flatMap entry) (funext fun o => ?_)
  simp [orderItems, listItem]

theorem maskOk_iff {mask : Nat} : maskOk mask = true ↔ 1 ≤ mask ∧ mask < 64 := by
  simp [maskOk, Nat.one_le_iff_ne_zero]

/-- Settles O26. -/
theorem segReadAnswersEachSegment : Obligations.SegReadAnswersEachSegment := by
  intro tag mask s ha settings items
  refine ⟨fun hbad => exec_request_accepted (r := .segRead mask) rfl ha ?_,
    fun h1 h64 => exec_request_accepted (r := .segRead mask) rfl ha ?_⟩
  · have hmask : maskOk mask = false := by
      rw [← Bool.not_eq_true, maskOk_iff]; omega
    simp [handle, State.reqSegRead, hmask, refused, Answer.bare]
  · have hitems : segmentItems s.processing = items := by
      funext i
      simp only [segmentItems, settingItems, items, settings, processing_segs, processing_fmu]
      cases (s.fmu.get i).tension <;> rfl
    simp [handle, State.reqSegRead, maskOk_iff.mpr ⟨h1, h64⟩, answered, segmentList, listItem, hitems, perSegment]

end Sys2Proof.Machine
end

section
/-! PROOFS. The order queue: ORDER-ADD (O23). -/

namespace Sys2Proof.Machine

/-! ## A WAITING line after a request -/

/-- R57a: where a request leaves a WAITING line WAITING, the inhibits are evaluated again by a panel start. -/
theorem reevaluateSince_eq {before u s : State} (hline : u.seq.line = before.seq.line)
    (hstays : before.seq.line = .waiting → s.seq.line = .waiting) :
    State.reevaluateSince u s = State.thenReevaluate before s := by
  unfold State.reevaluateSince State.thenReevaluate State.reevaluate
  rw [hline]
  split
  · next hw => rw [if_pos (hstays hw)]
  · rfl

theorem reevaluateSince_of_not_waiting {u s : State} (h : u.seq.line ≠ .waiting) : State.reevaluateSince u s = s :=
  if_neg h

theorem thenReevaluate_of_not_waiting {before s : State} (h : before.seq.line ≠ .waiting) :
    State.thenReevaluate before s = s := if_neg h

/-! ## The order of an ORDER-ADD -/

/-- R173: the outlet a preference byte names; a byte above 2 names none. -/
def outletAt (n : Nat) : Outlet := if n = 0 then .stackA else if n = 1 then .stackB else .rewind

theorem outletOf?_of_le {n : Nat} (h : n ≤ 2) : outletOf? n = some (outletAt n) := by
  match n, h with
  | 0, _ | 1, _ | 2, _ => rfl

theorem outletOf?_of_gt {n : Nat} (h : 2 < n) : outletOf? n = none := by
  match n, h with
  | n + 3, _ => rfl

theorem outletAt_injOn {l : List Nat} (h : ∀ n ∈ l, n ≤ 2) : ∀ m ∈ l, ∀ n ∈ l, outletAt m = outletAt n → m = n := by
  intro m hm n hn he
  have hm2 := h m hm
  have hn2 := h n hn
  unfold outletAt at he
  split_ifs at he <;> omega

theorem mapM_outletOf?_of_le {l : List Nat} (h : ∀ n ∈ l, n ≤ 2) : l.mapM outletOf? = some (l.map outletAt) := by
  induction l with
  | nil => rfl
  | cons n l ih =>
    simp [outletOf?_of_le (h n List.mem_cons_self), ih fun m hm => h m (List.mem_cons_of_mem n hm)]

theorem mapM_outletOf?_of_gt {l : List Nat} (h : ¬ ∀ n ∈ l, n ≤ 2) : l.mapM outletOf? = none := by
  induction l with
  | nil => simp at h
  | cons n l ih =>
    by_cases hn : n ≤ 2
    · have hl : ¬ ∀ m ∈ l, m ≤ 2 := fun hl => h (List.forall_mem_cons.mpr ⟨hn, hl⟩)
      simp [ih hl, outletOf?_of_le hn]
    · simp [outletOf?_of_gt (Nat.not_le.mp hn)]

/-- R50: the preference bytes counted. -/
def prefBytes (b : OrderBody) : List Nat := [b.pref1, b.pref2, b.pref3].take b.prefCount

/-- R49, R50: every field lies in its range, and the preference list names 1 to 3 different good outlets. -/
structure OrderFields (b : OrderBody) : Prop where
  tag : 1 ≤ b.tag ∧ b.tag ≤ 65535
  slot : 1 ≤ b.slot ∧ b.slot ≤ 48
  cls : b.cls < 16
  grade : 800 ≤ b.grade ∧ b.grade ≤ 1250
  panels : 1 ≤ b.panels ∧ b.panels ≤ 9999
  foldLimit : b.foldLimit ≤ 65535
  policy : b.seamPolicy ≤ 1
  count : 1 ≤ b.prefCount ∧ b.prefCount ≤ 3
  different : (prefBytes b).Nodup
  outlets : ∀ n ∈ prefBytes b, n ≤ 2

/-- R49, R50: the order of a body whose fields lie in their ranges. -/
def orderMade (b : OrderBody) : Order where
  tag := b.tag
  slot := b.slot
  cls := b.cls
  grade := b.grade
  panels := b.panels
  prefs := (prefBytes b).map outletAt
  seamPolicy := if b.seamPolicy = 0 then .skip else .mark
  foldLimit := b.foldLimit
  verifyRequired := b.verifyRequired
  started := 0
  ended := 0
  cancel := .none

theorem seamPolicyOf?_of_le {n : Nat} (h : n ≤ 1) : seamPolicyOf? n = some (if n = 0 then .skip else .mark) := by
  match n, h with
  | 0, _ | 1, _ => rfl

theorem seamPolicyOf?_of_gt {n : Nat} (h : ¬ n ≤ 1) : seamPolicyOf? n = none := by
  match n, h with
  | 0, h | 1, h => exact absurd (by omega) h
  | n + 2, _ => rfl

theorem prefList_of_badCount {b : OrderBody} (h : ¬ (1 ≤ b.prefCount ∧ b.prefCount ≤ 3)) : prefList b = none := by
  unfold prefList
  split
  case h_4 => rfl
  all_goals omega

theorem orderOf?_of_fields {b : OrderBody} (h : OrderFields b) : orderOf? b = some (orderMade b) := by
  have hprefs : prefList b = some ((prefBytes b).map outletAt) :=
    (prefList_eq_mapM h.count).trans (mapM_outletOf?_of_le h.outlets)
  have hnodup : ((prefBytes b).map outletAt).Nodup := h.different.map_on (outletAt_injOn h.outlets)
  simp [orderOf?, hprefs, seamPolicyOf?_of_le h.policy, inRange_iff, Config.slots, h.tag, h.slot, h.cls, h.grade,
    h.panels, h.foldLimit, hnodup, orderMade]

/-- R50: a body that makes an order has every field in its range. -/
theorem fields_of_orderOf? {b : OrderBody} {o : Order} (h : orderOf? b = some o) : OrderFields b := by
  have hcount : 1 ≤ b.prefCount ∧ b.prefCount ≤ 3 := by
    by_contra hbad
    simp [orderOf?, prefList_of_badCount hbad] at h
  have hpolicy : b.seamPolicy ≤ 1 := by
    by_contra hbad
    simp [orderOf?, seamPolicyOf?_of_gt hbad] at h
  have hlist : prefList b = (prefBytes b).mapM outletOf? := prefList_eq_mapM hcount
  have houtlets : ∀ n ∈ prefBytes b, n ≤ 2 := by
    by_contra hbad
    simp [orderOf?, hlist, mapM_outletOf?_of_gt hbad] at h
  simp only [orderOf?, hlist, mapM_outletOf?_of_le houtlets, seamPolicyOf?_of_le hpolicy, Option.ite_none_right_eq_some,
    Bool.and_eq_true, inRange_iff, decide_eq_true_eq, Config.slots] at h
  obtain ⟨⟨⟨⟨⟨⟨⟨htag, hslot⟩, hcls⟩, hgrade⟩, hpanels⟩, hfold⟩, hnodup⟩, -⟩ := h
  exact ⟨htag, hslot, hcls, hgrade, hpanels, hfold, hpolicy, hcount, hnodup.of_map _, houtlets⟩

/-- Settles O23: the fields and the preference list are the tests of the body's order, and each later test is
ORDER-ADD's own. -/
theorem orderAddAppends : Obligations.OrderAddAppends := by
  intro tag b s ha prefs outlet order answer allowed
  have hfields : allowed ↔ OrderFields b ∧ s.class? b.cls ≠ none := by
    refine ⟨fun ⟨h1, h2, ⟨h3, h4⟩, h5, h6, h7, h8, h9, h10, h11⟩ => ⟨⟨h1, h2, h3, h5, h6, h7, h8, h9, h10, h11⟩, h4⟩,
      fun ⟨h, hc⟩ => ⟨h.tag, h.slot, ⟨h.cls, hc⟩, h.grade, h.panels, h.foldLimit, h.policy, h.count, h.different,
        h.outlets⟩⟩
  have hreq : ∀ {u : State} {code : ResultCode},
      State.reqOrderAdd b s.processing = answered code orderCount u → exec (.orderAdd tag b) s = answer code u :=
    fun hr => exec_request_accepted (r := .orderAdd b) rfl ha hr
  have htest : allowed → orderOf? b = some (orderMade b) ∧ ¬ s.class? (orderMade b).cls = none := fun h =>
    ⟨orderOf?_of_fields (hfields.mp h).1, (hfields.mp h).2⟩
  refine ⟨fun hbad => hreq ?_, fun hok hslot => hreq ?_, fun hok hslot huse => hreq ?_,
    fun hok hslot huse hfull => hreq ?_, fun hok hslot huse hroom => hreq ?_⟩
  · cases ho : orderOf? b with
    | none => simp [State.reqOrderAdd, ho]
    | some o =>
      have hf := fields_of_orderOf? ho
      obtain rfl : orderMade b = o := Option.some.inj ((orderOf?_of_fields hf).symm.trans ho)
      have hclass : s.class? (orderMade b).cls = none := by
        by_contra hc
        exact hbad (hfields.mpr ⟨hf, hc⟩)
      simp [State.reqOrderAdd, ho, hclass]
  · obtain ⟨ho, hc⟩ := htest hok
    have hempty : s.pattern? (orderMade b).slot = none := hslot
    simp [State.reqOrderAdd, ho, hc, hempty]
  · obtain ⟨ho, hc⟩ := htest hok
    have hheld : ¬ s.pattern? (orderMade b).slot = none := hslot
    have htag : ∃ x ∈ s.orders, x.tag = (orderMade b).tag := huse
    simp [State.reqOrderAdd, ho, hc, hheld, htag]
  · obtain ⟨ho, hc⟩ := htest hok
    have hheld : ¬ s.pattern? (orderMade b).slot = none := hslot
    have htag : ¬ ∃ x ∈ s.orders, x.tag = (orderMade b).tag := fun ⟨x, hx, he⟩ => huse x hx he
    simp [State.reqOrderAdd, ho, hc, hheld, htag, Config.orderCapacity, hfull]
  · obtain ⟨ho, hc⟩ := htest hok
    have hheld : ¬ s.pattern? (orderMade b).slot = none := hslot
    have htag : ¬ ∃ x ∈ s.orders, x.tag = (orderMade b).tag := fun ⟨x, hx, he⟩ => huse x hx he
    have hagain : State.reevaluateSince s.processing { s.processing with orders := s.orders ++ [orderMade b] } =
        State.thenReevaluate s { s.processing with orders := s.orders ++ [order] } := reevaluateSince_eq rfl id
    refine Eq.trans ?_ (congrArg (answered .ok orderCount) hagain)
    simp [State.reqOrderAdd, ho, hc, hheld, htag, Config.orderCapacity, Nat.not_le.mpr hroom]

end Sys2Proof.Machine
end

section
/-! PROOFS. The settings of the line, the segments, the steam, the outlets and the verifier (O25, O47, O48). -/

namespace Sys2Proof.Machine

/-! ## SEG-STAGE -/

theorem inRangeInt_iff {lo hi v : Int} : inRangeInt lo hi v = true ↔ lo ≤ v ∧ v ≤ hi := by
  simp [inRangeInt]

theorem absentOr_iff {α : Type} {p : α → Bool} {x : Option α} :
    absentOr p x = true ↔ ∀ v, x = some v → p v = true := by
  cases x <;> simp [absentOr]

theorem stageValid_iff (b : StageBody) : stageValid b = true ↔
    (∀ v, b.depthTrim = some v → -300 ≤ v ∧ v ≤ 300) ∧ (∀ v, b.feedTrim = some v → -2000 ≤ v ∧ v ≤ 2000)
      ∧ (∀ v, b.tensionLimit = some v → 100 ≤ v ∧ v ≤ 4095) := by
  simp only [stageValid, Bool.and_eq_true, absentOr_iff, inRangeInt_iff, inRange_iff, and_assoc]

theorem mem_segIndices (i : Fin 6) : i ∈ segIndices := by
  revert i; decide

theorem nodup_segIndices : segIndices.Nodup := by decide

theorem mem_maskSegs {mask : Nat} {i : Fin 6} : i ∈ maskSegs mask ↔ mask.testBit i.val = true := by
  simp [maskSegs, mem_segIndices]

theorem nodup_maskSegs (mask : Nat) : (maskSegs mask).Nodup := nodup_segIndices.filter _

/-- Operations on different segments, each on its own control, give every segment of the list its new control and
leave the rest. -/
theorem foldl_setSeg_eq {f : State → Fin 6 → State} {h : Fin 6 → Segment → Segment}
    (hf : ∀ s i, f s i = s.setSeg i (h i (s.segs.get i))) {l : List (Fin 6)} (hl : l.Nodup) (s : State) :
    l.foldl f s = { s with
      segs := Six.tabulate fun i => if i ∈ l then h i (s.segs.get i) else s.segs.get i } := by
  induction l generalizing s with
  | nil =>
    have hsame : Six.tabulate s.segs.get = s.segs := Six.ext_get fun i => by simp
    simp [hsame]
  | cons j l ih =>
    obtain ⟨hj, hl⟩ := List.nodup_cons.mp hl
    rw [List.foldl_cons, ih hl, hf]
    refine congrArg (fun x => { s with segs := x }) (Six.ext_get fun i => ?_)
    by_cases hij : i = j
    · subst hij; simp [hj]
    · simp [hij, Six.get_set_of_ne]

/-- Settles O25. -/
theorem segStageReplaces : Obligations.SegStageReplaces := by
  intro tag mask b s ha allowed staged
  have hallowed : allowed ↔ maskOk mask = true ∧ stageValid b = true := by
    rw [maskOk_iff, stageValid_iff]
  have hreq : ∀ {u : State} {code : ResultCode} {items : List Byte},
      State.reqSegStage mask b s.processing = (u, ⟨code, items⟩) →
      exec (.segStage tag mask b) s = .next (State.replied 0x10#8 tag code items u) :=
    fun hr => exec_request_accepted (r := .segStage mask b) rfl ha hr
  refine ⟨fun hbad => hreq ?_, fun hok => hreq ?_⟩
  · have href : (!maskOk mask || !stageValid b) = true := by
      rw [hallowed, ← Bool.and_eq_true, Bool.not_eq_true] at hbad
      rw [← Bool.not_and, hbad]; rfl
    simp [State.reqSegStage, href, refused, Answer.bare]
  · obtain ⟨hmask, hvalid⟩ := hallowed.mp hok
    have hfold := foldl_setSeg_eq (f := State.stageSeg b) (h := fun _ g => { g with staged := g.staged.stage b })
      (fun _ _ => rfl) (nodup_maskSegs mask) s.processing
    simp [State.reqSegStage, hmask, hvalid, hfold, answered, stagedItems, segmentList, listItem, perSegment,
      mem_maskSegs]
    refine ⟨rfl, List.flatMap_congr fun i hi => ?_⟩
    rw [if_pos (mem_maskSegs.mp hi)]
    rfl

/-! ## LINE-RATE, ZONE-SET and STEAM-SET -/

theorem zoneOf?_val (z : Fin 4) : zoneOf? z.val = some z := by
  revert z; decide

theorem zoneOf?_of_ge {n : Nat} (h : 4 ≤ n) : zoneOf? n = none := by
  match n, h with
  | n + 4, _ => rfl

theorem zoneValid_iff (b : ZoneBody) : zoneValid b = true ↔ b.sp ≤ 2800 ∧ b.standby ≤ b.sp ∧ b.kp ≤ 255 := by
  simp [zoneValid, and_assoc]

theorem steamValid_iff (b : SteamBody) : steamValid b = true ↔
    (b.reservations.sb ≤ 2000 ∧ b.reservations.z1 ≤ 2000 ∧ b.reservations.z2 ≤ 2000 ∧ b.reservations.z3 ≤ 2000
      ∧ b.reservations.z4 ≤ 2000)
    ∧ b.reservations.sb + b.reservations.z1 + b.reservations.z2 + b.reservations.z3 + b.reservations.z4 ≤ 8000
    ∧ 5 ≤ b.stallLimit ∧ b.stallLimit ≤ 120 := by
  simp only [steamValid, Five.toList, List.all_cons, List.all_nil, Bool.and_true, Bool.and_eq_true,
    decide_eq_true_eq, inRange_iff, and_assoc]
  exact Iff.rfl

/-- Settles O47. -/
theorem rateAndSteamSettingsWritten : Obligations.RateAndSteamSettingsWritten := by
  intro tag s ha rates
  refine ⟨?_, ?_, ?_, ?_⟩
  · intro rate
    have hreq : ∀ {u : State} {code : ResultCode} {items : List Byte},
        State.reqLineRate rate s.processing = (u, ⟨code, items⟩) →
        exec (.lineRate tag rate) s = .next (State.replied 0x24#8 tag code items u) :=
      fun hr => exec_request_accepted (r := .lineRate rate) rfl ha hr
    split
    · next hok => exact hreq (by rw [State.reqLineRate, if_pos (inRange_iff.mpr hok)]; rfl)
    · next hbad => exact hreq (by rw [State.reqLineRate, if_neg (mt inRange_iff.mp hbad)]; rfl)
  · intro zone hz b
    exact exec_request_accepted (r := .zoneSet zone b) rfl ha (by
      show State.reqZoneSet zone b s.processing = _
      rw [State.reqZoneSet, zoneOf?_of_ge hz]; rfl)
  · intro z b t
    have hreq : ∀ {u : State} {code : ResultCode} {items : List Byte},
        State.reqZoneSet z.val (some b) s.processing = (u, ⟨code, items⟩) →
        exec (.zoneSet tag z.val (some b)) s = .next (State.replied 0x28#8 tag code items u) :=
      fun hr => exec_request_accepted (r := .zoneSet z.val (some b)) rfl ha hr
    split
    · next hok => exact hreq (by simp only [State.reqZoneSet, zoneOf?_val, if_pos ((zoneValid_iff b).mpr hok)]; rfl)
    · next hbad => exact hreq (by simp only [State.reqZoneSet, zoneOf?_val, if_neg (mt (zoneValid_iff b).mp hbad)]; rfl)
  · intro b r allowed t u run
    have hreq : ∀ {u : State} {code : ResultCode} {items : List Byte},
        State.reqSteamSet (some b) s.processing = (u, ⟨code, items⟩) →
        run = .next (State.replied 0x29#8 tag code items u) :=
      fun hr => exec_request_accepted (r := .steamSet (some b)) rfl ha hr
    have hallowed : allowed ↔ steamValid b = true := (steamValid_iff b).symm
    refine ⟨fun hbad => hreq ?_, fun hok hshort => hreq ?_, fun ms hok hms hdue => hreq ?_⟩
    · simp only [State.reqSteamSet, if_neg (mt hallowed.mpr hbad)]; rfl
    · have hrun : t.steam.stallDue = false := by
        unfold Steam.stallDue
        split
        · next ms hms => exact decide_eq_false (Nat.not_le.mpr (hshort ms hms))
        · rfl
      have hstays : t.stallIfDue = t := if_neg (by rw [hrun]; exact Bool.false_ne_true)
      simp only [State.reqSteamSet, if_pos (hallowed.mp hok)]
      exact congrArg (answered .ok steamItems) hstays
    · have hrun : t.steam.stallDue = true := by
        have hms' : t.steam.stallTimer = some ms := hms
        rw [Steam.stallDue, hms']
        exact decide_eq_true hdue
      have hstalls : t.stallIfDue = u := if_pos hrun
      simp only [State.reqSteamSet, if_pos (hallowed.mp hok)]
      exact congrArg (answered .ok steamItems) hstalls

/-! ## OUTLET-SET, OUTLET-UNLOAD and VERIFY-SET -/

theorem outletOf?_eq {n : Nat} {o : Outlet} (h : n = 0 ∧ o = .stackA ∨ n = 1 ∧ o = .stackB ∨ n = 2 ∧ o = .rewind) :
    outletOf? n = some o := by
  rcases h with ⟨rfl, rfl⟩ | ⟨rfl, rfl⟩ | ⟨rfl, rfl⟩ <;> rfl

theorem stackOf?_eq {n : Nat} {o : Outlet} (h : n = 0 ∧ o = .stackA ∨ n = 1 ∧ o = .stackB) : stackOf? n = some o := by
  rcases h with ⟨rfl, rfl⟩ | ⟨rfl, rfl⟩ <;> rfl

theorem stackOf?_of_ge {n : Nat} (h : 2 ≤ n) : stackOf? n = none := by
  match n, h with
  | n + 2, _ => cases n <;> rfl

@[simp] theorem raise?_line (f : Option Flag) (s : State) : (s.raise? f).seq = s.seq := by
  cases f <;> rfl

/-- R175: the capacity written, and the flag of a stacker that is full at it. -/
theorem setCapacity_eq {n : Outlet} {f : Flag} (hf : n.fullFlag = some f) (capacity : Nat) (s : State) :
    s.setCapacity n capacity =
      let t : State := { s with outlets := s.outlets.setCounts n { s.outlets.counts n with capacity := capacity } }
      if (s.outlets.counts n).occupied + (s.outlets.counts n).reserved = capacity then t.raise f else t := by
  rw [State.setCapacity, hf]
  rfl

theorem setCapacity_seq (n : Outlet) (capacity : Nat) (s : State) : (s.setCapacity n capacity).seq = s.seq := by
  unfold State.setCapacity
  dsimp only
  split <;> simp

theorem windowOk_iff {d w : Nat} : windowOk d w = true ↔ (50 ≤ w ∧ w ≤ 2000) ∧ w + d ≤ 12600 := by
  simp [windowOk, inRange_iff]

theorem countActionOf?_of_le {n : Nat} (h : n ≤ 2) :
    countActionOf? n = some (if n = 0 then .none else if n = 1 then .enable else .freeze) := by
  match n, h with
  | 0, _ | 1, _ | 2, _ => rfl

theorem countActionOf?_of_gt {n : Nat} (h : ¬ n ≤ 2) : countActionOf? n = none := by
  match n, h with
  | 0, h | 1, h | 2, h => exact absurd (by omega) h
  | n + 3, _ => rfl

theorem periodOf?_of_le {n : Nat} (h : n ≤ 2) :
    periodOf? n = some (if n = 0 then .off else if n = 1 then .s1 else .s5) := by
  match n, h with
  | 0, _ | 1, _ | 2, _ => rfl

theorem periodOf?_of_gt {n : Nat} (h : ¬ n ≤ 2) : periodOf? n = none := by
  match n, h with
  | 0, h | 1, h | 2, h => exact absurd (by omega) h
  | n + 3, _ => rfl

/-- R168, R169: a write by the numbers of its choices. -/
theorem write_eq (window : Nat) {action period : Nat} (ha : action ≤ 2) (hp : period ≤ 2) (v : Verifier) :
    v.write window (if action = 0 then .none else if action = 1 then .enable else .freeze)
        (if period = 0 then .off else if period = 1 then .s1 else .s5) =
      let frozen := if action = 0 then v.frozen else decide (action = 2)
      { v with
        window := window
        frozen := frozen
        checkers := if action = 1 then
            v.checkers.map fun k => { k with matched := 0, outOfTol := 0, missing := 0, extra := 0 }
          else v.checkers
        period := if period = 0 then .off else if period = 1 then .s1 else .s5
        timer := !frozen && decide (period ≠ 0) } := by
  match action, ha with
  | 0, _ | 1, _ | 2, _ =>
    match period, hp with
    | 0, _ | 1, _ | 2, _ => rfl

/-- Settles O48. -/
theorem outletAndVerifierSettingsWritten : Obligations.OutletAndVerifierSettingsWritten := by
  intro tag s ha
  refine ⟨?_, ?_, ?_, ?_, ?_⟩
  · intro b n hn c t t' t''
    have hreq : ∀ {u : State} {code : ResultCode} {items : List Byte},
        State.reqOutletSet (some b) s.processing = (u, ⟨code, items⟩) →
        exec (.outletSet tag (some b)) s = .next (State.replied 0x2A#8 tag code items u) :=
      fun hr => exec_request_accepted (r := .outletSet (some b)) rfl ha hr
    split
    · next hbad =>
      have hrange : ¬ inRange 1 200 b.capacity = true := by rw [inRange_iff]; omega
      exact hreq (by simp only [State.reqOutletSet, stackOf?_eq hn, Bool.eq_false_iff.mpr hrange]; rfl)
    · next hcap =>
      have hrange : inRange 1 200 b.capacity = true := by rw [inRange_iff]; omega
      split
      · next hless => 
        refine hreq ?_
        simp only [State.reqOutletSet, stackOf?_eq hn, hrange]
        exact if_pos hless
      · next hroom =>
        have hflag : n.fullFlag = some (if b.outlet = 0 then .stackFullA else .stackFullB) := by
          rcases hn with ⟨hb, rfl⟩ | ⟨hb, rfl⟩ <;> rw [hb] <;> rfl
        have hset : s.processing.setCapacity n b.capacity = t' := setCapacity_eq hflag _ _
        have hagain : State.reevaluateSince s.processing (s.processing.setCapacity n b.capacity) = t'' := by
          rw [hset]
          exact reevaluateSince_eq rfl fun hw => by rw [← hset, setCapacity_seq]; exact hw
        refine hreq (Eq.trans ?_ (congrArg (answered .ok outletItems) hagain))
        simp only [State.reqOutletSet, stackOf?_eq hn, hrange]
        exact if_neg hroom
  · intro b hb
    exact exec_request_accepted (r := .outletSet (some b)) rfl ha (by
      show State.reqOutletSet (some b) s.processing = _
      simp only [State.reqOutletSet, stackOf?_of_ge hb]; rfl)
  · intro outlet count n hn c t
    have hagain : State.reevaluateSince s.processing (s.processing.unload n count) = t := reevaluateSince_eq rfl id
    refine exec_request_accepted (r := .outletUnload outlet count) rfl ha (Eq.trans ?_
      (congrArg (answered .ok fun t => u16 (min count c.occupied) ++ outletItems t) hagain))
    show State.reqOutletUnload outlet count s.processing = _
    simp only [State.reqOutletUnload, outletOf?_eq hn]
    rfl
  · intro outlet count ho
    exact exec_request_accepted (r := .outletUnload outlet count) rfl ha (by
      show State.reqOutletUnload outlet count s.processing = _
      simp only [State.reqOutletUnload, outletOf?_of_gt ho]; rfl)
  · intro b v allowed frozen t
    have hreq : ∀ {u : State} {code : ResultCode} {items : List Byte},
        State.reqVerifySet (some b) s.processing = (u, ⟨code, items⟩) →
        exec (.verifySet tag (some b)) s = .next (State.replied 0x2C#8 tag code items u) :=
      fun hr => exec_request_accepted (r := .verifySet (some b)) rfl ha hr
    split
    · next hok =>
      obtain ⟨hwindow, hdist, haction, hperiod⟩ := hok
      have hw : windowOk s.geometry.verifyDist b.window = true := windowOk_iff.mpr ⟨hwindow, hdist⟩
      refine hreq ?_
      simp only [State.reqVerifySet, countActionOf?_of_le haction, periodOf?_of_le hperiod, processing_geometry, hw]
      exact congrArg (fun v => answered .ok verifyItems { s.processing with verify := v })
        (write_eq b.window haction hperiod s.verify)
    · next hbad =>
      refine hreq ?_
      by_cases haction : b.action ≤ 2
      · by_cases hperiod : b.period ≤ 2
        · have hw : ¬ windowOk s.geometry.verifyDist b.window = true := fun hw =>
            hbad ⟨(windowOk_iff.mp hw).1, (windowOk_iff.mp hw).2, haction, hperiod⟩
          simp only [State.reqVerifySet, countActionOf?_of_le haction, periodOf?_of_le hperiod, processing_geometry, hw]
          rfl
        · simp only [State.reqVerifySet, countActionOf?_of_le haction, periodOf?_of_gt hperiod]
          rfl
      · simp only [State.reqVerifySet, countActionOf?_of_gt haction]
        rfl

end Sys2Proof.Machine
end

section
/-! PROOFS. What the operations of the line leave: entries into a line state, holds and presses change the sequencer,
the segments, the roll change controller and the link alone. -/

namespace Sys2Proof.Machine

/-- `t` differs from `s` in its sequencer, segments, roll change controller and link alone. -/
structure State.LineAlone (s t : State) : Prop where
  pending : t.pending = s.pending
  freeIndex : t.freeIndex = s.freeIndex
  clock : t.clock = s.clock
  web : t.web = s.web
  conv : t.conv = s.conv
  geometry : t.geometry = s.geometry
  classes : t.classes = s.classes
  patterns : t.patterns = s.patterns
  orders : t.orders = s.orders
  nextPanel : t.nextPanel = s.nextPanel
  track : t.track = s.track
  fmu : t.fmu = s.fmu
  zones : t.zones = s.zones
  steam : t.steam = s.steam
  verify : t.verify = s.verify
  outlets : t.outlets = s.outlets
  estopInput : t.estopInput = s.estopInput

/-- `t` differs from `s` in its segments and its link alone. -/
structure State.SegsAlone (s t : State) : Prop extends s.LineAlone t where
  seq : t.seq = s.seq
  rcc : t.rcc = s.rcc

/-- `t` differs from `s` in its roll change controller and its link alone. -/
structure State.RccAlone (s t : State) : Prop extends s.LineAlone t where
  seq : t.seq = s.seq
  segs : t.segs = s.segs

namespace State

theorem LineAlone.refl (s : State) : s.LineAlone s := by
  constructor <;> rfl

theorem LineAlone.trans {s t u : State} (h : s.LineAlone t) (k : t.LineAlone u) : s.LineAlone u where
  pending := k.pending.trans h.pending
  freeIndex := k.freeIndex.trans h.freeIndex
  clock := k.clock.trans h.clock
  web := k.web.trans h.web
  conv := k.conv.trans h.conv
  geometry := k.geometry.trans h.geometry
  classes := k.classes.trans h.classes
  patterns := k.patterns.trans h.patterns
  orders := k.orders.trans h.orders
  nextPanel := k.nextPanel.trans h.nextPanel
  track := k.track.trans h.track
  fmu := k.fmu.trans h.fmu
  zones := k.zones.trans h.zones
  steam := k.steam.trans h.steam
  verify := k.verify.trans h.verify
  outlets := k.outlets.trans h.outlets
  estopInput := k.estopInput.trans h.estopInput

theorem SegsAlone.refl (s : State) : s.SegsAlone s := ⟨LineAlone.refl s, rfl, rfl⟩

theorem SegsAlone.trans {s t u : State} (h : s.SegsAlone t) (k : t.SegsAlone u) : s.SegsAlone u :=
  ⟨h.toLineAlone.trans k.toLineAlone, k.seq.trans h.seq, k.rcc.trans h.rcc⟩

theorem RccAlone.refl (s : State) : s.RccAlone s := ⟨LineAlone.refl s, rfl, rfl⟩

theorem RccAlone.trans {s t u : State} (h : s.RccAlone t) (k : t.RccAlone u) : s.RccAlone u :=
  ⟨h.toLineAlone.trans k.toLineAlone, k.seq.trans h.seq, k.segs.trans h.segs⟩

theorem LineAlone.forming? {s t : State} (h : s.LineAlone t) : t.forming? = s.forming? := by
  rw [State.forming?, State.forming?, h.track]

theorem lineAlone_setSeq (f : Seq → Seq) (s : State) : s.LineAlone (s.setSeq f) := by constructor <;> rfl
theorem rccAlone_setRcc (f : RollChange → RollChange) (s : State) : s.RccAlone (s.setRcc f) := by
  constructor
  · constructor <;> rfl
  · rfl
  · rfl
theorem segsAlone_setSeg (i : Fin 6) (g : Segment) (s : State) : s.SegsAlone (s.setSeg i g) := by
  constructor
  · constructor <;> rfl
  · rfl
  · rfl
theorem segsAlone_setDrive (i : Fin 6) (d : Drive) (s : State) : s.SegsAlone (s.setDrive i d) := segsAlone_setSeg _ _ _
theorem segsAlone_raise (f : Flag) (s : State) : s.SegsAlone (s.raise f) := by
  constructor
  · constructor <;> rfl
  · rfl
  · rfl
theorem rccAlone_raise (f : Flag) (s : State) : s.RccAlone (s.raise f) := by
  constructor
  · constructor <;> rfl
  · rfl
  · rfl
theorem segsAlone_raise? (f : Option Flag) (s : State) : s.SegsAlone (s.raise? f) := by
  cases f with
  | none => exact .refl s
  | some f => exact segsAlone_raise f s

theorem SegsAlone.foldl {α : Type} {f : State → α → State} (h : ∀ (s : State) (a : α), s.SegsAlone (f s a))
    (l : List α) (s : State) :
    s.SegsAlone (l.foldl f s) := by
  induction l generalizing s with
  | nil => exact .refl s
  | cons a l ih => exact (h s a).trans (ih _)

theorem SegsAlone.ite {s t u : State} {p : Prop} [Decidable p] (ht : s.SegsAlone t) (hu : s.SegsAlone u) :
    s.SegsAlone (if p then t else u) := by
  split
  · exact ht
  · exact hu

theorem RccAlone.ite {s t u : State} {p : Prop} [Decidable p] (ht : s.RccAlone t) (hu : s.RccAlone u) :
    s.RccAlone (if p then t else u) := by
  split
  · exact ht
  · exact hu

theorem LineAlone.ite {s t u : State} {p : Prop} [Decidable p] (ht : s.LineAlone t) (hu : s.LineAlone u) :
    s.LineAlone (if p then t else u) := by
  split
  · exact ht
  · exact hu

/-! ## The segments -/

theorem segsAlone_setSegState (i : Fin 6) (st : SegState) (s : State) : s.SegsAlone (s.setSegState i st) :=
  .ite (.refl s) ((segsAlone_setSeg _ _ s).trans (segsAlone_raise _ _))

theorem segsAlone_setStatus (i : Fin 6) (st : ConfigStatus) (s : State) : s.SegsAlone (s.setStatus i st) :=
  .ite ((segsAlone_setSeg _ _ s).trans (segsAlone_raise _ _)) (segsAlone_setSeg _ _ s)

theorem segsAlone_standReady (s : State) : s.SegsAlone s.standReady :=
  .foldl (fun s i => .ite (segsAlone_setSegState i _ s) (.refl s)) _ _

theorem segsAlone_goActive (s : State) : s.SegsAlone s.goActive :=
  .foldl (fun s i => .ite (segsAlone_setSegState i _ s) (.refl s)) _ _

theorem segsAlone_nowCopy (i : Fin 6) (s : State) : s.SegsAlone (s.nowCopy i) :=
  (segsAlone_setSeg _ _ s).trans (segsAlone_setStatus _ _ _)

theorem segsAlone_nowCopies (s : State) : s.SegsAlone s.nowCopies :=
  .foldl (fun s i => .ite (segsAlone_nowCopy i s) (.refl s)) _ _

theorem segsAlone_boundaryCopy (i : Fin 6) (s : State) : s.SegsAlone (s.boundaryCopy i) := by
  have hset := segsAlone_setSeg i { s.segs.get i with active := (s.segs.get i).staged } s
  have hmove : ∀ (st : SegState) (d : Drive), s.SegsAlone
      ((((s.setSeg i { s.segs.get i with active := (s.segs.get i).staged }).setSegState i st).setDrive i d).setStatus i
        .inProgress) :=
    fun st d => ((hset.trans (segsAlone_setSegState i st _)).trans (segsAlone_setDrive i d _)).trans
      (segsAlone_setStatus i _ _)
  exact .ite (hset.trans (segsAlone_setStatus i _ _)) (.ite (hmove _ _) (hmove _ _))

theorem segsAlone_boundaryCopies (is : List (Fin 6)) (s : State) : s.SegsAlone (s.boundaryCopies is) :=
  .foldl (fun s i => .ite (segsAlone_setStatus i _ s) (segsAlone_boundaryCopy i s)) _ _

/-! ## The roll change controller -/

theorem rccAlone_evalStandby (s : State) : s.RccAlone s.evalStandby :=
  .ite ((rccAlone_setRcc _ s).trans (rccAlone_raise _ _)) (rccAlone_setRcc _ s)

theorem rccAlone_triggerTest (s : State) : s.RccAlone s.triggerTest := .ite (rccAlone_setRcc _ s) (.refl s)

theorem rccAlone_fire (s : State) : s.RccAlone s.fire := by
  unfold State.fire
  split
  · exact (rccAlone_setRcc _ s).trans (rccAlone_evalStandby _)
  · exact .refl s

theorem rccAlone_pressTest (s : State) : s.RccAlone s.pressTest := by
  unfold State.pressTest
  split
  · exact .ite (rccAlone_fire s) (.refl s)
  · exact .refl s

theorem rccAlone_confirmSplice (how : ConfirmedBy) (s : State) : s.RccAlone (s.confirmSplice how) := by
  have hrecord : s.RccAlone (s.recordSeam how) := by
    unfold State.recordSeam
    split
    · exact rccAlone_setRcc _ s
    · exact .refl s
  exact (hrecord.trans (rccAlone_setRcc _ _)).trans (rccAlone_raise _ _)

theorem rccAlone_detectTest (s : State) : s.RccAlone s.detectTest := by
  unfold State.detectTest
  split
  · split
    · exact .ite (.ite (rccAlone_confirmSplice _ s) (rccAlone_setRcc _ s)) (.refl s)
    · exact .refl s
  · exact .refl s

/-! ## The line -/

theorem lineAlone_enter (l : LineState) (s : State) : s.LineAlone (s.enter l) := by
  have hentry : s.LineAlone (((s.setSeq (Seq.enterLine l)).raise .lineState).raise? l.entryFlag) :=
    ((lineAlone_setSeq _ s).trans (segsAlone_raise _ _).toLineAlone).trans (segsAlone_raise? _ _).toLineAlone
  refine .ite (.refl s) ?_
  cases l with
  | idle | held => exact hentry.trans (segsAlone_standReady _).toLineAlone
  | waiting | running | holding | draining | estop => exact hentry

theorem lineAlone_enterHeld (s : State) : s.LineAlone s.enterHeld :=
  (lineAlone_enter _ s).trans (rccAlone_pressTest _).toLineAlone

theorem lineAlone_enterIdle (s : State) : s.LineAlone s.enterIdle :=
  (lineAlone_enter _ s).trans (rccAlone_pressTest _).toLineAlone

theorem lineAlone_stopAtBoundary (s : State) : s.LineAlone s.stopAtBoundary :=
  .ite (.ite (lineAlone_enterIdle s) (lineAlone_enterHeld s)) (.refl s)

theorem lineAlone_enterHolding (s : State) : s.LineAlone s.enterHolding := by
  unfold State.enterHolding
  split
  · exact ((lineAlone_setSeq _ s).trans (lineAlone_enter _ _)).trans (lineAlone_stopAtBoundary _)
  · exact ((lineAlone_setSeq _ s).trans (lineAlone_enter _ _)).trans (lineAlone_stopAtBoundary _)
  · exact .refl s

theorem lineAlone_addHold (f : HoldSet → HoldSet) (s : State) : s.LineAlone (s.addHold f) := by
  have hset := lineAlone_setSeq (fun q => { q with hold := f q.hold }) s
  unfold State.addHold
  dsimp only
  split
  · exact hset.trans (lineAlone_enterHolding _)
  · exact hset.trans (lineAlone_enterHolding _)
  · exact hset.trans (lineAlone_enterHeld _)
  all_goals exact hset

theorem lineAlone_addHoldAtOnce (f : HoldSet → HoldSet) (s : State) : s.LineAlone (s.addHoldAtOnce f) := by
  have hset := lineAlone_setSeq (fun q => { q with hold := f q.hold }) s
  unfold State.addHoldAtOnce
  dsimp only
  split
  case h_5 | h_6 | h_7 => exact hset
  all_goals exact hset.trans (lineAlone_enterHeld _)

theorem lineAlone_fireTests (s : State) : s.LineAlone s.fireTests := by
  have hpress : ∀ t : State, s.LineAlone t → s.LineAlone t.pressTest :=
    fun t h => h.trans (rccAlone_pressTest t).toLineAlone
  unfold State.fireTests
  refine .ite (.ite (hpress s (.refl s)) (.ite ?_ (.refl s))) (.refl s)
  split
  · exact (rccAlone_fire s).toLineAlone
  · exact hpress _ ((rccAlone_setRcc _ s).toLineAlone.trans (lineAlone_addHold _ _))

end State

/-! ## Entries into a line state -/

theorem enter_same {l : LineState} {s : State} (h : s.seq.line = l) : s.enter l = s := if_pos h

/-- R54, R89: the line enters IDLE from another state. -/
theorem enter_idle_eq {s : State} (h : s.seq.line ≠ .idle) :
    s.enter .idle = State.standReady (State.raise .lineState { s with
      seq := { s.seq with line := .idle, pace := .stopped, stop := .none, inhibits := Inhibits.empty } }) := if_neg h

/-- R54, R89: the line enters HELD from another state. -/
theorem enter_held_eq {s : State} (h : s.seq.line ≠ .held) :
    s.enter .held = State.standReady (State.raise .held (State.raise .lineState { s with
      seq := { s.seq with line := .held, pace := .stopped } })) := if_neg h

/-- R54: the line enters WAITING from another state. -/
theorem enter_waiting_eq {s : State} (h : s.seq.line ≠ .waiting) :
    s.enter .waiting = State.raise .inhibit (State.raise .lineState { s with
      seq := { s.seq with line := .waiting, pace := .stopped } }) := if_neg h

/-- R54: the line enters a state in which it makes steps from another state. -/
theorem enter_moving_eq {l : LineState} {s : State} (hl : l.moving = true) (h : s.seq.line ≠ l) :
    s.enter l = State.raise .lineState { s with seq := { s.seq with line := l } } := by
  rw [State.enter, if_neg h]
  cases l with
  | idle | waiting | held | estop => simp [LineState.moving] at hl
  | running | holding | draining => rfl

/-- R54: the sequencer's own items after an entry. -/
theorem enter_seq {l : LineState} {s : State} (h : s.seq.line ≠ l) : (s.enter l).seq = s.seq.enterLine l := by
  have hentry : (((s.setSeq (Seq.enterLine l)).raise .lineState).raise? l.entryFlag).seq = s.seq.enterLine l :=
    (State.segsAlone_raise? _ _).seq
  rw [State.enter, if_neg h]
  cases l with
  | idle | held => exact (State.segsAlone_standReady _).seq.trans hentry
  | waiting | running | holding | draining | estop => exact hentry

@[simp] theorem enter_line (l : LineState) (s : State) : (s.enter l).seq.line = l := by
  by_cases h : s.seq.line = l
  · rw [enter_same h, h]
  · rw [enter_seq h]; cases l <;> rfl

@[simp] theorem enter_rcc (l : LineState) (s : State) : (s.enter l).rcc = s.rcc := by
  have hentry : (((s.setSeq (Seq.enterLine l)).raise .lineState).raise? l.entryFlag).rcc = s.rcc :=
    (State.segsAlone_raise? _ _).rcc
  unfold State.enter
  split
  · rfl
  · cases l with
    | idle | held => exact (State.segsAlone_standReady _).rcc.trans hentry
    | waiting | running | holding | draining | estop => exact hentry

@[simp] theorem enter_step (l : LineState) (s : State) : (s.enter l).seq.step = s.seq.step := by
  by_cases h : s.seq.line = l
  · rw [enter_same h]
  · rw [enter_seq h]; cases l <;> rfl

@[simp] theorem enter_plan (l : LineState) (s : State) : (s.enter l).seq.plan = s.seq.plan := by
  by_cases h : s.seq.line = l
  · rw [enter_same h]
  · rw [enter_seq h]; cases l <;> rfl

@[simp] theorem enter_gap (l : LineState) (s : State) : (s.enter l).seq.gap = s.seq.gap := by
  by_cases h : s.seq.line = l
  · rw [enter_same h]
  · rw [enter_seq h]; cases l <;> rfl

@[simp] theorem enter_kept (l : LineState) (s : State) : (s.enter l).seq.kept = s.seq.kept := by
  by_cases h : s.seq.line = l
  · rw [enter_same h]
  · rw [enter_seq h]; cases l <;> rfl

@[simp] theorem enter_hold (l : LineState) (s : State) : (s.enter l).seq.hold = s.seq.hold := by
  by_cases h : s.seq.line = l
  · rw [enter_same h]
  · rw [enter_seq h]; cases l <;> rfl

/-- R89: with no ACTIVE segment nothing becomes READY. -/
theorem standReady_of_no_active {s : State} (h : ∀ i, (s.segs.get i).state ≠ .active) : s.standReady = s := by
  have hfold : ∀ l : List (Fin 6),
      l.foldl (fun t i => if (t.segs.get i).state = .active then t.setSegState i .ready else t) s = s := by
    intro l
    induction l with
    | nil => rfl
    | cons i l ih => rw [List.foldl_cons, if_neg (h i), ih]
  exact hfold segIndices

/-- With no press due, the test for one changes nothing. -/
theorem pressTest_of_none {s : State} (h : s.rcc.pressDue = none) : s.pressTest = s := by
  rw [State.pressTest, h]

theorem enterIdle_of_none {s : State} (h : s.rcc.pressDue = none) : s.enterIdle = s.enter .idle :=
  pressTest_of_none (by rw [enter_rcc, h])

theorem enterHeld_of_none {s : State} (h : s.rcc.pressDue = none) : s.enterHeld = s.enter .held :=
  pressTest_of_none (by rw [enter_rcc, h])

end Sys2Proof.Machine
end

section
/-! PROOFS. The events of the field: strays (O38), the e-stop's release and the bin (O60), the supply and its rounds
(O50), the zones and the stall (O51), and the exit test (O58). -/

namespace Sys2Proof.Machine

/-- An event that is discarded changes nothing. -/
theorem finish_of_eq {t s : State} (h : t = s) : t.finish = .next (State.served s) := by
  rw [h]; rfl

/-! ## Strays -/

theorem isWithdraw_iff (d : Drive) : d.isWithdraw = true ↔ d = .withdraw := by
  cases d <;> simp [Drive.isWithdraw]

theorem isHome_iff (d : Drive) : d.isHome = true ↔ d = .home := by
  cases d <;> simp [Drive.isHome]

theorem isPark_iff (d : Drive) : d.isPark = true ↔ d = .park := by
  cases d <;> simp [Drive.isPark]

theorem driveTimeout_stray {i : Fin 6} {p : Drive → Bool} {c : FaultCause} {s : State}
    (h : ¬ p (s.segs.get i).drive = true) : s.driveTimeout i p c = s := if_neg h

/-- Settles O38. -/
theorem strayEventsDiscarded : Obligations.StrayEventsDiscarded := by
  intro i z s g same
  refine ⟨fun h => finish_of_eq (driveTimeout_stray (Bool.eq_false_iff.mp h)),
    fun h => finish_of_eq (driveTimeout_stray (Bool.eq_false_iff.mp h)),
    fun h => finish_of_eq (driveTimeout_stray (mt (isWithdraw_iff _).mp h)),
    fun h => finish_of_eq (driveTimeout_stray (mt (isHome_iff _).mp h)),
    fun h => finish_of_eq (driveTimeout_stray (mt (isPark_iff _).mp h)),
    fun h => finish_of_eq (if_pos h), fun h => finish_of_eq (if_neg h), fun h => finish_of_eq (if_neg ?_),
    fun h => finish_of_eq (if_neg (Bool.eq_false_iff.mp h)), fun h => finish_of_eq (if_neg ?_),
    fun h => finish_of_eq ?_, fun h => finish_of_eq (if_neg (Bool.eq_false_iff.mp h)),
    fun h => finish_of_eq (if_neg (Bool.eq_false_iff.mp h)), fun h => finish_of_eq (if_neg (Bool.eq_false_iff.mp h)),
    fun h => finish_of_eq (if_neg ?_), fun h => finish_of_eq (if_neg (Bool.eq_false_iff.mp h))⟩
  · rcases h with h | h <;> simp [h]
  · simp [h]
  · unfold State.debounced
    rw [h]
    cases s.rcc.candidate <;> rfl
  · simp [h]

/-! ## The e-stop's release and the bin -/

/-- R135: what a splice in MISSED adds to the hold requester set of an IDLE line. -/
theorem missedHolds_of_missed {s : State} {c : MissCause} (hs : s.rcc.splice = .missed c) (h : s.seq.line = .idle) :
    s.missedHolds = s.setSeq fun q => { q with hold := { q.hold with splice := true } } := by
  simp [State.missedHolds, hs, State.addHold, h]

theorem missedHolds_of_not_missed {s : State} (hs : ∀ c, s.rcc.splice ≠ .missed c) : s.missedHolds = s := by
  unfold State.missedHolds
  split
  · next c hc => exact absurd hc (hs c)
  all_goals rfl

/-- Settles O60. -/
theorem estopReleasedAndBinLevel : Obligations.EstopReleasedAndBinLevel := by
  intro full s
  refine ⟨fun h => finish_of_eq (if_neg (Bool.eq_false_iff.mp h)), ?_, fun h => finish_of_eq (if_pos h), ?_⟩
  · intro hinput hline hpress hactive missed
    have hidle : (State.setSeq (fun q => { q with hold := q.hold.afterEstop })
        { s with estopInput := false }).enterIdle = State.raise .lineState { s with
          estopInput := false
          seq := { s.seq with
            line := .idle, hold := s.seq.hold.afterEstop, pace := .stopped, stop := .none
            inhibits := Inhibits.empty } } := by
      refine (enterIdle_of_none ?_).trans ((enter_idle_eq ?_).trans (standReady_of_no_active hactive))
      · exact hpress
      · rw [setSeq_seq, hline]; decide
    refine finish_of_eq ((if_pos hinput).trans ((congrArg State.missedHolds hidle).trans ?_))
    by_cases hs : ∃ c, s.rcc.splice = .missed c
    · obtain ⟨c, hs⟩ := hs
      refine (missedHolds_of_missed (c := c) ?_ ?_).trans ?_
      · exact hs
      · rfl
      · simp only [missed, hs]
        rfl
    · have hmissed : missed = false := by
        simp only [missed]
        split
        · next c hc => exact absurd ⟨c, hc⟩ hs
        · rfl
      refine (missedHolds_of_not_missed ?_).trans ?_
      · exact fun c hc => hs ⟨c, hc⟩
      · rw [hmissed]
        rfl
  · intro h t
    have hseq : ∀ u : State, u = (if full = true then t.raise .rejectBinFull else t) → u.seq = s.seq := by
      rintro u rfl
      split <;> rfl
    exact finish_of_eq ((if_neg h).trans (reevaluateSince_eq rfl fun hw => by rw [hseq _ rfl]; exact hw))

/-! ## The supply and its rounds -/

theorem clampInt_eq (hi : Nat) (v : Int) : clampInt hi v = if v < 0 then 0 else if (hi : Int) < v then hi else v.toNat := rfl

theorem fireTests_of_not_slotted {s : State} (h : s.rcc.splice ≠ .slotted) : s.fireTests = s := if_neg h

theorem fireTestsAgain_of_not_slotted {s : State} (h : s.rcc.splice ≠ .slotted) : s.fireTestsAgain = s := by
  simp [State.fireTestsAgain, fireTests_of_not_slotted h, h]

/-- R155: a round in ESTOP. -/
theorem round_of_estop (c : Nat) {s : State} (h : s.seq.line = .estop) : s.round c =
    { s with steam := { s.steam with demands := s.roundDemands, grants := Five.fill 0 } } := if_pos h

theorem round_of_not_estop (c : Nat) {s : State} (h : s.seq.line ≠ .estop) : s.round c =
    State.actCeiling { s with steam := Steam.countStarved { s.steam with
      demands := s.roundDemands, grants := roundGrants c s.roundDemands s.steam.reservations } } := if_neg h

theorem any_three_le (v : Four Nat) : v.any (fun n => decide (3 ≤ n)) = true ↔
    3 ≤ v.z1 ∨ 3 ≤ v.z2 ∨ 3 ≤ v.z3 ∨ 3 ≤ v.z4 := by
  simp [Four.any, Four.toList]

/-- R150: the third round short of steam. -/
theorem actCeiling_of_third {s : State} (h : 3 ≤ s.steam.starved.z1 ∨ 3 ≤ s.steam.starved.z2 ∨ 3 ≤ s.steam.starved.z3
    ∨ 3 ≤ s.steam.starved.z4) : s.actCeiling = (State.setCeiling (lowerCeiling s.steam.ceiling)
      (s.setSteam fun a => { a with starved := a.starved.map fun n => if 3 ≤ n then 0 else n })).raise .zoneStarved :=
  if_pos ((any_three_le _).mpr h)

/-- R150: the fourth satisfied round. -/
theorem actCeiling_of_fourth {s : State} (h : ¬ (3 ≤ s.steam.starved.z1 ∨ 3 ≤ s.steam.starved.z2
    ∨ 3 ≤ s.steam.starved.z3 ∨ 3 ≤ s.steam.starved.z4)) (h4 : 4 ≤ s.steam.satisfied) :
    s.actCeiling = State.setCeiling (raiseCeiling s.steam.ceiling) (s.setSteam fun a => { a with satisfied := 0 }) :=
  (if_neg (mt (any_three_le _).mp h)).trans (if_pos h4)

theorem actCeiling_of_neither {s : State} (h : ¬ (3 ≤ s.steam.starved.z1 ∨ 3 ≤ s.steam.starved.z2
    ∨ 3 ≤ s.steam.starved.z3 ∨ 3 ≤ s.steam.starved.z4)) (h4 : s.steam.satisfied < 4) : s.actCeiling = s :=
  (if_neg (mt (any_three_le _).mp h)).trans (if_neg (Nat.not_le.mpr h4))

/-- Settles O50. -/
theorem roundCountsAndSetsCeiling : Obligations.RoundCountsAndSetsCeiling := by
  intro c v s demands grants short some_ count satisfied counted third cleared changed supply read lost
  have hcounted : Steam.countStarved { s.steam with demands := demands, grants := grants } = counted := by
    have hsome : (short 0 || (short 1 || (short 2 || (short 3 || false)))) = some_ := by
      simp only [some_, Bool.or_false, Bool.or_assoc]
    show ({ counted with
      satisfied := if (short 0 || (short 1 || (short 2 || (short 3 || false)))) = true then 0
        else s.steam.satisfied + 1 } : Steam) = counted
    rw [hsome]
  have hround : s.seq.line ≠ .estop → s.round c = State.actCeiling { s with steam := counted } := fun h =>
    (round_of_not_estop c h).trans (congrArg (fun a => State.actCeiling { s with steam := a }) hcounted)
  refine ⟨fun h => round_of_estop c h, fun h h3 => (hround h).trans (actCeiling_of_third h3),
    fun h h3 h4 => (hround h).trans (actCeiling_of_fourth h3 h4),
    fun h h3 h4 => (hround h).trans (actCeiling_of_neither h3 h4), rfl,
    fun h => finish_of_eq (if_pos h), fireTestsAgain_of_not_slotted⟩

/-! ## The zones and the stall -/

theorem satAdd_eq_min (top a b : Nat) : satAdd top a b = min top (a + b) := by
  unfold satAdd
  split <;> omega

theorem leadIn_iff (z : Fin 4) (p : Panel) (s : State) : s.leadIn z p = true ↔
    (s.geometry.zones.get z).start ≤ s.conv - p.head ∧ s.conv - p.head < (s.geometry.zones.get z).stop := by
  rw [State.leadIn, Span.holds, Bool.and_eq_true, decide_eq_true_eq, decide_eq_true_eq]
  exact Iff.rfl

theorem tailIn_iff (z : Fin 4) (p : Panel) (s : State) : s.tailIn z p = true ↔ ∃ c, p.tail = some c ∧
    (s.geometry.zones.get z).start ≤ s.conv - c ∧ s.conv - c < (s.geometry.zones.get z).stop := by
  unfold State.tailIn
  cases p.tail with
  | none => simp
  | some c =>
    show Span.holds (s.geometry.zones.get z) (s.distance c) = true ↔ _
    rw [Span.holds, Bool.and_eq_true, decide_eq_true_eq, decide_eq_true_eq]
    exact ⟨fun h => ⟨c, rfl, h⟩, fun ⟨_, he, h⟩ => Option.some.inj he ▸ h⟩

theorem scorches_iff (z : Fin 4) (t : Int) (s : State) (p : Panel) : s.scorches z t p = true ↔
    (s.leadIn z p = true ∨ s.tailIn z p = true) ∧ ((s.classFields p.cls).tmax : Int) < t := by
  simp [State.scorches, State.probeIn]

/-- R140, R141: the record after a sample of zone `z` at the clamped temperature `t`. -/
def State.sampledPanel (z : Fin 4) (t : Int) (s : State) (p : Panel) : Panel :=
  { p with
    lead := if s.leadIn z p then addDose z (excess t (s.classFields p.cls).tb) p.lead else p.lead
    tailDose := if s.tailIn z p then addDose z (excess t (s.classFields p.cls).tb) p.tailDose else p.tailDose
    reasons := if s.scorches z t p then { p.reasons with scorched := true } else p.reasons }

/-- R140: a dose changes neither the place of a record nor its class. -/
theorem scorches_accrue (z : Fin 4) (t : Int) (s : State) (p : Panel) :
    s.scorches z t (s.accrue z t p) = s.scorches z t p := by
  unfold State.accrue
  dsimp only
  split <;> split <;> rfl

theorem scorched_accrue (z : Fin 4) (t : Int) (s : State) (p : Panel) :
    (if s.scorches z t (s.accrue z t p) then
      { s.accrue z t p with reasons := { (s.accrue z t p).reasons with scorched := true } } else s.accrue z t p)
      = s.sampledPanel z t p := by
  rw [scorches_accrue]
  unfold State.sampledPanel State.accrue
  dsimp only
  split <;> split <;> split <;> rfl

/-- R139 to R141: what a zone sample writes. -/
theorem zoneSample_eq (z : Fin 4) (temp : Int) (s : State) : s.zoneSample z temp =
    let t := clampTemp temp
    let u : State := { s with
      zones := s.zones.set z { s.zones.get z with
        temp := some t, silenceTimer := true, cold := false, demand := (s.zones.get z).demandAt s.steam.stalled t }
      track := s.track.map (s.sampledPanel z t) }
    if s.track.any (s.scorches z t) then u.raise .scorch else u := by
  have htrack : (s.track.map (s.accrue z (clampTemp temp))).map (fun p =>
      if s.scorches z (clampTemp temp) p then { p with reasons := { p.reasons with scorched := true } } else p)
        = s.track.map (s.sampledPanel z (clampTemp temp)) := by
    rw [List.map_map]
    exact List.map_congr_left fun p _ => scorched_accrue z _ s p
  have hany : (s.track.map (s.accrue z (clampTemp temp))).any (s.scorches z (clampTemp temp))
      = s.track.any (s.scorches z (clampTemp temp)) := by
    rw [List.any_map]
    exact congrArg s.track.any (funext fun p => scorches_accrue z _ s p)
  dsimp only
  rw [← htrack, ← hany]
  rfl

/-- Settles O51. -/
theorem tunnelEvents : Obligations.TunnelEvents := by
  refine ⟨?_, fun z s => ⟨fun h => finish_of_eq (if_pos h), fun h => finish_of_eq (if_pos h)⟩⟩
  intro z temp s t x setpoint raw demand zone inZone tailIn grown hot
  have hlead : ∀ p : Panel, inZone p.head ↔ s.leadIn z p = true := fun p => (leadIn_iff z p s).symm
  have htail : ∀ p, tailIn p ↔ s.tailIn z p = true := fun p => (tailIn_iff z p s).symm
  have hhot : ∀ p, hot p ↔ s.scorches z t p = true := fun p => by
    rw [scorches_iff, ← hlead, ← htail]
  have hgrown : ∀ p d, addDose z (excess t (s.classFields p.cls).tb) d = grown p d := fun p d =>
    congrArg (d.set z) (satAdd_eq_min ..)
  have hany : s.track.any (s.scorches z t) = true ↔ ∃ p ∈ s.track, hot p := by
    simp only [List.any_eq_true, hhot]
  have hzones : (s.zoneSample z temp).zones = s.zones.set z { x with
      temp := some t, silenceTimer := true, cold := false, demand := demand } := by
    rw [zoneSample_eq]
    dsimp only
    split <;> rfl
  have htrack : (s.zoneSample z temp).track = s.track.map (s.sampledPanel z t) := by
    rw [zoneSample_eq]
    dsimp only
    split <;> rfl
  refine ⟨s.zoneSample z temp, rfl, hzones, by rw [htrack, List.length_map], fun k p hp => ?_, fun hcool => ?_,
    fun hhits => ?_⟩
  · refine ⟨s.sampledPanel z t p, by rw [htrack, List.getElem?_map, hp]; rfl, ?_⟩
    simp only [hlead, htail, hhot, State.sampledPanel, ← hgrown]
    refine ⟨fun h => if_pos h, fun h => if_neg h, fun h => if_pos h, fun h => if_neg h, fun h => if_pos h,
      fun h => if_neg h, trivial⟩
  · rw [hzones, htrack, zoneSample_eq]
    exact if_neg (mt hany.mp fun ⟨p, hp, h⟩ => hcool p hp h)
  · rw [hzones, htrack, zoneSample_eq]
    exact if_pos (hany.mpr hhits)

/-! ## The exit test -/

theorem atOutlet_iff (p : Panel) (s : State) : s.atOutlet p = true ↔
    p.state = .travelling ∧ ∃ t, p.tail = some t ∧ s.geometry.outletDist ≤ s.conv - t := by
  unfold State.atOutlet
  split
  · next t hp ht =>
    simp only [hp, ht, true_and, Option.some.injEq, exists_eq_left', decide_eq_true_eq]
    exact Iff.rfl
  · next h =>
    refine ⟨fun hf => absurd hf Bool.false_ne_true, fun ⟨hp, t, ht, _⟩ => (h t hp ht).elim⟩

theorem exitTest_of_stays {p : Panel} {rest : List Panel} {s : State} (ht : s.track = p :: rest)
    (h : ¬ s.atOutlet p = true) : s.exitTest = s := by
  rw [State.exitTest, ht]
  exact if_neg h

/-- What a handing over leaves of the tests of exit. -/
theorem atOutlet_handOver (p q : Panel) (s : State) : (s.handOver p).atOutlet q = s.atOutlet q := by
  have hkeeps : (s.handOver p).geometry = s.geometry ∧ (s.handOver p).conv = s.conv := by
    unfold State.handOver State.reportExit
    dsimp only
    split <;> exact ⟨rfl, rfl⟩
  obtain ⟨hgeometry, hconv⟩ := hkeeps
  unfold State.atOutlet State.distance
  rw [hgeometry, hconv]

/-- R44: one record leaves. -/
theorem exitTest_of_one {p : Panel} {rest : List Panel} {s : State} (ht : s.track = p :: rest)
    (h : s.atOutlet p = true) (hrest : ∀ q, rest.head? = some q → ¬ s.atOutlet q = true) :
    s.exitTest = State.handOver p { s with track := rest } := by
  have hhead : s.exitTest = State.exitFrom rest (State.handOver p { s with track := rest }) := by
    rw [State.exitTest, ht]
    exact if_pos h
  rw [hhead]
  cases rest with
  | nil => rfl
  | cons q rest =>
    refine if_neg ?_
    rw [atOutlet_handOver]
    exact hrest q rfl

/-- R178: a panel is rejected for any cause. -/
theorem reject_eq (c : Causes) : c.reject = decide (c ≠ ⟨false, false, false, false, false⟩) := by
  obtain ⟨a, b, c, d, e⟩ := c
  revert a b c d e
  decide

theorem settle_eq (reject : Bool) (c : OutletCounts) : c.settle reject =
    { c with reserved := c.reserved - 1, occupied := if reject then c.occupied else c.occupied + 1 } := by
  cases reject <;> rfl

@[simp] theorem setCounts_exits (n : Outlet) (c : OutletCounts) (o : Outlets) : (o.setCounts n c).exits = o.exits := by
  cases n <;> rfl

@[simp] theorem setCounts_nextExit (n : Outlet) (c : OutletCounts) (o : Outlets) :
    (o.setCounts n c).nextExit = o.nextExit := by
  cases n <;> rfl

@[simp] theorem setCounts_skipped (n : Outlet) (c : OutletCounts) (o : Outlets) :
    (o.setCounts n c).skipped = o.skipped := by
  cases n <;> rfl

/-- R179 to R182: a handing over by its exit record. -/
theorem handOver_eq {p : Panel} {s : State} {x : ExitRecord} (h : s.exitRecord p = x) : s.handOver p =
    State.reportExit x { s with outlets :=
      { s.outlets.setCounts p.outlet ((s.outlets.counts p.outlet).settle x.causes.reject) with
        port := some x.final, exits := appendExit x s.outlets.exits, nextExit := s.outlets.nextExit + 1 } } := by
  subst h
  unfold State.handOver
  dsimp only
  rw [setCounts_exits, setCounts_nextExit]

theorem reportExit_of_room (x : ExitRecord) {s : State} (h : s.link.queue.length < 28) :
    s.reportExit x = s.setLink fun l => { l with queue := l.queue ++ [.panelOut x] } := if_pos h

theorem reportExit_of_full (x : ExitRecord) {s : State} (h : ¬ s.link.queue.length < 28) : s.reportExit x =
    State.raise .exitReportSkipped
      { s with outlets := { s.outlets with skipped := satAdd 65535 s.outlets.skipped 1 } } := if_neg h

/-- Settles O58. -/
theorem exitSettlesPanel : Obligations.ExitSettlesPanel := by
  intro p rest s ht gone c lead tail causes reject final record n out out'
  have hgone : ∀ q, gone q ↔ s.atOutlet q = true := fun q => (atOutlet_iff q s).symm
  refine ⟨fun h => exitTest_of_stays ht (mt (hgone p).mpr h), fun h hrest => ?_⟩
  rw [exitTest_of_one ht ((hgone p).mp h) fun q hq => mt (hgone q).mpr (hrest q hq)]
  have hunder : (decide (lead < c.doseMin) || decide (tail < c.doseMin)) = decide (lead < c.doseMin ∨ tail < c.doseMin) :=
    (Bool.decide_or ..).symm
  have hover : (overMax c.doseMax lead || overMax c.doseMax tail) = causes.overdosed := by
    simp only [causes]
    cases c.doseMax with
    | none => rfl
    | some m => exact (Bool.decide_or ..).symm
  have hcauses : rejectCauses (s.classFields p.cls) p = causes := by
    show Causes.mk _ (decide (lead < c.doseMin) || decide (tail < c.doseMin))
      (overMax c.doseMax lead || overMax c.doseMax tail) _ _ = causes
    rw [hunder, hover]
    rfl
  have hreject : causes.reject = reject := reject_eq causes
  have hrecord : State.exitRecord p { s with track := rest } = record := by
    show ExitRecord.mk s.outlets.nextExit p lead tail (rejectCauses (s.classFields p.cls) p)
      (if (rejectCauses (s.classFields p.cls) p).reject then .reject else .good p.outlet)
      ((rejectCauses (s.classFields p.cls) p).reject && s.outlets.binFull) s.conv = record
    rw [hcauses, hreject]
  have hcounts : s.outlets.setCounts p.outlet (n.settle record.causes.reject) = out := by
    show s.outlets.setCounts p.outlet (n.settle causes.reject) = out
    rw [settle_eq, hreject]
  have hhand : State.handOver p { s with track := rest } =
      State.reportExit record { s with track := rest, outlets := out' } :=
    (handOver_eq hrecord).trans (congrArg (fun o : Outlets => State.reportExit record { s with
      track := rest
      outlets := { o with
        port := some record.final, exits := appendExit record s.outlets.exits
        nextExit := s.outlets.nextExit + 1 } }) hcounts)
  rw [hhand]
  split
  · next hroom => exact reportExit_of_room _ (by exact hroom)
  · next hfull =>
    refine (reportExit_of_full _ (by exact hfull)).trans ?_
    simp only [out', out, setCounts_skipped, satAdd_eq_min]

end Sys2Proof.Machine
end

section
/-! PROOFS. The verifier's events (O52): the outcomes of folds, the sweep, and the snapshot. -/

namespace Sys2Proof.Machine

theorem Six.set_set {α : Type} (v : Six α) (i : Fin 6) (a b : α) : (v.set i a).set i b = v.set i b := by
  refine Six.ext_get fun j => ?_
  by_cases h : j = i
  · subst h; simp
  · simp [Six.get_set_of_ne _ _ h]

/-! ## An outcome -/

/-- A match out of tolerance. -/
def FoldOutcome.off : FoldOutcome → Bool
  | .matched within => !within
  | .missing | .extra => false

/-- A fold that did not come. -/
def FoldOutcome.absent : FoldOutcome → Bool
  | .missing => true
  | .matched _ | .extra => false

/-- A fold that was not expected. -/
def FoldOutcome.stray : FoldOutcome → Bool
  | .extra => true
  | .matched _ | .missing => false

/-- One more where an outcome counts, up to a limit. -/
def addIf (b : Bool) (top n : Nat) : Nat := if b then min top (n + 1) else n

/-- R165: the outcome takes the checker one step towards the other lock state. -/
def FoldOutcome.steps (o : FoldOutcome) (k : Checker) : Bool := decide (o.hit ≠ k.locked)

/-- R165: the outcome changes the lock state: the 8th match or the 4th fault in a row. -/
def FoldOutcome.flips (o : FoldOutcome) (k : Checker) : Bool :=
  o.steps k && decide (k.run + 1 = if k.locked then 4 else 8)

theorem write_eq_adds (o : FoldOutcome) (unlocked : Bool) (p : Panel) : o.write unlocked p = { p with
    outOfTol := addIf o.off 65535 p.outOfTol, missing := addIf o.absent 65535 p.missing
    extra := addIf o.stray 65535 p.extra
    reasons := { p.reasons with unverifiedSeen := p.reasons.unverifiedSeen || unlocked } } := by
  cases o with
  | matched within => cases within <;> simp [FoldOutcome.write, addIf, FoldOutcome.off, FoldOutcome.absent,
      FoldOutcome.stray, satAdd_eq_min]
  | missing | extra => simp [FoldOutcome.write, addIf, FoldOutcome.off, FoldOutcome.absent, FoldOutcome.stray,
      satAdd_eq_min]

theorem count_eq_adds (o : FoldOutcome) (k : Checker) : o.count k = { k with
    matched := addIf o.hit 4294967295 k.matched, outOfTol := addIf o.off 4294967295 k.outOfTol
    missing := addIf o.absent 4294967295 k.missing, extra := addIf o.stray 4294967295 k.extra } := by
  cases o with
  | matched within => cases within <;> simp [FoldOutcome.count, addIf, FoldOutcome.off, FoldOutcome.absent,
      FoldOutcome.stray, FoldOutcome.hit, satAdd_eq_min]
  | missing | extra => simp [FoldOutcome.count, addIf, FoldOutcome.off, FoldOutcome.absent, FoldOutcome.stray,
      FoldOutcome.hit, satAdd_eq_min]

theorem lock_eq_flips (o : FoldOutcome) (k : Checker) : o.lock k = { k with
    locked := if o.flips k then o.hit else k.locked
    run := if o.flips k then 0 else if o.steps k then k.run + 1 else 0 } := by
  cases hl : k.locked <;> cases hh : o.hit
  case false.true => by_cases hrun : k.run = 7 <;> simp [FoldOutcome.lock, FoldOutcome.flips, FoldOutcome.steps, *]
  case true.false => by_cases hrun : k.run = 3 <;> simp [FoldOutcome.lock, FoldOutcome.flips, FoldOutcome.steps, *]
  all_goals simp [FoldOutcome.lock, FoldOutcome.flips, FoldOutcome.steps, *]

/-- R165, R167: the checker after an outcome. -/
def FoldOutcome.after (frozen : Bool) (o : FoldOutcome) (k : Checker) : Checker :=
  o.lock (if frozen then k else o.count k)

theorem after_eq (frozen : Bool) (o : FoldOutcome) (k : Checker) : o.after frozen k = { k with
    locked := if o.flips k then o.hit else k.locked
    run := if o.flips k then 0 else if o.steps k then k.run + 1 else 0
    matched := if frozen then k.matched else addIf o.hit 4294967295 k.matched
    outOfTol := if frozen then k.outOfTol else addIf o.off 4294967295 k.outOfTol
    missing := if frozen then k.missing else addIf o.absent 4294967295 k.missing
    extra := if frozen then k.extra else addIf o.stray 4294967295 k.extra } := by
  unfold FoldOutcome.after
  cases frozen with
  | true => exact lock_eq_flips o k
  | false =>
    show o.lock (o.count k) = _
    rw [lock_eq_flips, count_eq_adds]
    rfl

theorem after_locked_eq_iff (frozen : Bool) (o : FoldOutcome) (k : Checker) :
    (o.after frozen k).locked = k.locked ↔ o.flips k = false := by
  rw [after_eq]
  cases hf : o.flips k with
  | false => simp
  | true =>
    have hsteps : o.steps k = true := (Bool.and_eq_true _ _ ▸ hf).1
    simpa using (of_decide_eq_true hsteps)

/-- The records after an outcome written into the panel it names. -/
def State.writtenTrack (o : FoldOutcome) (panel : Option Nat) (unlocked : Bool) (s : State) : List Panel :=
  s.track.map fun p => if panel = some p.number then o.write unlocked p else p

/-- R164 to R167: an outcome of checker `i`. -/
theorem recordOutcome_eq (i : Fin 6) (o : FoldOutcome) (panel : Option Nat) (s : State) : s.recordOutcome i o panel =
    let k := s.verify.checkers.get i
    let t : State := { s with
      track := s.writtenTrack o panel (!k.locked)
      verify := { s.verify with checkers := s.verify.checkers.set i (o.after s.verify.frozen k) } }
    if (o.after s.verify.frozen k).locked = k.locked then t else t.raise (.lock i) := by
  cases panel with
  | none =>
    have htrack : ∀ b, s.writtenTrack o none b = s.track := fun b => by simp [State.writtenTrack]
    simp only [htrack]
    rfl
  | some n =>
    have htrack : ∀ b, s.writtenTrack o (some n) b = (s.writePanel n (o.write b)).track := fun b => by
      simp [State.writtenTrack, State.writePanel, eq_comm]
    simp only [htrack]
    rfl

/-- R164 to R167: an outcome of checker `i`, with what is already taken from its queue. -/
theorem recordOutcome_setChecker (i : Fin 6) (o : FoldOutcome) (panel : Option Nat) (k : Checker) (s : State) :
    (s.setChecker i k).recordOutcome i o panel =
      let t : State := { s with
        track := s.writtenTrack o panel (!k.locked)
        verify := { s.verify with checkers := s.verify.checkers.set i (o.after s.verify.frozen k) } }
      if o.flips k then t.raise (.lock i) else t := by
  have hget : ((s.setChecker i k).verify.checkers.get i) = k := Six.get_set_same ..
  have hset : (s.setChecker i k).verify.checkers.set i (o.after s.verify.frozen k) =
      s.verify.checkers.set i (o.after s.verify.frozen k) := Six.set_set ..
  rw [recordOutcome_eq]
  simp only [hget]
  have hfrozen : (s.setChecker i k).verify.frozen = s.verify.frozen := rfl
  rw [hfrozen, hset]
  cases hf : o.flips k with
  | false => exact if_pos ((after_locked_eq_iff _ o k).mpr hf)
  | true => exact if_neg (mt (after_locked_eq_iff _ o k).mp (by simp [hf]))

/-! ## The sweep -/

theorem sweep_of_front {i : Fin 6} {c : Nat} {s : State} {e : ExpectedFold} {rest : List ExpectedFold}
    (hq : (s.verify.checkers.get i).queue = e :: rest) (h : c ≤ e.count + s.verify.window) : s.sweep i c = s := by
  rw [State.sweep, hq]
  exact if_neg (Nat.not_lt.mpr h)

theorem sweep_of_empty {i : Fin 6} {c : Nat} {s : State} (hq : (s.verify.checkers.get i).queue = []) :
    s.sweep i c = s := by
  rw [State.sweep, hq]
  rfl

theorem recordOutcome_queue (i : Fin 6) (o : FoldOutcome) (panel : Option Nat) (k : Checker) (s : State) :
    (((s.setChecker i k).recordOutcome i o panel).verify.checkers.get i).queue = k.queue := by
  rw [recordOutcome_setChecker, after_eq]
  dsimp only
  split <;> simp

/-- R160: an overdue front entry is popped as MISSING, and the sweep goes on. -/
theorem sweep_of_overdue {i : Fin 6} {c : Nat} {s : State} {e : ExpectedFold} {rest : List ExpectedFold}
    (hq : (s.verify.checkers.get i).queue = e :: rest) (h : e.count + s.verify.window < c) :
    s.sweep i c = ((s.setChecker i { s.verify.checkers.get i with queue := rest, last := none }).recordOutcome i .missing
      (some e.panel)).sweep i c := by
  have hrest := recordOutcome_queue i .missing (some e.panel)
    { s.verify.checkers.get i with queue := rest, last := none } s
  rw [State.sweep, hq, State.sweep, hrest]
  exact if_pos h

/-! ## The match -/

/-- R163: the pitch of a fold is not within tolerance. -/
theorem pitchWithin_eq_false_iff {k : Checker} {e : ExpectedFold} {x : Nat} : pitchWithin k e x = false ↔
    e.first = false ∧ ∃ stamp, k.last = some (e.panel, stamp)
      ∧ (x - stamp + e.tol < e.spacing ∨ e.spacing + e.tol < x - stamp) := by
  unfold pitchWithin
  cases hf : e.first with
  | true => simp
  | false =>
    cases hl : k.last with
    | none => simp
    | some m =>
      obtain ⟨n, stamp⟩ := m
      by_cases hn : n = e.panel
      · subst hn
        simp only [Bool.false_eq_true, if_false, if_true, Bool.and_eq_false_iff, decide_eq_false_iff_not, true_and,
          Option.some.injEq, Prod.mk.injEq, exists_eq_left', Nat.not_le]
      · simp [hn]

/-- R161: a fold event on a checker that does not watch. -/
theorem foldEvent_of_not_watching {i : Fin 6} {s : State} (h : ¬ s.watching i = true) : s.foldEvent i = s := if_neg h

theorem foldEvent_of_watching {i : Fin 6} {s : State} (h : s.watching i = true) :
    s.foldEvent i = (s.sweep i s.conv).matchFold i s.conv := if_pos h

theorem watching_iff (i : Fin 6) (s : State) : s.watching i = true ↔
    (s.verify.checkers.get i).queue ≠ [] ∨ (s.segs.get i).engaged = true ∧ (s.segs.get i).active.verify = true := by
  simp [State.watching]

/-- R162: the front entry in the window is matched. -/
theorem matchFold_of_within {i : Fin 6} {x : Nat} {s : State} {e : ExpectedFold} {rest : List ExpectedFold}
    (hq : (s.verify.checkers.get i).queue = e :: rest) (h : absDiff x e.count ≤ s.verify.window) :
    s.matchFold i x = (s.setChecker i { s.verify.checkers.get i with queue := rest, last := some (e.panel, x) }).recordOutcome
      i (.matched (pitchWithin (s.verify.checkers.get i) e x)) (some e.panel) := by
  unfold State.matchFold
  simp only [hq]
  exact if_pos h

theorem matchFold_of_outside {i : Fin 6} {x : Nat} {s : State} {e : ExpectedFold} {rest : List ExpectedFold}
    (hq : (s.verify.checkers.get i).queue = e :: rest) (h : s.verify.window < absDiff x e.count) :
    s.matchFold i x = s.recordOutcome i .extra (some e.panel) := by
  unfold State.matchFold
  simp only [hq]
  exact if_neg (Nat.not_le.mpr h)

theorem matchFold_of_empty {i : Fin 6} {x : Nat} {s : State} (hq : (s.verify.checkers.get i).queue = []) :
    s.matchFold i x = s.recordOutcome i .extra none := by
  unfold State.matchFold
  simp only [hq]

theorem setChecker_get_self (i : Fin 6) (s : State) : s.setChecker i (s.verify.checkers.get i) = s := by
  unfold State.setChecker
  rw [Six.set_get_self]

/-! ## The snapshot -/

theorem any_isSnapshot_eq_false {q : List TxEntry} (h : ∀ x, TxEntry.snapshot x ∉ q) :
    q.any (·.isSnapshot) = false := by
  refine List.any_eq_false.mpr fun e he hs => ?_
  cases e with
  | snapshot x => exact h x he
  | reply | flagNotice | panelOut => exact Bool.false_ne_true hs

theorem replaceSnapshots_of_none {q : List TxEntry} (n : Snapshot) (h : ∀ x, TxEntry.snapshot x ∉ q) :
    q.map (fun e => if e.isSnapshot then .snapshot n else e) = q := by
  refine (List.map_congr_left fun e he => if_neg ?_).trans (List.map_id' q)
  exact List.any_eq_false.mp (any_isSnapshot_eq_false h) e he

theorem pushSnapshot_of_none {l : Link} (n : Snapshot) (h : ∀ x, TxEntry.snapshot x ∉ l.queue) :
    l.pushSnapshot n = if l.queue.length < 28 then { l with queue := l.queue ++ [.snapshot n] } else l :=
  if_neg (by rw [any_isSnapshot_eq_false h]; exact Bool.false_ne_true)

theorem pushSnapshot_of_one {l : Link} {before after : List TxEntry} {x : Snapshot} (n : Snapshot)
    (hq : l.queue = before ++ .snapshot x :: after) (hb : ∀ y, TxEntry.snapshot y ∉ before)
    (ha : ∀ y, TxEntry.snapshot y ∉ after) :
    l.pushSnapshot n = { l with queue := before ++ .snapshot n :: after } := by
  have hmap : l.queue.map (fun e => if e.isSnapshot then .snapshot n else e) = before ++ .snapshot n :: after := by
    rw [hq, List.map_append, List.map_cons, replaceSnapshots_of_none n hb, replaceSnapshots_of_none n ha]
    rfl
  have hany : l.queue.any (·.isSnapshot) = true :=
    List.any_eq_true.mpr ⟨.snapshot x, by rw [hq]; simp, rfl⟩
  rw [Link.pushSnapshot, if_pos hany, hmap]

/-- Settles O52. -/
theorem verifierEvents : Obligations.VerifierEvents := by
  refine ⟨?_, ?_⟩
  · intro i s x w k add outcome watching run
    have houtcome : ∀ (o : FoldOutcome) (panel : Option Nat) (before : Checker),
        (s.setChecker i before).recordOutcome i o panel = outcome o.hit o.off o.absent o.stray panel before s := by
      intro o panel before
      rw [recordOutcome_setChecker, after_eq]
      simp only [State.writtenTrack, write_eq_adds]
      rfl
    have hself : ∀ (o : FoldOutcome) (panel : Option Nat),
        s.recordOutcome i o panel = outcome o.hit o.off o.absent o.stray panel k s := fun o panel =>
      (congrArg (State.recordOutcome i o panel) (setChecker_get_self i s)).symm.trans (houtcome o panel k)
    have hwatching : watching ↔ s.watching i = true := (watching_iff i s).symm
    have hevent : s.watching i = true → run = .next (State.served ((s.sweep i x).matchFold i x)) := fun h =>
      finish_of_eq (foldEvent_of_watching h)
    have hwaits : ∀ {e rest}, k.queue = e :: rest → s.watching i = true := fun hq =>
      hwatching.mp (.inl (by rw [hq]; exact List.cons_ne_nil _ _))
    refine ⟨fun h => finish_of_eq (foldEvent_of_not_watching (mt hwatching.mpr h)), fun h hq => ?_,
      fun e rest hq hdue hout => ?_, ?_, ?_⟩
    · rw [hevent (hwatching.mp h), sweep_of_empty hq, matchFold_of_empty hq, hself]
      rfl
    · rw [hevent (hwaits hq), sweep_of_front hq hdue, matchFold_of_outside hq hout, hself]
      rfl
    · intro e rest hq hdue hin tested popped
      have htested : tested ↔ pitchWithin k e x = false := pitchWithin_eq_false_iff.symm
      rw [hevent (hwaits hq), sweep_of_front hq hdue, matchFold_of_within hq hin, houtcome]
      refine ⟨fun ht => ?_, fun ht => ?_⟩
      · rw [htested.mp ht]
        rfl
      · rw [Bool.of_not_eq_false (mt htested.mpr ht)]
        rfl
    · intro e rest hq hover popped
      have hsweep : s.sweep i x = State.sweep i x (outcome false false true false (some e.panel) popped s) :=
        (sweep_of_overdue hq hover).trans (congrArg (State.sweep i x) (houtcome .missing _ popped))
      exact ⟨by rw [hevent (hwaits hq), hsweep], hsweep⟩
  · intro s snapshot queued run htimer
    have hrun : run = .next (State.served (s.setLink (Link.pushSnapshot snapshot))) := finish_of_eq (if_pos htimer)
    refine ⟨fun hnone hroom => ?_, fun hnone hfull => ?_, fun before y after hq hb ha => ?_⟩
    · rw [hrun, State.setLink, pushSnapshot_of_none snapshot hnone, if_pos hroom]
    · rw [hrun, State.setLink, pushSnapshot_of_none snapshot hnone, if_neg (Nat.not_lt.mpr hfull)]
    · rw [hrun, State.setLink, pushSnapshot_of_one snapshot hq hb ha]

end Sys2Proof.Machine
end

section
/-! PROOFS. The figures of a feed (O53). -/

namespace Sys2Proof.Machine

theorem clampNat_eq {lo hi : Nat} (h : lo ≤ hi) (v : Nat) : clampNat lo hi v = max lo (min hi v) := by
  unfold clampNat
  split
  · omega
  · split <;> omega

theorem clampInt_toInt (hi : Nat) (v : Int) : (clampInt hi v : Int) = max 0 (min (hi : Int) v) := by
  unfold clampInt
  split
  · omega
  · split <;> omega

/-- R100, as integers. -/
theorem taperDepth_toInt (dw dh : Nat) {i : Nat} (hi : i ≤ 5) : (taperDepth dw dh i : Int) =
    if dw ≤ dh then (dw : Int) + (((dh : Int) - dw) * i + 2) / 5 else (dw : Int) - (((dw : Int) - dh) * i + 2) / 5 := by
  unfold taperDepth
  split
  · next h =>
    push_cast [Nat.cast_sub h]
    ring_nf
  · next h =>
    have hle : dh ≤ dw := Nat.le_of_not_le h
    have hfit : ((dw - dh) * i + 2) / 5 ≤ dw := by
      have hmul : (dw - dh) * i ≤ (dw - dh) * 5 := Nat.mul_le_mul_left _ hi
      omega
    push_cast [Nat.cast_sub hfit, Nat.cast_sub hle]
    ring_nf

/-- R105: the feeds and the carry of a list of feeds; the total is exact but for the last carry. -/
theorem foldl_feeds (steps : List (Nat × Nat)) (total carry : Nat) (hc : carry < 100000) :
    steps.foldl (fun (total, carry) x => (total + feedOf x.1 x.2 carry, carryOf x.1 x.2 carry)) (total, carry)
      = (total + ((steps.map fun x => x.1 * (100000 + x.2)).sum + carry) / 100000,
          ((steps.map fun x => x.1 * (100000 + x.2)).sum + carry) % 100000) := by
  induction steps generalizing total carry with
  | nil => simp [Nat.div_eq_of_lt hc, Nat.mod_eq_of_lt hc]
  | cons x steps ih =>
    have hnext : carryOf x.1 x.2 carry < 100000 := Nat.mod_lt _ (by decide)
    rw [List.foldl_cons, ih _ _ hnext, List.map_cons, List.sum_cons]
    have hfeed : feedOf x.1 x.2 carry = (x.1 * (100000 + x.2) + carry) / 100000 := rfl
    have hcarry : carryOf x.1 x.2 carry = (x.1 * (100000 + x.2) + carry) % 100000 := rfl
    rw [hfeed, hcarry]
    generalize x.1 * (100000 + x.2) = a
    generalize (steps.map fun x => x.1 * (100000 + x.2)).sum = b
    refine Prod.ext ?_ ?_
    · show _ + _ + _ = _ + _
      omega
    · show _ % _ = _ % _
      omega

theorem driveSteps_eq (f : Nat) : driveSteps f =
    List.replicate (f % ((f + 5999) / 6000)) (f / ((f + 5999) / 6000) + 1)
      ++ List.replicate ((f + 5999) / 6000 - f % ((f + 5999) / 6000)) (f / ((f + 5999) / 6000)) := rfl

/-- R108: the number of drive steps fits the feed: no step is longer than 6000. -/
theorem driveStep_le {f : Nat} (hf : 0 < f) : f / ((f + 5999) / 6000) ≤ 6000 ∧
    (0 < f % ((f + 5999) / 6000) → f / ((f + 5999) / 6000) + 1 ≤ 6000) := by
  generalize hk : (f + 5999) / 6000 = k
  have hfk : f ≤ 6000 * k := by omega
  have hk0 : 0 < k := by omega
  have hdiv : k * (f / k) + f % k = f := Nat.div_add_mod f k
  refine ⟨?_, fun hmod => ?_⟩
  · exact Nat.div_le_of_le_mul (by rw [Nat.mul_comm]; exact hfk)
  · by_contra hbig
    have hle : k * 6000 ≤ k * (f / k) := Nat.mul_le_mul_left k (by omega)
    omega

theorem driveSteps_rules (f : Nat) : (driveSteps f).sum = f ∧ (driveSteps f).length = (f + 5999) / 6000
    ∧ (∀ x ∈ driveSteps f, x ≤ 6000 ∧ (x = f / ((f + 5999) / 6000) ∨ x = f / ((f + 5999) / 6000) + 1))
    ∧ (driveSteps f).Pairwise (· ≥ ·) := by
  rcases Nat.eq_zero_or_pos f with rfl | hf
  · simp [driveSteps_eq]
  have hk0 : 0 < (f + 5999) / 6000 := by omega
  obtain ⟨hle, hlong⟩ := driveStep_le hf
  rw [driveSteps_eq]
  generalize (f + 5999) / 6000 = k at hk0 hle hlong ⊢
  have hmod : f % k < k := Nat.mod_lt f hk0
  have hdiv : k * (f / k) + f % k = f := Nat.div_add_mod f k
  refine ⟨?_, ?_, fun x hx => ?_, ?_⟩
  · rw [List.sum_append, List.sum_replicate, List.sum_replicate, smul_eq_mul, smul_eq_mul, Nat.mul_succ,
      Nat.sub_mul]
    have hmul : f % k * (f / k) ≤ k * (f / k) := Nat.mul_le_mul_right _ hmod.le
    omega
  · rw [List.length_append, List.length_replicate, List.length_replicate]
    omega
  · rcases List.mem_append.mp hx with hx | hx
    · obtain ⟨hne, rfl⟩ := List.mem_replicate.mp hx
      exact ⟨hlong (Nat.pos_of_ne_zero hne), .inr rfl⟩
    · obtain ⟨-, rfl⟩ := List.mem_replicate.mp hx
      exact ⟨hle, .inl rfl⟩
  · refine List.pairwise_append.mpr ⟨List.pairwise_replicate.mpr (.inr (Nat.le_refl _)),
      List.pairwise_replicate.mpr (.inr (Nat.le_refl _)), fun x hx y hy => ?_⟩
    obtain ⟨-, rfl⟩ := List.mem_replicate.mp hx
    obtain ⟨-, rfl⟩ := List.mem_replicate.mp hy
    exact Nat.le_succ _

/-- R105, R106, R108, R111: what a step start commands, by its drive steps. -/
theorem startStep_eq {f : FeedSeg} {isGap : Bool} {c : FabricClass} {trim : Int} {x : StepFigures} {d : Nat}
    {more : List Nat}
    (h : driveSteps (feedOf x.length (stretch c (f.tension.getD c.tref) trim) (if isGap then 50000 else f.panelCarry))
      = d :: more) :
    f.startStep isGap c trim x = ({ f with
      inStep := true, depth := x.depth, left := more, commanded := 1, completed := 0
      panelCarry := if isGap then f.panelCarry
        else carryOf x.length (stretch c (f.tension.getD c.tref) trim) f.panelCarry
      gapCarry := if isGap then carryOf x.length (stretch c (f.tension.getD c.tref) trim) 50000 else f.gapCarry },
      .feed d) := by
  cases isGap <;> simp_all [FeedSeg.startStep, FeedSeg.tensionFor, Config.carryStart]

/-- Settles O53. -/
theorem feedFigures : Obligations.FeedFigures := by
  refine ⟨fun sp grade => clampNat_eq (by decide) _, fun dw dh i hi => taperDepth_toInt dw dh hi,
    fun taper trim => clampInt_toInt 4500 _, fun c tm trim => ?_, fun length e carry => ⟨rfl, rfl⟩, fun steps => ?_,
    driveSteps_rules, ?_⟩
  · rw [stretch, clampInt_toInt]
    push_cast
    rfl
  · exact (foldl_feeds steps 0 50000 (by decide)).trans (by rw [Nat.zero_add])
  · intro f isGap c trim x e carry d more h
    have hcarry : ∀ n, carryOf x.length (stretch c (f.tension.getD c.tref) trim) n
        = (x.length * (100000 + stretch c (f.tension.getD c.tref) trim) + n) % 100000 := fun _ => rfl
    rw [startStep_eq h, hcarry, hcarry]
    cases isGap with
    | false => simp only [e, carry, Bool.false_eq_true, if_false]
    | true => simp only [e, carry, if_true]

end Sys2Proof.Machine
end

section
/-! PROOFS. The spindles and their rolls: ROLL-LOAD (O33), ROLL-REMOVE (O34) and what a fire does to them (O41); the
holds they release. -/

namespace Sys2Proof.Machine

/-! ## Two spindles -/

/-- The other spindle. -/
def SpindleName.other : SpindleName → SpindleName
  | .u1 => .u2
  | .u2 => .u1

theorem other_ne (n : SpindleName) : n.other ≠ n := by cases n <;> decide

@[simp] theorem other_other (n : SpindleName) : n.other.other = n := by cases n <;> rfl

theorem eq_other_of_ne {m n : SpindleName} (h : m ≠ n) : m = n.other := by
  cases m <;> cases n <;> simp_all [SpindleName.other]

@[simp] theorem spindle_setSpindle_same (n : SpindleName) (x : Spindle) (r : RollChange) :
    (r.setSpindle n x).spindle n = x := by cases n <;> rfl

@[simp] theorem spindle_setSpindle_other (n : SpindleName) (x : Spindle) (r : RollChange) :
    (r.setSpindle n x).spindle n.other = r.spindle n.other := by cases n <;> rfl

@[simp] theorem setSpindle_standbyNeeded (n : SpindleName) (x : Spindle) (r : RollChange) :
    (r.setSpindle n x).standbyNeeded = r.standbyNeeded := by cases n <;> rfl

/-- The ACTIVE roll where the other spindle has none. -/
theorem activeRoll_of_other {n : SpindleName} {r : RollChange} (h : (r.spindle n.other).active? = none) :
    r.activeRoll = (r.spindle n).active? := by
  cases n with
  | u1 => rw [RollChange.activeRoll, show r.u2.active? = none from h, Option.or_none]; rfl
  | u2 => rw [RollChange.activeRoll, show r.u1.active? = none from h, Option.none_or]; rfl

theorem standbyRoll_of_other {n : SpindleName} {r : RollChange} (h : (r.spindle n.other).standby? = none) :
    r.standbyRoll = (r.spindle n).standby? := by
  cases n with
  | u1 => rw [RollChange.standbyRoll, show r.u2.standby? = none from h, Option.or_none]; rfl
  | u2 => rw [RollChange.standbyRoll, show r.u1.standby? = none from h, Option.none_or]; rfl

theorem active?_of_activeRoll_none {r : RollChange} (h : r.activeRoll = none) (n : SpindleName) :
    (r.spindle n).active? = none := by
  obtain ⟨h1, h2⟩ := Option.or_eq_none_iff.mp h
  cases n
  · exact h1
  · exact h2

theorem standbyRoll_isSome {n : SpindleName} {r : RollChange} {x : Roll} (h : r.spindle n = .standby x) :
    r.standbyRoll.isSome = true := by
  have hn : (r.spindle n).standby?.isSome = true := by rw [h]; rfl
  cases n with
  | u1 => simp [RollChange.standbyRoll, show r.u1.standby?.isSome = true from hn]
  | u2 => simp [RollChange.standbyRoll, show r.u2.standby?.isSome = true from hn]

/-! ## The standby warning and the trigger -/

theorem needsStandby_of_active {r : RollChange} {a : Roll} (h : r.activeRoll = some a) :
    r.needsStandby = (decide (a.remaining ≤ r.settings.trigger) && r.standbyRoll.isNone) := by
  rw [RollChange.needsStandby, h]

theorem triggered_of_active {r : RollChange} {a : Roll} (h : r.activeRoll = some a) :
    r.triggered = decide (a.remaining ≤ r.settings.trigger) := by
  rw [RollChange.triggered, h]

/-- R119: the evaluation of the standby warning. -/
theorem evalStandby_eq (s : State) : s.evalStandby =
    let t : State := { s with rcc := { s.rcc with standbyNeeded := s.rcc.needsStandby } }
    if s.rcc.needsStandby = true ∧ s.rcc.standbyNeeded = false then t.raise .standbyNeeded else t := by
  unfold State.evalStandby
  cases s.rcc.needsStandby <;> cases s.rcc.standbyNeeded <;> rfl

theorem evalStandby_of_fine {s : State} (h : s.rcc.needsStandby = false) :
    s.evalStandby = { s with rcc := { s.rcc with standbyNeeded := false } } := by
  rw [evalStandby_eq, h]
  rfl

theorem triggerTest_of_not {s : State} (h : ¬ (s.rcc.splice = .armed ∧ s.seq.line ≠ .estop ∧ s.rcc.triggered = true)) :
    s.triggerTest = s := by
  refine if_neg fun ht => h ?_
  simpa [and_assoc] using ht

theorem triggerTest_of_passes {s : State} (h : s.rcc.splice = .armed ∧ s.seq.line ≠ .estop ∧ s.rcc.triggered = true) :
    s.triggerTest = { s with rcc := { s.rcc with
      splice := .preparing, matchTimer := true, spindleCommand := some s.rcc.settings.mode } } :=
  if_pos (by simpa [and_assoc] using h)

/-! ## Holds released -/

theorem nonEmpty_iff (h : HoldSet) : h.nonEmpty = true ↔ h ≠ ⟨false, false, false, false⟩ := by
  obtain ⟨a, b, c, d⟩ := h
  revert a b c d
  decide

/-- R56: members leave the set, and the line stays. -/
theorem releaseHold_stays {f : HoldSet → HoldSet} {s : State}
    (h : (f s.seq.hold).nonEmpty = true ∨ s.seq.hold.nonEmpty = false ∨ (s.seq.line ≠ .holding ∧ s.seq.line ≠ .held)
      ∨ (s.seq.line = .holding ∧ s.seq.stop = .now)) :
    s.releaseHold f = s.setSeq fun q => { q with hold := f q.hold } := by
  by_cases hempty : (s.seq.hold.nonEmpty && !(f s.seq.hold).nonEmpty) = true
  · refine (if_pos hempty).trans ?_
    obtain ⟨hbefore, hafter⟩ := Bool.and_eq_true_iff.mp hempty
    rw [Bool.not_eq_true'] at hafter
    rw [hbefore, hafter] at h
    rcases h with h | h | ⟨h1, h2⟩ | ⟨h1, h2⟩
    · exact absurd h (by decide)
    · exact absurd h (by decide)
    · dsimp only [setSeq_seq]
      split
      · next hl => exact absurd hl h1
      · next hl => exact absurd hl h2
      all_goals rfl
    · dsimp only [setSeq_seq]
      rw [h1]
      exact if_pos h2
  · exact if_neg hempty

/-- R56: the last member leaves the set of a HELD line. -/
theorem releaseHold_held {f : HoldSet → HoldSet} {s : State} (hb : s.seq.hold.nonEmpty = true)
    (ha : (f s.seq.hold).nonEmpty = false) (hl : s.seq.line = .held) :
    s.releaseHold f = (s.setSeq fun q => { q with hold := f q.hold }).leaveHeld := by
  refine (if_pos (by rw [hb]; simpa using ha)).trans ?_
  dsimp only [setSeq_seq]
  rw [hl]

/-- R56: a line HELD with a stop NOW pending enters IDLE. -/
theorem leaveHeld_of_stopNow {s : State} (h : s.seq.stop = .now) : s.leaveHeld = s.enterIdle := by
  rw [State.leaveHeld, h]

/-! ## ROLL-LOAD -/

theorem spindleOf?_eq {spindle : Nat} {n : SpindleName} (h : spindle = 0 ∧ n = .u1 ∨ spindle = 1 ∧ n = .u2) :
    spindleOf? spindle = some n := by
  rcases h with ⟨rfl, rfl⟩ | ⟨rfl, rfl⟩ <;> rfl

theorem spindleOf?_of_ge {n : Nat} (h : 2 ≤ n) : spindleOf? n = none := by
  match n, h with
  | n + 2, _ => rfl

theorem lengthOk_iff (trigger length : Nat) : lengthOk trigger length = true ↔
    1000000 ≤ length ∧ length ≤ 4000000000 ∧ trigger + 1000000 ≤ length := by
  simp [lengthOk, inRange_iff, and_assoc]

/-- R115: what the load of a roll makes of the roll change controller with no ACTIVE roll. -/
theorem fillSpindle_none {n : SpindleName} {roll : Roll} {s : State} (h : s.rcc.activeRoll = none)
    (hlong : s.rcc.settings.trigger < roll.remaining) :
    (s.fillSpindle n roll).evalStandby.triggerTest =
      { s with rcc := { s.rcc.setSpindle n (.active roll) with standbyNeeded := false } } := by
  have hfill : s.fillSpindle n roll = { s with rcc := s.rcc.setSpindle n (.active roll) } := by
    rw [State.fillSpindle, h]
    rfl
  have hactive : (s.rcc.setSpindle n (.active roll)).activeRoll = some roll := by
    rw [activeRoll_of_other (n := n) (by rw [spindle_setSpindle_other]; exact active?_of_activeRoll_none h _),
      spindle_setSpindle_same]
    rfl
  have hneeds : (s.rcc.setSpindle n (.active roll)).needsStandby = false := by
    simp [needsStandby_of_active hactive, hlong]
  rw [hfill, evalStandby_of_fine hneeds]
  refine triggerTest_of_not fun ⟨_, _, ht⟩ => ?_
  have htriggered : (s.rcc.setSpindle n (.active roll)).triggered = true := ht
  rw [triggered_of_active hactive] at htriggered
  exact absurd (of_decide_eq_true htriggered) (by simpa using hlong)

/-- R115, R121: what the load of a roll beside the ACTIVE one makes. -/
theorem fillSpindle_some {n : SpindleName} {roll a : Roll} {s : State} (h : s.rcc.activeRoll = some a)
    (hempty : s.rcc.spindle n = .empty) :
    let r := s.rcc
    let loaded : RollChange := { r.setSpindle n (.standby roll) with
      splice := if r.splice = .idle then .armed else r.splice, standbyNeeded := false }
    (s.fillSpindle n roll).evalStandby.triggerTest = { s with
      rcc := if (r.splice = .idle ∨ r.splice = .armed) ∧ s.seq.line ≠ .estop ∧ a.remaining ≤ r.settings.trigger then
          { loaded with splice := .preparing, matchTimer := true, spindleCommand := some r.settings.mode }
        else loaded } := by
  intro r loaded
  have hfill : s.fillSpindle n roll = { s with rcc := { r.setSpindle n (.standby roll) with
      splice := if r.splice = .idle then .armed else r.splice } } := by
    rw [State.fillSpindle, h]
    rfl
  have hother : (r.spindle n.other).active? = some a := by
    rw [← activeRoll_of_other (n := n.other) (by rw [other_other, hempty]; rfl)]
    exact h
  have hactive : loaded.activeRoll = some a := by
    refine Eq.trans (b := (r.setSpindle n (.standby roll)).activeRoll) rfl ?_
    rw [activeRoll_of_other (n := n.other) (by rw [other_other, spindle_setSpindle_same]; rfl),
      spindle_setSpindle_other, hother]
  have hstandby : loaded.standbyRoll.isSome = true := by
    refine standbyRoll_isSome (n := n) (x := roll) (Eq.trans (b := (r.setSpindle n (.standby roll)).spindle n) ?_ ?_)
    · cases n <;> rfl
    · exact spindle_setSpindle_same ..
  have hneeds : State.evalStandby { s with rcc := { r.setSpindle n (.standby roll) with
      splice := if r.splice = .idle then .armed else r.splice } } = { s with rcc := loaded } := by
    refine evalStandby_of_fine (Eq.trans (b := loaded.needsStandby) rfl ?_)
    rw [needsStandby_of_active hactive, Option.isNone_eq_false_iff.mpr hstandby, Bool.and_false]
  have htriggered : loaded.triggered = true ↔ a.remaining ≤ r.settings.trigger := by
    rw [triggered_of_active hactive, decide_eq_true_eq, setSpindle_settings]
  have hsplice : loaded.splice = .armed ↔ r.splice = .idle ∨ r.splice = .armed := by
    by_cases hi : r.splice = .idle <;> simp [loaded, hi]
  rw [hfill, hneeds]
  split
  · next hyes =>
    refine (triggerTest_of_passes ?_).trans ?_
    · exact ⟨hsplice.mpr hyes.1, hyes.2.1, htriggered.mpr hyes.2.2⟩
    · have hsettings : loaded.settings = r.settings := setSpindle_settings ..
      dsimp only
      rw [hsettings]
  · next hno =>
    exact triggerTest_of_not fun ⟨h1, h2, h3⟩ => hno ⟨hsplice.mp h1, h2, htriggered.mp h3⟩

/-- R115: an accepted load. -/
theorem reqRollLoad_accepted {spindle rollId cls length : Nat} {n : SpindleName} {s : State} (hcls : cls < 16)
    (hdef : s.class? cls ≠ none) (hn : spindleOf? spindle = some n)
    (hlen : lengthOk s.rcc.settings.trigger length = true) (hempty : s.rcc.spindle n = .empty) :
    s.reqRollLoad spindle rollId cls length =
      answered .ok (loadItems cls) (s.loadRoll n ⟨rollId, cls, length, length⟩) := by
  simp [State.reqRollLoad, hcls, hdef, hn, hlen, hempty]

theorem loadRoll_none {n : SpindleName} {roll : Roll} {s : State} (h : s.rcc.activeRoll = none)
    (hlong : s.rcc.settings.trigger < roll.remaining) : s.loadRoll n roll =
      State.reevaluateSince s (State.releaseHold (fun h => { h with rollOut := false })
        { s with rcc := { s.rcc.setSpindle n (.active roll) with standbyNeeded := false } }) := by
  rw [State.loadRoll, fillSpindle_none h hlong, h]
  rfl

/-- Settles O33. -/
theorem rollLoadFillsSpindle : Obligations.RollLoadFillsSpindle := by
  intro tag spindle rollId cls length n s ha named r roll inRange allowed matching run answer made
  have hreq : ∀ {u : State} {code : ResultCode} {items : List Byte},
      State.reqRollLoad spindle rollId cls length s.processing = (u, ⟨code, items⟩) →
      run = .next (State.replied 0x18#8 tag code items u) :=
    fun hr => exec_request_accepted (r := .rollLoad spindle rollId cls length) rfl ha hr
  have hanswer : ∀ t, .next (State.replied 0x18#8 tag .ok (loadItems cls t) t) = answer t := by
    intro t
    have hitems : loadItems cls t = spindleItems t.rcc.u1 ++ spindleItems t.rcc.u2 ++ matching t := by
      simp only [loadItems, spindlesItems, State.matchesHead, matching]
      cases t.orders with
      | nil => rfl
      | cons o rest => by_cases ho : o.cls = cls <;> simp [ho, optNum, u8, leBytes]
    rw [hitems]
  have hload : allowed → r.spindle n = .empty → run = answer (s.processing.loadRoll n roll) := by
    rintro ⟨⟨hcls, hdef, hsp, hlen⟩, hn⟩ hempty
    exact (hreq (reqRollLoad_accepted hcls hdef (spindleOf?_eq hn) ((lengthOk_iff _ _).mpr hlen) hempty)).trans
      (hanswer _)
  have hlong : allowed → s.processing.rcc.settings.trigger < roll.remaining := fun h => by
    have hlen : r.settings.trigger + 1000000 ≤ length := h.1.2.2.2.2.2
    show r.settings.trigger < length
    omega
  have hmade : allowed → r.activeRoll = none → s.processing.loadRoll n roll = State.reevaluateSince s.processing
      (State.releaseHold (fun h => { h with rollOut := false }) { s.processing with
        rcc := { r.setSpindle n (.active roll) with standbyNeeded := false } }) := fun h hnone =>
    loadRoll_none hnone (hlong h)
  refine ⟨fun hbad => hreq ?_, fun hok hfull => hreq ?_, fun hok hempty hnone hstays => ?_,
    fun hok hempty hnone hhold hline => ?_, ?_⟩
  · by_cases hcls : cls < 16 ∧ s.class? cls ≠ none
    · by_cases hsp : spindle ≤ 1
      · obtain ⟨k, hk⟩ : ∃ k, spindle = 0 ∧ k = SpindleName.u1 ∨ spindle = 1 ∧ k = SpindleName.u2 := by
          rcases Nat.le_one_iff_eq_zero_or_eq_one.mp hsp with h | h
          · exact ⟨.u1, .inl ⟨h, rfl⟩⟩
          · exact ⟨.u2, .inr ⟨h, rfl⟩⟩
        have hlen : ¬ lengthOk s.rcc.settings.trigger length = true := fun hlen =>
          hbad ⟨hcls.1, hcls.2, hsp, (lengthOk_iff _ _).mp hlen⟩
        simp [State.reqRollLoad, hcls.1, hcls.2, spindleOf?_eq hk, hlen, refused, Answer.bare]
      · simp [State.reqRollLoad, hcls.1, hcls.2, spindleOf?_of_ge (Nat.not_le.mp hsp), refused, Answer.bare]
    · have href : (!decide (cls < 16) || (s.class? cls).isNone) = true := by
        by_cases h16 : cls < 16
        · have hundef : s.class? cls = none := by
            by_contra hdef
            exact hcls ⟨h16, hdef⟩
          simp [hundef]
        · simp [h16]
      simp [State.reqRollLoad, href, refused, Answer.bare]
  · obtain ⟨⟨hcls, hdef, hsp, hlen⟩, hn⟩ := hok
    have hfull' : ¬ s.rcc.spindle n = .empty := hfull
    have hlen' : lengthOk s.rcc.settings.trigger length = true := (lengthOk_iff _ _).mpr hlen
    simp [State.reqRollLoad, hcls, hdef, spindleOf?_eq hn, hlen', hfull', refused, Answer.bare]
  · rw [hload hok hempty, hmade hok hnone]
    refine congrArg answer ?_
    refine Eq.trans (congrArg (State.reevaluateSince s.processing) (releaseHold_stays ?_)) (reevaluateSince_eq rfl id)
    by_cases hbefore : s.seq.hold.nonEmpty = true
    · rcases hstays with h | h | h | h | h
      · refine .inl (Eq.trans (congrArg HoldSet.nonEmpty ?_) hbefore)
        show { s.seq.hold with rollOut := false } = s.seq.hold
        rw [← h]
      · exact .inr (.inr (.inl h))
      all_goals exact .inl (by simp [HoldSet.nonEmpty, h])
    · exact .inr (.inl (Bool.eq_false_iff.mpr hbefore))
  · have hleft : s.processing.loadRoll n roll = made.leaveHeld := by
      rw [hmade hok hnone]
      refine Eq.trans (congrArg (State.reevaluateSince s.processing) (releaseHold_held ?_ ?_ ?_))
        (reevaluateSince_of_not_waiting ?_)
      · show s.seq.hold.nonEmpty = true
        rw [hhold]; rfl
      · show HoldSet.nonEmpty { s.seq.hold with rollOut := false } = false
        rw [hhold]; rfl
      · exact hline
      · show s.seq.line ≠ .waiting
        rw [hline]; decide
    rw [hload hok hempty, hleft]
    refine ⟨rfl, fun hstop hpress => ⟨made.enter .idle, ?_, enter_line .idle made, ?_, ?_⟩⟩
    · have hidle : made.leaveHeld = made.enter .idle :=
        (leaveHeld_of_stopNow (s := made) hstop).trans (enterIdle_of_none (s := made) (by cases n <;> exact hpress))
      exact congrArg answer hidle
    · rw [enter_hold]
      show { s.seq.hold with rollOut := false } = _
      rw [hhold]
    · rw [enter_rcc]
      cases n <;> rfl
  · intro a hok hempty hactive loaded
    rw [hload hok hempty]
    refine congrArg answer (Eq.trans (congrArg (State.reevaluateSince s.processing) ?_) (reevaluateSince_eq rfl id))
    have hsome : s.processing.rcc.activeRoll.isNone = false := by
      rw [processing_rcc, show s.rcc.activeRoll = some a from hactive]; rfl
    rw [if_neg (by rw [hsome]; decide)]
    exact fillSpindle_some hactive hempty

/-! ## ROLL-REMOVE -/

theorem underWay_iff (x : SpliceState) : x.underWay = true ↔
    x = .preparing ∨ x = .slotted ∨ x = .pressing ∨ ∃ c, x = .missed c := by
  cases x <;> simp [SpliceState.underWay]

theorem mayRemoveActive_iff (s : State) : s.mayRemoveActive = true ↔
    s.seq.line = .idle ∨ s.seq.line = .estop ∨ s.seq.line = .held ∧ s.seq.hold.rollOut = true := by
  unfold State.mayRemoveActive
  split <;> simp [*]

/-- R116: an accepted removal. -/
theorem removeRoll_eq (n : SpindleName) (s : State) : s.removeRoll n =
    State.thenReevaluate s (State.evalStandby { s with rcc := { s.rcc.setSpindle n .empty with
      splice := if (s.rcc.spindle n).standby?.isSome && decide (s.rcc.splice = .armed) then .idle
        else s.rcc.splice } }) :=
  reevaluateSince_eq rfl fun hw => by rw [(State.rccAlone_evalStandby _).seq]; exact hw

/-- Settles O34. -/
theorem rollRemoveEmptiesSpindle : Obligations.RollRemoveEmptiesSpindle := by
  intro tag spindle n s ha named r busy may emptied t t'
  have hreq : ∀ {u : State} {code : ResultCode} {items : List Byte},
      State.reqRollRemove spindle s.processing = (u, ⟨code, items⟩) →
      exec (.rollRemove tag spindle) s = .next (State.replied 0x19#8 tag code items u) :=
    fun hr => exec_request_accepted (r := .rollRemove spindle) rfl ha hr
  have hbusy : busy ↔ r.splice.underWay = true := (underWay_iff r.splice).symm
  have hmay : may ↔ s.processing.mayRemove (r.spindle n) = true := by
    have hidle : (!r.splice.underWay) = true ↔ ¬ busy := by rw [hbusy, Bool.not_eq_true', Bool.not_eq_true]
    simp only [may]
    cases r.spindle n with
    | empty | expiring => simp [State.mayRemove]
    | spent => simp [State.mayRemove]
    | standby x => exact hidle.symm
    | active x =>
      refine Iff.trans (and_congr hidle.symm (mayRemoveActive_iff s).symm) ?_
      exact Bool.and_eq_true_iff.symm
  have hsplice : (if (r.spindle n).standby?.isSome && decide (r.splice = .armed) then SpliceState.idle else r.splice)
      = emptied.splice := by
    simp only [emptied]
    cases r.spindle n <;> simp [Spindle.standby?]
  have hremoved : s.processing.removeRoll n = t' := by
    refine (removeRoll_eq n _).trans (congrArg (State.thenReevaluate s) ?_)
    have hneeded : emptied.standbyNeeded = r.standbyNeeded := by cases n <;> rfl
    refine Eq.trans (b := State.evalStandby { s.processing with rcc := emptied }) ?_ ?_
    · exact congrArg (fun x => State.evalStandby { s.processing with
        rcc := { r.setSpindle n .empty with splice := x } }) hsplice
    · rw [evalStandby_eq, ← hneeded]
  refine ⟨fun hbad => hreq ?_, fun hn hno => hreq ?_, fun hn hyes => hreq ?_⟩
  · rw [State.reqRollRemove, spindleOf?_of_ge hbad]
    rfl
  · rw [State.reqRollRemove, spindleOf?_eq hn]
    exact if_neg (mt hmay.mpr hno)
  · rw [State.reqRollRemove, spindleOf?_eq hn]
    refine (if_pos (hmay.mp hyes)).trans ?_
    exact congrArg (answered .ok spindlesItems) hremoved

/-! ## A fire -/

/-- R125: the rolls of the two spindles after a fire. -/
theorem mapSpindles_fired {n : SpindleName} {r : RollChange} {a b : Roll} (hn : r.spindle n = .active a)
    (hm : r.spindle n.other = .standby b) :
    r.mapSpindles Spindle.fired = (r.setSpindle n (.expiring a)).setSpindle n.other (.active b) := by
  cases n with
  | u1 =>
    have h1 : r.u1 = .active a := hn
    have h2 : r.u2 = .standby b := hm
    simp [RollChange.mapSpindles, RollChange.setSpindle, SpindleName.other, h1, h2, Spindle.fired]
  | u2 =>
    have h1 : r.u1 = .standby b := hm
    have h2 : r.u2 = .active a := hn
    simp [RollChange.mapSpindles, RollChange.setSpindle, SpindleName.other, h1, h2, Spindle.fired]

theorem activeRoll_eq {n : SpindleName} {r : RollChange} {a b : Roll} (hn : r.spindle n = .active a)
    (hm : r.spindle n.other = .standby b) : r.activeRoll = some a := by
  rw [activeRoll_of_other (n := n) (by rw [hm]; rfl), hn]
  rfl

theorem standbyRoll_eq {n : SpindleName} {r : RollChange} {a b : Roll} (hn : r.spindle n = .active a)
    (hm : r.spindle n.other = .standby b) : r.standbyRoll = some b := by
  rw [standbyRoll_of_other (n := n.other) (by rw [other_other, hn]; rfl), hm]
  rfl

/-- R119: once the rolls have changed, no roll is STANDBY. -/
theorem needsStandby_fired {n : SpindleName} {r : RollChange} {b : Roll} {c : Spindle}
    (hn : r.spindle n = c) (hc : c.active? = none ∧ c.standby? = none) (hm : r.spindle n.other = .active b) :
    r.needsStandby = decide (b.remaining ≤ r.settings.trigger) := by
  have hactive : r.activeRoll = some b := by
    rw [activeRoll_of_other (n := n.other) (by rw [other_other, hn, hc.1]), hm]
    rfl
  have hstandby : r.standbyRoll = none := by
    rw [standbyRoll_of_other (n := n) (by rw [hm]; rfl), hn, hc.2]
  rw [needsStandby_of_active hactive, hstandby]
  exact Bool.and_true _

/-- R125, R126: the roll change controller after a fire at web count `web`, the ACTIVE roll `a` on spindle `n` and the
STANDBY roll `b` on the other. -/
def RollChange.firedTo (r : RollChange) (n : SpindleName) (a b : Roll) (web : Nat) (g : Geometry) : RollChange :=
  { (r.setSpindle n (.expiring a)).setSpindle n.other (.active b) with
    tailTimer := true, firePoint := none, slotRequest := false
    pressDue := none, spindleCommand := none, splice := .pressing
    pressCommand := if r.settings.mode = .flying then some .pressAndKnife else some .press
    unconfirmed := some ⟨web + g.seamPath, a.id, b.id, false⟩
    detectPoint := if r.settings.mode = .flying then some (web + g.detectPath) else none
    confirmTimer := if r.settings.mode = .flying then none else some r.settings.confirm
    standbyNeeded := decide (b.remaining ≤ r.settings.trigger) }

/-- R125, R126, R119: what a fire does. -/
theorem fire_eq {n : SpindleName} {s : State} {a b : Roll} (hn : s.rcc.spindle n = .active a)
    (hm : s.rcc.spindle n.other = .standby b) : s.fire =
      let t : State := { s with rcc := s.rcc.firedTo n a b s.web s.geometry }
      if b.remaining ≤ s.rcc.settings.trigger ∧ s.rcc.standbyNeeded = false then t.raise .standbyNeeded else t := by
  have hids : s.rcc.fireIds = some (a.id, b.id) := by
    rw [RollChange.fireIds, activeRoll_eq hn hm, standbyRoll_eq hn hm]
  have hfire : s.fire = State.evalStandby { s with
      rcc := { s.rcc.firedTo n a b s.web s.geometry with standbyNeeded := s.rcc.standbyNeeded } } := by
    rw [State.fire, hids]
    refine congrArg (fun r => State.evalStandby { s with rcc := r }) ?_
    dsimp only
    rw [mapSpindles_fired hn hm]
    unfold RollChange.firedTo
    cases hmode : s.rcc.settings.mode with
    | flying => simp
    | stopped => simp
  have hneeds : RollChange.needsStandby { s.rcc.firedTo n a b s.web s.geometry with
      standbyNeeded := s.rcc.standbyNeeded } = decide (b.remaining ≤ s.rcc.settings.trigger) := by
    have hsettings : (s.rcc.firedTo n a b s.web s.geometry).settings = s.rcc.settings := by cases n <;> rfl
    refine (needsStandby_fired (n := n) (b := b) (c := .expiring a) ?_ ⟨rfl, rfl⟩ ?_).trans ?_
    · cases n <;> rfl
    · cases n <;> rfl
    · dsimp only
      rw [hsettings]
  rw [hfire, evalStandby_eq]
  simp only [hneeds, decide_eq_true_eq]
  rfl

/-- Settles O41. -/
theorem rollsChange : Obligations.RollsChange := by
  refine ⟨?_, ?_⟩
  · intro a b n m s r hne hn hm t
    obtain rfl := eq_other_of_ne hne
    exact fire_eq hn hm
  · intro s spend spent
    have hspend : ∀ x, Spindle.spend x = spend x := fun x => by cases x <;> rfl
    have hspent : s.spendTail.finish = spent := by
      refine finish_of_eq ?_
      simp only [State.spendTail, State.setRcc, RollChange.mapSpindles, hspend]
    refine ⟨fun x hx => ?_, fun h => ?_, fun h => finish_of_eq (if_neg ?_)⟩
    · refine Eq.trans (congrArg State.finish (if_pos ?_)) hspent
      rcases hx with hx | hx <;> simp [hx, Spindle.expiring?]
    · exact Eq.trans (congrArg State.finish (if_pos h)) hspent
    · have hno : ∀ x : Spindle, (∀ r, x ≠ .expiring r) → x.expiring? = false := fun x hx => by
        cases x with
        | expiring r => exact absurd rfl (hx r)
        | empty | standby | active | spent => rfl
      simp [hno _ fun r => (h r).1, hno _ fun r => (h r).2]

end Sys2Proof.Machine
end

section
/-! PROOFS. The splice: SPLICE-SET (O35), its timeouts (O37), its slot (O39), its fire tests (O40) and its confirm
(O42); with what a hold does to the line. -/

namespace Sys2Proof.Machine

/-! ## Holds -/

theorem stopAtBoundary_of_closed {s : State} (h : s.seq.step.isSome = true ∨ s.boundaryClosed = true) :
    s.stopAtBoundary = s := by
  refine if_neg fun hstop => ?_
  have hopen := (Bool.and_eq_true_iff.mp hstop).2
  rcases h with h | h
  · simp [State.atOpenBoundary, Option.isNone_eq_false_iff.mpr h] at hopen
  · simp [State.atOpenBoundary, h] at hopen

/-- R69 test 2: HOLDING at an open boundary. -/
theorem stopAtBoundary_of_open {s : State} (hl : s.seq.line = .holding) (hstep : s.seq.step = none)
    (hopen : s.boundaryClosed = false) :
    s.stopAtBoundary = if s.seq.stop = .now then s.enterIdle else s.enterHeld :=
  if_pos (by simp [State.atOpenBoundary, hl, hstep, hopen])

theorem stopAtBoundary_of_not_holding {s : State} (hl : s.seq.line ≠ .holding) : s.stopAtBoundary = s :=
  if_neg (by simp [hl])

/-- R56: a line that makes steps enters HOLDING. -/
theorem enterHolding_eq {s : State} {was : Resume}
    (h : s.seq.line = .running ∧ was = .running ∨ s.seq.line = .draining ∧ was = .draining) :
    s.enterHolding = State.stopAtBoundary (State.raise .lineState
      { s with seq := { s.seq with holdingFrom := was, line := .holding } }) := by
  rcases h with ⟨hl, rfl⟩ | ⟨hl, rfl⟩
  · rw [State.enterHolding, hl]
    refine congrArg State.stopAtBoundary (enter_moving_eq rfl ?_)
    rw [setSeq_seq, hl]
    decide
  · rw [State.enterHolding, hl]
    refine congrArg State.stopAtBoundary (enter_moving_eq rfl ?_)
    rw [setSeq_seq, hl]
    decide

/-- R56: a hold requester that a standing line takes note of. -/
theorem addHold_stands {f : HoldSet → HoldSet} {s : State}
    (h : s.seq.line = .idle ∨ s.seq.line = .holding ∨ s.seq.line = .held ∨ s.seq.line = .estop) :
    s.addHold f = s.setSeq fun q => { q with hold := f q.hold } := by
  unfold State.addHold
  dsimp only [setSeq_seq]
  rcases h with h | h | h | h <;> rw [h]

theorem addHold_moving {f : HoldSet → HoldSet} {s : State} (h : s.seq.line = .running ∨ s.seq.line = .draining) :
    s.addHold f = (s.setSeq fun q => { q with hold := f q.hold }).enterHolding := by
  unfold State.addHold
  dsimp only [setSeq_seq]
  rcases h with h | h <;> rw [h]

theorem addHold_waiting {f : HoldSet → HoldSet} {s : State} (h : s.seq.line = .waiting) :
    s.addHold f = (s.setSeq fun q => { q with hold := f q.hold }).enterHeld := by
  unfold State.addHold
  dsimp only [setSeq_seq]
  rw [h]

/-! ## SPLICE-SET -/

theorem spliceModeOf?_of_le {n : Nat} (h : n ≤ 1) : spliceModeOf? n = some (if n = 0 then .flying else .stopped) := by
  match n, h with
  | 0, _ | 1, _ => rfl

theorem spliceModeOf?_of_gt {n : Nat} (h : 1 < n) : spliceModeOf? n = none := by
  match n, h with
  | n + 2, _ => rfl

theorem debounceOf?_of_le {n : Nat} (h : n ≤ 3) : debounceOf? n = some ([2, 5, 10, 20].getD n 0) := by
  match n, h with
  | 0, _ | 1, _ | 2, _ | 3, _ => rfl

theorem debounceOf?_of_gt {n : Nat} (h : 3 < n) : debounceOf? n = none := by
  match n, h with
  | n + 4, _ => rfl

theorem polarityOf?_of_le {n : Nat} (h : n ≤ 1) : polarityOf? n = some (decide (n = 0)) := by
  match n, h with
  | 0, _ | 1, _ => rfl

theorem polarityOf?_of_gt {n : Nat} (h : 1 < n) : polarityOf? n = none := by
  match n, h with
  | n + 2, _ => rfl

theorem confirmOf?_of_le {n : Nat} (h : n ≤ 7) :
    confirmOf? n = some ([250, 500, 1000, 2000, 3000, 5000, 8000, 12000].getD n 0) := by
  match n, h with
  | 0, _ | 1, _ | 2, _ | 3, _ | 4, _ | 5, _ | 6, _ | 7, _ => rfl

theorem confirmOf?_of_gt {n : Nat} (h : 7 < n) : confirmOf? n = none := by
  match n, h with
  | n + 8, _ => rfl

/-- R120, Table 7.3.1: every setting of a body lies in its values. -/
structure SpliceFields (b : SpliceBody) : Prop where
  mode : b.mode ≤ 1
  trigger : 200000 ≤ b.trigger ∧ b.trigger ≤ 2000000
  clearance : 2000 ≤ b.clearance ∧ b.clearance ≤ 100000
  tailReserve : 20000 ≤ b.tailReserve ∧ b.tailReserve ≤ 500000
  ceiling : 30 ≤ b.ceiling ∧ b.ceiling ≤ 100
  debounce : b.debounce ≤ 3
  polarity : b.polarity ≤ 1
  confirm : b.confirm ≤ 7
  sbNeed : b.sbNeed ≤ 1000
  reserveFits : b.tailReserve < b.trigger

/-- R120: the settings of a body in the values of Table 7.3.1. -/
def spliceSettingsMade (b : SpliceBody) : SpliceSettings where
  mode := if b.mode = 0 then .flying else .stopped
  trigger := b.trigger
  clearance := b.clearance
  tailReserve := b.tailReserve
  ceiling := b.ceiling
  debounce := [2, 5, 10, 20].getD b.debounce 0
  rising := decide (b.polarity = 0)
  confirm := [250, 500, 1000, 2000, 3000, 5000, 8000, 12000].getD b.confirm 0
  sbNeed := b.sbNeed

theorem spliceSettingsOf?_of_fields {b : SpliceBody} (h : SpliceFields b) :
    spliceSettingsOf? b = some (spliceSettingsMade b) := by
  simp [spliceSettingsOf?, spliceModeOf?_of_le h.mode, debounceOf?_of_le h.debounce, polarityOf?_of_le h.polarity,
    confirmOf?_of_le h.confirm, inRange_iff, h.trigger, h.clearance, h.tailReserve, h.ceiling, h.sbNeed, h.reserveFits,
    spliceSettingsMade]

theorem spliceSettingsOf?_of_not {b : SpliceBody} (h : ¬ SpliceFields b) : spliceSettingsOf? b = none := by
  by_cases hmode : b.mode ≤ 1
  · by_cases hdebounce : b.debounce ≤ 3
    · by_cases hpolarity : b.polarity ≤ 1
      · by_cases hconfirm : b.confirm ≤ 7
        · simp only [spliceSettingsOf?, spliceModeOf?_of_le hmode, debounceOf?_of_le hdebounce,
            polarityOf?_of_le hpolarity, confirmOf?_of_le hconfirm]
          refine if_neg fun hok => h ?_
          simp only [Bool.and_eq_true, inRange_iff, decide_eq_true_eq] at hok
          obtain ⟨⟨⟨⟨⟨htrigger, hclearance⟩, htail⟩, hceiling⟩, hneed⟩, hfits⟩ := hok
          exact ⟨hmode, htrigger, hclearance, htail, hceiling, hdebounce, hpolarity, hconfirm, hneed, hfits⟩
        · simp [spliceSettingsOf?, confirmOf?_of_gt (Nat.not_le.mp hconfirm)]
      · simp [spliceSettingsOf?, polarityOf?_of_gt (Nat.not_le.mp hpolarity)]
    · simp [spliceSettingsOf?, debounceOf?_of_gt (Nat.not_le.mp hdebounce)]
  · simp [spliceSettingsOf?, spliceModeOf?_of_gt (Nat.not_le.mp hmode)]

/-- R121: the trigger test as an equation. -/
theorem triggerTest_eq (s : State) : s.triggerTest = { s with
    rcc := if s.rcc.splice = .armed ∧ s.seq.line ≠ .estop ∧ s.rcc.triggered = true then
        { s.rcc with splice := .preparing, matchTimer := true, spindleCommand := some s.rcc.settings.mode }
      else s.rcc } := by
  split
  · next h => exact triggerTest_of_passes h
  · next h => exact triggerTest_of_not h

/-- Settles O35. -/
theorem spliceSetReplacesSettings : Obligations.SpliceSetReplacesSettings := by
  intro tag b s ha r allowed x set set' after t run
  have hreq : ∀ {u : State} {code : ResultCode} {items : List Byte},
      State.reqSpliceSet (some b) s.processing = (u, ⟨code, items⟩) →
      run = .next (State.replied 0x1A#8 tag code items u) :=
    fun hr => exec_request_accepted (r := .spliceSet (some b)) rfl ha hr
  have hallowed : allowed ↔ SpliceFields b :=
    ⟨fun ⟨h1, h2, h3, h4, h5, h6, h7, h8, h9, h10⟩ => ⟨h1, h2, h3, h4, h5, h6, h7, h8, h9, h10⟩,
      fun h => ⟨h.mode, h.trigger, h.clearance, h.tailReserve, h.ceiling, h.debounce, h.polarity, h.confirm, h.sbNeed,
        h.reserveFits⟩⟩
  refine ⟨fun hbusy => hreq (if_pos hbusy), fun hfree hbad => hreq ?_, fun hfree hok => hreq ?_⟩
  · refine (if_neg (by rw [processing_rcc, hfree]; decide)).trans ?_
    rw [spliceSettingsOf?_of_not (mt hallowed.mpr hbad)]
    rfl
  · have hset : (State.evalStandby { s.processing with rcc := set }).triggerTest =
        if set'.standbyNeeded = true ∧ r.standbyNeeded = false then t.raise .standbyNeeded else t := by
      rw [evalStandby_eq, triggerTest_eq]
      dsimp only
      split <;> rfl
    have hsettings : (if set'.standbyNeeded = true ∧ r.standbyNeeded = false then t.raise .standbyNeeded else t).rcc.settings
        = x := by
      have ht : t.rcc.settings = x := by
        simp only [t, after]
        split <;> rfl
      split <;> exact ht
    refine (if_neg (by rw [processing_rcc, hfree]; decide)).trans ?_
    rw [spliceSettingsOf?_of_fields (hallowed.mp hok)]
    refine (congrArg (answered .ok spliceReply) hset).trans ?_
    rw [answered, spliceReply, hsettings]

/-! ## Timeouts -/

/-- R130: SPLICE joins the hold requester set of a line that stands. -/
theorem enterMissed_stands (c : MissCause) {s : State}
    (h : s.seq.line = .idle ∨ s.seq.line = .holding ∨ s.seq.line = .held ∨ s.seq.line = .estop) :
    s.enterMissed c = (s.missSplice c).setSeq fun q => { q with hold := { q.hold with splice := true } } :=
  addHold_stands h

/-- Settles O37. -/
theorem spliceTimeoutsMiss : Obligations.SpliceTimeoutsMiss := by
  intro c cause s r hc held t
  have hrun : exec c s = (s.enterMissed cause).finish := by
    rcases hc with ⟨rfl, rfl, htimer⟩ | ⟨rfl, rfl, htimer, hsplice⟩
    · exact congrArg State.finish (if_pos htimer)
    · exact congrArg State.finish (if_pos (Bool.and_eq_true_iff.mpr ⟨htimer, decide_eq_true hsplice⟩))
  refine ⟨fun hl => hrun.trans (finish_of_eq (enterMissed_stands cause hl)), fun hl hstep => hrun.trans (finish_of_eq ?_)⟩
  refine (addHold_moving (s := s.missSplice cause) (.inl hl)).trans ?_
  refine (enterHolding_eq (was := .running)
    (s := (s.missSplice cause).setSeq fun q => { q with hold := { q.hold with splice := true } }) ?_).trans
    (stopAtBoundary_of_closed ?_)
  · exact .inl ⟨hl, rfl⟩
  · exact .inl hstep


/-! ## Fire tests -/

/-- R194: a flag raised twice is raised once. -/
theorem raise_raise (f : Flag) (s : State) : (s.raise f).raise f = s.raise f := by
  have h : (s.link.raise f.number).raise f.number = s.link.raise f.number :=
    if_pos (link_raise_flag_set f.number_lt s.link)
  exact congrArg (fun l => { s with link := l }) h

theorem fireTestsAgain_of_same {s : State} (h : s.fireTests = s) : s.fireTestsAgain = s := by
  unfold State.fireTestsAgain
  rw [h]
  refine if_neg fun hc => ?_
  simp only [Bool.and_eq_true, decide_eq_true_eq] at hc
  obtain ⟨⟨h1, h2⟩, -⟩ := hc
  rw [h1] at h2
  exact absurd h2 (by decide)

theorem fireTestsAgain_of_not_waiting {s : State} (h : s.fireTests.seq.line ≠ .waiting) :
    s.fireTestsAgain = s.fireTests :=
  if_neg (by simp [h])

/-- R124: no fire test passes, and no press is due. -/
theorem fireTests_of_not_ready {s : State} (hd : s.rcc.pressDue = none) (h : s.fireReady = false) :
    s.fireTests = s := by
  unfold State.fireTests
  rw [hd, h]
  exact ite_self s

theorem tailShort_of_point {s : State} {a : Roll} {f : Nat} (ha : s.rcc.activeRoll = some a)
    (hf : s.rcc.firePoint = some f) :
    s.tailShort = decide (a.remaining + s.web < s.rcc.settings.tailReserve + f) := by
  unfold State.tailShort
  rw [ha, hf]
  exact decide_eq_decide.mpr (by omega)

theorem tailShort_of_no_point {s : State} {a : Roll} (ha : s.rcc.activeRoll = some a)
    (hf : s.rcc.firePoint = none) :
    s.tailShort = decide (a.remaining < s.rcc.settings.tailReserve) := by
  unfold State.tailShort
  rw [ha, hf]

theorem markPolicy_iff (s : State) :
    s.markPolicy = true ↔ ∃ o rest, s.orders = o :: rest ∧ o.seamPolicy = .mark := by
  unfold State.markPolicy
  cases h : s.orders with
  | nil => simp
  | cons o rest => simp

theorem grantCondition_iff (s : State) : s.grantCondition = true ↔
    (∃ f, s.rcc.firePoint = some f ∧ f ≤ s.web) ∨ ∃ o rest, s.orders = o :: rest ∧ o.seamPolicy = .mark := by
  unfold State.grantCondition
  rw [Bool.or_eq_true, markPolicy_iff]
  cases h : s.rcc.firePoint with
  | none => simp
  | some f => simp

/-- R124: a fire test. -/
theorem fireReady_iff (s : State) : s.fireReady = true ↔ s.rcc.seams.length < 3
    ∧ (s.tailShort = true ∨ ((∃ f, s.rcc.firePoint = some f ∧ f ≤ s.web)
      ∨ ∃ o rest, s.orders = o :: rest ∧ o.seamPolicy = .mark) ∧ s.rcc.settings.sbNeed ≤ s.steam.grants.sb) := by
  unfold State.fireReady State.grantOk
  rw [Bool.and_eq_true, Bool.or_eq_true, Bool.and_eq_true, grantCondition_iff, decide_eq_true_eq, decide_eq_true_eq]
  exact Iff.rfl

/-- R126: a press due is made. -/
theorem pressTest_fires {s : State} {b : Bool} (hd : s.rcc.pressDue = some b) (hs : s.rcc.splice = .slotted)
    (hl : s.seq.line = .held ∨ s.seq.line = .idle)
    (hg : b = true ∨ s.tailShort = true ∨ s.rcc.settings.sbNeed ≤ s.steam.grants.sb) : s.pressTest = s.fire := by
  unfold State.pressTest
  rw [hd]
  refine if_pos ?_
  simp only [State.grantOk, Bool.and_eq_true, Bool.or_eq_true, decide_eq_true_eq]
  exact ⟨⟨hs, hl⟩, or_assoc.mpr hg⟩

/-- R126: a press due waits. -/
theorem pressTest_waits {s : State} {b : Bool} (hd : s.rcc.pressDue = some b)
    (h : ¬ ((s.seq.line = .held ∨ s.seq.line = .idle)
      ∧ (b = true ∨ s.tailShort = true ∨ s.rcc.settings.sbNeed ≤ s.steam.grants.sb))) : s.pressTest = s := by
  unfold State.pressTest
  rw [hd]
  refine if_neg fun hc => h ?_
  simp only [State.grantOk, Bool.and_eq_true, Bool.or_eq_true, decide_eq_true_eq] at hc
  exact ⟨hc.1.2, or_assoc.mp hc.2⟩

/-- R126: a line that neither stands in HELD nor in IDLE makes no press. -/
theorem pressTest_of_line {s : State} (h : s.seq.line ≠ .held) (h' : s.seq.line ≠ .idle) : s.pressTest = s := by
  cases hd : s.rcc.pressDue with
  | none => exact pressTest_of_none hd
  | some b => exact pressTest_waits hd fun hc => hc.1.elim h h'

theorem fire_pressTest (s : State) : s.fire.pressTest = s.fire := by
  cases hids : s.rcc.fireIds with
  | none =>
    have hsame : s.fire = s := by unfold State.fire; rw [hids]
    rw [hsame]
    unfold State.pressTest
    split
    · split
      · exact hsame
      · rfl
    · rfl
  | some ids =>
    refine pressTest_of_none ?_
    unfold State.fire
    rw [hids]
    simp only [evalStandby_eq]
    split <;> rfl

/-! ## Asking for a slot -/

/-- R123: an offer accepted. -/
theorem slotAccepts_iff (b : Nat) (s : State) : s.slotAccepts b = true ↔ s.rcc.splice = .slotted
    ∧ s.rcc.slotRequest = true ∧ s.web + s.geometry.seamPath ≤ b + s.rcc.settings.clearance := by
  simp [State.slotAccepts, and_assoc]

theorem offerForming_of_none {s : State} (h : s.forming? = none) : s.offerForming = s := by
  unfold State.offerForming
  rw [h]

theorem offerForming_refused {s : State} {p : Plan} (hp : s.seq.plan = some p)
    (h : s.slotAccepts p.plannedEnd = false) : s.offerForming = s := by
  unfold State.offerForming
  rw [hp]
  cases s.forming? with
  | none => rfl
  | some x => exact if_neg (by simp [h])

theorem offerForming_accepted {s : State} {x : Panel} {p : Plan} (hx : s.forming? = some x)
    (hp : s.seq.plan = some p) (h : s.slotAccepts p.plannedEnd = true) :
    s.offerForming = { s with
      rcc := { s.rcc with
        firePoint := some (p.plannedEnd + s.rcc.settings.clearance - s.geometry.seamPath), slotRequest := false }
      seq := { s.seq with plan := some { p with gap := 2 * s.rcc.settings.clearance, slotFirm := true } } } := by
  unfold State.offerForming
  rw [hx, hp]
  exact if_pos h

/-- R124: with the grant below SB_NEED and the tail long enough, no fire test passes. -/
theorem fireReady_of_long {s : State} (hs : s.tailShort = false) (hg : s.steam.grants.sb < s.rcc.settings.sbNeed) :
    s.fireReady = false := by
  rw [← Bool.not_eq_true, fireReady_iff]
  rintro ⟨-, hshort | ⟨-, hgrant⟩⟩
  · rw [hs] at hshort
    exact absurd hshort (by decide)
  · omega

/-- Settles O39. -/
theorem spindleMatchedAsksForSlot : Obligations.SpindleMatchedAsksForSlot := by
  intro a s r hs hd hp ha hg ht slotted
  have hrun : exec .spindleMatched s = State.finish (State.fireTestsAgain (State.offerForming { s with rcc := slotted })) :=
    congrArg State.finish (if_pos hs)
  have hstays : State.fireTestsAgain { s with rcc := slotted } = { s with rcc := slotted } := by
    refine fireTestsAgain_of_same (fireTests_of_not_ready hd (fireReady_of_long ?_ hg))
    exact Eq.trans (tailShort_of_no_point (a := a) ha hp) (decide_eq_false (Nat.not_lt.mpr ht))
  have hoffer (b : Nat) : State.slotAccepts b { s with rcc := slotted } = true ↔
      s.web + s.geometry.seamPath ≤ b + r.settings.clearance := by
    rw [slotAccepts_iff]
    exact ⟨fun h => h.2.2, fun h => ⟨rfl, rfl, h⟩⟩
  refine ⟨fun hx => hrun.trans (finish_of_eq ?_), fun x p hx hplan hlow => hrun.trans (finish_of_eq ?_),
    fun x p f hx hplan hf hweb hlong => hrun.trans (finish_of_eq ?_)⟩
  · rw [offerForming_of_none (s := { s with rcc := slotted }) hx, hstays]
  · have hrefused : State.slotAccepts p.plannedEnd { s with rcc := slotted } = false := by
      rw [← Bool.not_eq_true, hoffer]
      omega
    rw [offerForming_refused (s := { s with rcc := slotted }) hplan hrefused, hstays]
  · rw [offerForming_accepted (s := { s with rcc := slotted }) hx hplan ((hoffer _).mpr (by omega))]
    have hpoint : p.plannedEnd + r.settings.clearance - s.geometry.seamPath = f := by omega
    dsimp only
    simp only [slotted, hpoint, r] at *
    refine fireTestsAgain_of_same (fireTests_of_not_ready hd (fireReady_of_long ?_ hg))
    exact Eq.trans (tailShort_of_point (a := a) (f := f) ha rfl) (decide_eq_false (by dsimp only; omega))

/-! ## When a splice fires -/

theorem setCeiling_rcc (c : Nat) (s : State) : (s.setCeiling c).rcc = s.rcc := by
  unfold State.setCeiling
  split <;> rfl

theorem setCeiling_seq (c : Nat) (s : State) : (s.setCeiling c).seq = s.seq := by
  unfold State.setCeiling
  split <;> rfl

theorem setCeiling_web (c : Nat) (s : State) : (s.setCeiling c).web = s.web := by
  unfold State.setCeiling
  split <;> rfl

theorem actCeiling_rcc (s : State) : s.actCeiling.rcc = s.rcc := by
  unfold State.actCeiling
  dsimp only
  split
  · exact setCeiling_rcc ..
  · split
    · exact setCeiling_rcc ..
    · rfl

theorem actCeiling_seq (s : State) : s.actCeiling.seq = s.seq := by
  unfold State.actCeiling
  dsimp only
  split
  · exact setCeiling_seq ..
  · split
    · exact setCeiling_seq ..
    · rfl

theorem actCeiling_web (s : State) : s.actCeiling.web = s.web := by
  unfold State.actCeiling
  dsimp only
  split
  · exact setCeiling_web ..
  · split
    · exact setCeiling_web ..
    · rfl

/-- R146 to R150: a round leaves the splice alone. -/
theorem round_rcc (c : Nat) (s : State) : (s.round c).rcc = s.rcc := by
  unfold State.round
  dsimp only
  split
  · rfl
  · exact actCeiling_rcc _

theorem round_seq (c : Nat) (s : State) : (s.round c).seq = s.seq := by
  unfold State.round
  dsimp only
  split
  · rfl
  · exact actCeiling_seq _

theorem round_web (c : Nat) (s : State) : (s.round c).web = s.web := by
  unfold State.round
  dsimp only
  split
  · rfl
  · exact actCeiling_web _

/-- R124: the tail condition as O40 writes it. -/
def State.tailNeeds (a : Roll) (s : State) : Bool :=
  match s.rcc.firePoint with
  | some f => decide (a.remaining + s.web < s.rcc.settings.tailReserve + f)
  | none => decide (a.remaining < s.rcc.settings.tailReserve)

theorem tailShort_eq {s : State} {a : Roll} (ha : s.rcc.activeRoll = some a) : s.tailShort = s.tailNeeds a := by
  unfold State.tailNeeds
  split
  · next f hf => exact tailShort_of_point ha hf
  · next hf => exact tailShort_of_no_point ha hf

/-- R126: a press becomes due. -/
def State.pressMadeDue (s : State) : State := s.setRcc fun r => { r with pressDue := some s.tailShort }

theorem fireTests_due {s : State} {b : Bool} (hs : s.rcc.splice = .slotted) (hd : s.rcc.pressDue = some b) :
    s.fireTests = s.pressTest :=
  (if_pos hs).trans (if_pos (by rw [hd]; rfl))

theorem fireTests_flying {s : State} (hs : s.rcc.splice = .slotted) (hd : s.rcc.pressDue = none)
    (hr : s.fireReady = true) (hm : s.rcc.settings.mode = .flying) : s.fireTests = s.fire := by
  refine (if_pos hs).trans ((if_neg (by rw [hd]; decide)).trans ((if_pos hr).trans ?_))
  rw [hm]

theorem fireTests_stopped {s : State} (hs : s.rcc.splice = .slotted) (hd : s.rcc.pressDue = none)
    (hr : s.fireReady = true) (hm : s.rcc.settings.mode = .stopped) :
    s.fireTests = (s.pressMadeDue.addHold fun h => { h with splice := true }).pressTest := by
  refine (if_pos hs).trans ((if_neg (by rw [hd]; decide)).trans ((if_pos hr).trans ?_))
  rw [hm]
  rfl

theorem enter_tailShort (l : LineState) (s : State) : (s.enter l).tailShort = s.tailShort := by
  unfold State.tailShort
  rw [enter_rcc, (State.lineAlone_enter l s).web]

/-- R126: a line that enters HELD or IDLE makes a press due that may be made. -/
theorem enter_pressTest {s : State} {b : Bool} {l : LineState} (hl : l = .held ∨ l = .idle)
    (hd : s.rcc.pressDue = some b) (hs : s.rcc.splice = .slotted)
    (hg : b = true ∨ s.tailShort = true ∨ s.rcc.settings.sbNeed ≤ s.steam.grants.sb) :
    (s.enter l).pressTest = (s.enter l).fire := by
  refine pressTest_fires (b := b) ?_ ?_ ?_ ?_
  · rwa [enter_rcc]
  · rwa [enter_rcc]
  · rwa [enter_line]
  · rwa [enter_tailShort, enter_rcc, (State.lineAlone_enter l s).steam]

theorem enter_pressTest_waits {s : State} {b : Bool} (l : LineState) (hd : s.rcc.pressDue = some b)
    (hg : ¬ (b = true ∨ s.tailShort = true ∨ s.rcc.settings.sbNeed ≤ s.steam.grants.sb)) :
    (s.enter l).pressTest = s.enter l := by
  refine pressTest_waits (b := b) ?_ fun hc => hg ?_
  · rwa [enter_rcc]
  · have hgrant := hc.2
    rwa [enter_tailShort, enter_rcc, (State.lineAlone_enter l s).steam] at hgrant

/-- Settles O40. -/
theorem fireTestFollowsTable : Obligations.FireTestFollowsTable := by
  intro a s r mark granted hs ha short reached passes
  have hshort : s.tailShort = short := tailShort_eq ha
  have hready : s.fireReady = true ↔ passes := by
    rw [fireReady_iff, hshort]
  refine ⟨fun hd hp => fireTests_of_not_ready hd (Bool.eq_false_iff.mpr (mt hready.mp hp)),
    fun hd hp hm => fireTests_flying hs hd (hready.mpr hp) hm, ?_, ?_⟩
  · intro hd hp hm due toHeld
    have hrun : s.fireTests = (s.pressMadeDue.addHold fun h => { h with splice := true }).pressTest :=
      fireTests_stopped hs hd (hready.mpr hp) hm
    have hdue : (s.pressMadeDue.setSeq fun q => { q with hold := { q.hold with splice := true } }) = due := by
      rw [State.pressMadeDue, hshort]
      rfl
    have hmay : short = true ∨ due.tailShort = true ∨ due.rcc.settings.sbNeed ≤ due.steam.grants.sb :=
      hp.2.imp_right fun h => .inr h.2
    have hheld (u : State) (hu : u.rcc = due.rcc) (hsteam : u.steam = s.steam)
        (hl : u.seq.line ≠ .held) : (u.enterHeld).pressTest = (u.enter .held).fire := by
      have hfire : u.enterHeld = (u.enter .held).fire := by
        refine enter_pressTest (b := short) (.inl rfl) ?_ ?_ ?_
        · rw [hu]
        · rwa [hu]
        · rw [hu, hsteam]
          exact hp.2.imp_right fun h => .inr h.2
      rw [hfire, fire_pressTest]
    refine ⟨fun hl => hrun.trans ?_, fun hl => hrun.trans ?_, fun hl => hrun.trans ?_,
      fun was hl => ⟨fun hc => hrun.trans ?_, fun hstep hopen hstop => hrun.trans ?_⟩⟩
    · rw [addHold_stands (s := s.pressMadeDue) (by exact hl.elim .inl fun h => .inr (.inr (.inl h))), hdue]
      exact pressTest_fires (b := short) rfl hs hl.symm hmay
    · rw [addHold_stands (s := s.pressMadeDue) (by exact hl.elim (fun h => .inr (.inr (.inr h))) fun h => .inr (.inl h)),
        hdue]
      refine pressTest_of_line ?_ ?_
      · rcases hl with hl | hl <;> exact hl ▸ by decide
      · rcases hl with hl | hl <;> exact hl ▸ by decide
    · have hne : due.seq.line ≠ .held := by
        show s.seq.line ≠ .held
        rw [hl]
        decide
      rw [addHold_waiting (s := s.pressMadeDue) hl, hdue, hheld due rfl rfl hne, enter_held_eq hne]
    · have hmoving : s.seq.line = .running ∨ s.seq.line = .draining := hl.imp And.left And.left
      rw [addHold_moving (s := s.pressMadeDue) hmoving, hdue, enterHolding_eq (s := due) (was := was) hl,
        stopAtBoundary_of_closed (by exact hc)]
      exact pressTest_of_line (show LineState.holding ≠ .held by decide) (show LineState.holding ≠ .idle by decide)
    · have hmoving : s.seq.line = .running ∨ s.seq.line = .draining := hl.imp And.left And.left
      rw [addHold_moving (s := s.pressMadeDue) hmoving, hdue, enterHolding_eq (s := due) (was := was) hl,
        stopAtBoundary_of_open rfl (by exact hstep) (by exact hopen)]
      refine (congrArg State.pressTest (if_neg (by exact hstop))).trans ?_
      refine (hheld (State.raise .lineState { due with seq := { due.seq with holdingFrom := was, line := .holding } })
        rfl rfl (show LineState.holding ≠ .held by decide)).trans ?_
      rw [enter_held_eq (show LineState.holding ≠ .held by decide)]
      refine congrArg (fun u : State => State.fire (State.standReady (State.raise .held u))) ?_
      exact raise_raise .lineState
        { due with seq := { due.seq with holdingFrom := was, line := .held, pace := .stopped } }
  · intro noGrant hd stands may
    have hrun : s.fireTests = s.pressTest := fireTests_due hs hd
    have hgrant (t : State) (ht : t.tailShort = short) (hr : t.rcc.settings = r.settings) :
        (noGrant = true ∨ t.tailShort = true ∨ t.rcc.settings.sbNeed ≤ t.steam.grants.sb) ↔ may t := by
      rw [ht, hr]
    refine ⟨fun hst hm => hrun.trans ?_, fun hn => hrun.trans ?_, fun hm => ⟨?_, ?_⟩, fun hm => ⟨?_, ?_⟩, ?_⟩
    · exact pressTest_fires hd hs hst ((hgrant s hshort rfl).mpr hm)
    · exact pressTest_waits hd fun hc => hn ⟨hc.1, (hgrant s hshort rfl).mp hc.2⟩
    · exact enter_pressTest (.inl rfl) hd hs ((hgrant s hshort rfl).mpr hm)
    · exact enter_pressTest (.inr rfl) hd hs ((hgrant s hshort rfl).mpr hm)
    · exact enter_pressTest_waits _ hd (mt (hgrant s hshort rfl).mp hm)
    · exact enter_pressTest_waits _ hd (mt (hgrant s hshort rfl).mp hm)
    · intro v hst supply t
      have hrcc : t.rcc = r := round_rcc ..
      have hline : t.seq.line = s.seq.line := congrArg Seq.line (round_seq ..)
      have htail : t.tailShort = short := by
        refine Eq.trans ?_ hshort
        unfold State.tailShort
        rw [hrcc, show t.web = s.web from round_web ..]
      have hfires : t.fireTests = t.pressTest := fireTests_due (by rwa [hrcc]) (by rwa [hrcc])
      have hstays : t.fireTestsAgain = t.fireTests := by
        refine fireTestsAgain_of_not_waiting ?_
        rw [hfires, (State.rccAlone_pressTest t).seq, hline]
        rcases hst with h | h <;> rw [h] <;> decide
      have hevent : exec (.supplyReading v) s = t.fireTests.finish := congrArg State.finish hstays
      have hst' : t.seq.line = .held ∨ t.seq.line = .idle := by rwa [hline]
      refine ⟨fun hm => hevent.trans ?_, fun hm => hevent.trans ?_⟩
      · exact finish_of_eq (hfires.trans (pressTest_fires (by rwa [hrcc]) (by rwa [hrcc]) hst'
          ((hgrant t htail (by rw [hrcc])).mpr hm)))
      · exact finish_of_eq (hfires.trans (pressTest_waits (by rwa [hrcc])
          fun hc => hm ((hgrant t htail (by rw [hrcc])).mp hc.2)))

/-! ## Confirmed -/

/-- R129: the splice confirmed, with its unconfirmed seam recorded. -/
def RollChange.confirmed (how : ConfirmedBy) (u : Unconfirmed) (clock : Nat) (r : RollChange) : RollChange :=
  { r with
    seams := if u.crossed then r.seams else insertSeam ⟨u.position, u.oldId, u.newId, clock, how⟩ r.seams
    unconfirmed := none, detectPoint := none, confirmTimer := none
    splice := if r.standbyRoll.isSome then .armed else .idle }

theorem confirmSplice_eq {how : ConfirmedBy} {u : Unconfirmed} {s : State} (h : s.rcc.unconfirmed = some u) :
    s.confirmSplice how = State.raise .spliceDone { s with rcc := s.rcc.confirmed how u s.clock } := by
  unfold State.confirmSplice State.recordSeam
  rw [h]
  rfl

/-- R56: SPLICE alone in the set is the one case in which its leaving empties the set. -/
theorem spliceAlone_or (h : HoldSet) : h = ⟨false, true, false, false⟩
    ∨ { h with splice := false }.nonEmpty = true ∨ h.nonEmpty = false := by
  obtain ⟨a, b, c, d⟩ := h
  revert a b c d
  decide

theorem debounced_eq {level : Bool} {ms : Nat} {s : State} (hc : s.rcc.candidate = some level)
    (hd : s.rcc.debounce = some ms) :
    s.debounced = if level = s.rcc.settings.rising then
      State.acceptEdge { s with rcc := { s.rcc with stable := level, candidate := none, debounce := none } }
      else { s with rcc := { s.rcc with stable := level, candidate := none, debounce := none } } := by
  unfold State.debounced
  rw [hc, hd]
  rfl

theorem acceptEdge_of_not_pressing {s : State} (h : s.rcc.splice ≠ .pressing) : s.acceptEdge = s := if_neg h

theorem acceptEdge_seen {s : State} (h : s.rcc.splice = .pressing)
    (hq : s.rcc.settings.mode = .stopped ∨ s.rcc.confirmTimer = none) :
    s.acceptEdge = { s with rcc := { s.rcc with edgeSeen := true } } := by
  refine (if_pos h).trans (if_neg ?_)
  rcases hq with hq | hq <;> simp [hq]

theorem acceptEdge_confirms {s : State} (h : s.rcc.splice = .pressing) (hm : s.rcc.settings.mode = .flying)
    {timer : Nat} (ht : s.rcc.confirmTimer = some timer) :
    s.acceptEdge = State.confirmSplice .detector { s with rcc := { s.rcc with edgeSeen := true } } :=
  (if_pos h).trans (if_pos (by simp [hm, ht]))

/-- Settles O42. -/
theorem spliceConfirmed : Obligations.SpliceConfirmed := by
  refine ⟨?_, ?_⟩
  · intro u s r hp hm hu hl t
    have hrun : exec .sealed s = s.sealDone.finish :=
      congrArg State.finish (if_pos (Bool.and_eq_true_iff.mpr ⟨decide_eq_true hp, decide_eq_true hm⟩))
    refine hrun.trans (finish_of_eq ?_)
    rw [State.sealDone, confirmSplice_eq hu]
    by_cases halone : s.seq.line = .held ∧ s.seq.hold = ⟨false, true, false, false⟩
    · obtain ⟨hheld, hhold⟩ := halone
      rw [if_pos ⟨hheld, hhold⟩]
      exact releaseHold_held (s := State.raise .spliceDone { s with rcc := s.rcc.confirmed .sealed u s.clock })
        (by exact hhold ▸ rfl) (by exact hhold ▸ rfl) hheld
    · rw [if_neg halone]
      refine releaseHold_stays (s := State.raise .spliceDone { s with rcc := s.rcc.confirmed .sealed u s.clock }) ?_
      rcases hl with hl | hl
      · exact .inr (.inr (.inl (by rw [raise_seq]; simp [hl])))
      · rcases spliceAlone_or s.seq.hold with h | h | h
        · exact absurd ⟨hl, h⟩ halone
        · exact .inl h
        · exact .inr (.inl h)
  · intro level s r
    refine ⟨rfl, ?_⟩
    intro ms hc hd settled
    have hrun : exec .debounceTimerExpiry s = (if level = r.settings.rising then
        State.acceptEdge { s with rcc := settled } else { s with rcc := settled }).finish :=
      congrArg State.finish (debounced_eq hc hd)
    refine ⟨fun h => hrun.trans (finish_of_eq ?_), fun hr hp hq => hrun.trans (finish_of_eq ?_),
      fun u timer hr hp hm ht hu => hrun.trans (finish_of_eq ?_)⟩
    · split
      · next hr => exact acceptEdge_of_not_pressing (s := { s with rcc := settled }) (h.resolve_left (not_not_intro hr))
      · rfl
    · rw [if_pos hr]
      exact acceptEdge_seen (s := { s with rcc := settled }) hp hq
    · rw [if_pos hr]
      refine (acceptEdge_confirms (s := { s with rcc := settled }) hp hm ht).trans ?_
      exact confirmSplice_eq (s := { s with rcc := { settled with edgeSeen := true } }) hu

end Sys2Proof.Machine
end

section
/-! PROOFS. Segments: movements (O29), faults in a standing line (O30), SEG-APPLY (O27, O28) and SEG-CLEAR (O32). -/

namespace Sys2Proof.Machine

/-! ## One segment's control -/

@[simp] theorem setSeg_get_same (i : Fin 6) (g : Segment) (s : State) : (s.setSeg i g).segs.get i = g := Six.get_set_same ..

theorem setSeg_get_of_ne {i j : Fin 6} (g : Segment) (s : State) (h : j ≠ i) :
    (s.setSeg i g).segs.get j = s.segs.get j := Six.get_set_of_ne _ _ h

@[simp] theorem setSeg_setSeg (i : Fin 6) (g x : Segment) (s : State) : (s.setSeg i g).setSeg i x = s.setSeg i x :=
  congrArg (fun v => { s with segs := v }) (Six.set_set ..)

theorem setDrive_setSeg (i : Fin 6) (g : Segment) (d : Drive) (s : State) :
    (s.setSeg i g).setDrive i d = s.setSeg i { g with drive := d } := by
  rw [State.setDrive, setSeg_get_same, setSeg_setSeg]

/-- R86: a change of state. -/
theorem setSegState_of_ne {i : Fin 6} {st : SegState} {s : State} (h : (s.segs.get i).state ≠ st) :
    s.setSegState i st = (s.setSeg i { s.segs.get i with state := st }).raise (.segState i) := if_neg h

theorem setSegState_of_eq {i : Fin 6} {st : SegState} {s : State} (h : (s.segs.get i).state = st) :
    s.setSegState i st = s := if_pos h

theorem setSegState_setSeg {i : Fin 6} {st : SegState} {g : Segment} {s : State} (h : g.state ≠ st) :
    (s.setSeg i g).setSegState i st = (s.setSeg i { g with state := st }).raise (.segState i) := by
  rw [setSegState_of_ne (by rwa [setSeg_get_same]), setSeg_get_same, setSeg_setSeg]

/-- R82: a status that leaves PENDING or IN_PROGRESS. -/
theorem setStatus_of_busy {i : Fin 6} {st : ConfigStatus} {s : State} (h : (s.segs.get i).status.busy = true)
    (hst : st.busy = false) :
    s.setStatus i st = (s.setSeg i { s.segs.get i with status := st, waiting := none }).raise (.applyDone i) := by
  have hne : st ≠ .pending := by rintro rfl; exact absurd hst (by decide)
  simp [State.setStatus, h, hst, hne]

theorem setStatus_setSeg_busy {i : Fin 6} {st : ConfigStatus} {g : Segment} {s : State} (h : g.status.busy = true)
    (hst : st.busy = false) : (s.setSeg i g).setStatus i st =
      (s.setSeg i { g with status := st, waiting := none }).raise (.applyDone i) := by
  rw [setStatus_of_busy (by rwa [setSeg_get_same]) hst, setSeg_get_same, setSeg_setSeg]

/-- R82: a status of a segment for which no copy waits or moves. -/
theorem setStatus_of_idle {i : Fin 6} {st : ConfigStatus} {s : State} (h : (s.segs.get i).status.busy = false)
    (hst : st ≠ .pending) :
    s.setStatus i st = s.setSeg i { s.segs.get i with status := st, waiting := none } := by
  simp [State.setStatus, h, hst]

theorem busy_iff (st : ConfigStatus) : st.busy = true ↔ st = .pending ∨ st = .inProgress := by
  cases st <;> decide

/-! ## Movements -/

/-- R87, R88: the segment whose movement has ended. -/
def Segment.moved (st : SegState) (g : Segment) : Segment :=
  { g with
    drive := .none, state := st
    status := if g.status = .inProgress then .done else g.status
    waiting := if g.status = .inProgress then none else g.waiting }

/-- R87, R88: a movement that ends raises SEG_STATE and APPLY_DONE. -/
def State.movedSeg (i : Fin 6) (st : SegState) (s : State) : State :=
  if (s.segs.get i).state = st then s.setSeg i ((s.segs.get i).moved st)
  else State.raise (.segState i) (s.setSeg i ((s.segs.get i).moved st))

/-- R82: a copy in progress is DONE. -/
theorem setStatus_done {i : Fin 6} {s : State} (h : (s.segs.get i).status = .inProgress) :
    s.setStatus i .done = (s.setSeg i { s.segs.get i with status := .done, waiting := none }).raise (.applyDone i) :=
  setStatus_of_busy (by rw [h]; rfl) rfl

theorem moveDone_eq (i : Fin 6) (st : SegState) (s : State) : s.moveDone i st =
    if (s.segs.get i).status = .inProgress then State.raise (.applyDone i) (s.movedSeg i st) else s.movedSeg i st := by
  have hstate : (s.setDrive i .none).setSegState i st =
      if (s.segs.get i).state = st then s.setSeg i { s.segs.get i with drive := .none, state := st }
      else State.raise (.segState i) (s.setSeg i { s.segs.get i with drive := .none, state := st }) := by
    by_cases h : (s.segs.get i).state = st
    · rw [if_pos h, ← h]
      exact setSegState_of_eq (by rw [State.setDrive, setSeg_get_same])
    · rw [if_neg h]
      exact setSegState_setSeg (g := { s.segs.get i with drive := .none }) h
  have hget : ((s.setDrive i .none).setSegState i st).segs.get i = { s.segs.get i with drive := .none, state := st } := by
    rw [hstate]
    split <;> exact setSeg_get_same ..
  by_cases hbusy : (s.segs.get i).status = .inProgress
  · rw [if_pos hbusy]
    refine (if_pos (by rw [hget]; exact hbusy)).trans ((setStatus_done (by rw [hget]; exact hbusy)).trans ?_)
    rw [hget, hstate, State.movedSeg, Segment.moved, if_pos hbusy, if_pos hbusy]
    refine congrArg (State.raise _) ?_
    split
    · exact setSeg_setSeg ..
    · exact congrArg (State.raise _) (setSeg_setSeg ..)
  · rw [if_neg hbusy]
    refine (if_neg (by rw [hget]; exact hbusy)).trans ?_
    rw [hstate, State.movedSeg, Segment.moved, if_neg hbusy, if_neg hbusy]

theorem moveDone_line (i : Fin 6) (st : SegState) (s : State) : (s.moveDone i st).seq = s.seq := by
  rw [moveDone_eq, State.movedSeg]
  split <;> split <;> rfl

/-- Settles O29. -/
theorem movementEnds : Obligations.MovementEnds := by
  intro i s g ended
  have hended (st : SegState) : State.thenReevaluate s (s.moveDone i st) = ended st := congrArg _ (moveDone_eq i st s)
  have hmoved (st : SegState) : State.reevaluateSince s (s.moveDone i st) = ended st := by
    rw [reevaluateSince_eq rfl fun hw => by rwa [moveDone_line], hended]
  refine ⟨fun h => finish_of_eq ?_, fun h => finish_of_eq ?_, fun h => finish_of_eq ?_, fun h => finish_of_eq ?_⟩
  · exact (if_pos ((isHome_iff _).mpr h)).trans (hmoved .ready)
  · exact (if_pos ((isPark_iff _).mpr h)).trans (hmoved .parked)
  · exact if_neg (mt (isHome_iff _).mp h)
  · exact if_neg (mt (isPark_iff _).mp h)

/-! ## Faults -/

/-- R90: the segment whose drive is abandoned and whose active ENGAGE goes off. -/
def Segment.abandoned (c : FaultCause) (g : Segment) : Segment :=
  { g with drive := .none, cause := c, active := { g.active with engage := false } }

/-- R90: the segment that has entered FAULTED. -/
def Segment.faultedBy (c : FaultCause) (g : Segment) : Segment :=
  { g with
    drive := .none, cause := c, active := { g.active with engage := false }, state := .faulted
    status := if g.status = .pending ∨ g.status = .inProgress then .rejFaulted else g.status
    waiting := if g.status = .pending ∨ g.status = .inProgress then none else g.waiting }

/-- R90: a segment's own part of a fault, before its flags of state and fault. -/
def State.faultWritten (i : Fin 6) (c : FaultCause) (s : State) : State :=
  if (s.segs.get i).status = .pending ∨ (s.segs.get i).status = .inProgress then
    State.raise (.applyDone i) (s.setSeg i ((s.segs.get i).faultedBy c))
  else s.setSeg i ((s.segs.get i).faultedBy c)

theorem faultSeg_eq {i : Fin 6} {c : FaultCause} {s : State} (h : (s.segs.get i).state ≠ .faulted) :
    s.faultSeg i c = ((s.faultWritten i c).raise (.segState i)).raise (.segFault i) := by
  refine congrArg (State.raise (.segFault i)) ?_
  dsimp only
  rw [State.faultWritten, Segment.faultedBy]
  by_cases hbusy : (s.segs.get i).status = .pending ∨ (s.segs.get i).status = .inProgress
  · rw [if_pos ((busy_iff _).mpr hbusy), if_pos hbusy, if_pos hbusy, if_pos hbusy]
    refine (congrArg (State.setSegState i .faulted) (setStatus_setSeg_busy (st := .rejFaulted)
      (g := (s.segs.get i).abandoned c) ((busy_iff _).mpr hbusy) rfl)).trans ?_
    exact setSegState_setSeg (s := s.raise (.applyDone i)) h
  · rw [if_neg (mt (busy_iff _).mp hbusy), if_neg hbusy, if_neg hbusy, if_neg hbusy]
    exact setSegState_setSeg h

/-- R56, R72: a hold at once in a standing line. -/
theorem addHoldAtOnce_stands {f : HoldSet → HoldSet} {s : State}
    (h : s.seq.line = .idle ∨ s.seq.line = .held ∨ s.seq.line = .estop) :
    s.addHoldAtOnce f = s.setSeq fun q => { q with hold := f q.hold } := by
  unfold State.addHoldAtOnce
  dsimp only [setSeq_seq]
  rcases h with h | h | h <;> rw [h]

theorem addHoldAtOnce_stops {f : HoldSet → HoldSet} {s : State}
    (h : s.seq.line = .waiting ∨ s.seq.line = .running ∨ s.seq.line = .holding ∨ s.seq.line = .draining) :
    s.addHoldAtOnce f = (s.setSeq fun q => { q with hold := f q.hold }).enterHeld := by
  unfold State.addHoldAtOnce
  dsimp only [setSeq_seq]
  rcases h with h | h | h | h <;> rw [h]

theorem cutStep_of_none {s : State} (h : s.seq.step = none) : s.cutStep = s := by
  unfold State.cutStep
  rw [h]

theorem cutPoint_of_none {s : State} (h : s.seq.step = none) : s.cutPoint = s := by
  unfold State.cutPoint
  rw [h]

theorem engaged_iff (g : Segment) : g.engaged = true ↔ g.state = .ready ∨ g.state = .active := by
  unfold Segment.engaged
  cases g.state <;> decide

/-- R90: a timeout of the drive outstanding, or a fault report, makes its segment FAULTED. -/
def faultEvent (c : Instr) (cause : FaultCause) (i : Fin 6) (g : Segment) : Prop :=
  c = .driveFault i ∧ cause = .driveFault
    ∨ c = .feedTimeout i ∧ cause = .feedTimeout ∧ g.drive.isFeed = true
    ∨ c = .strokeTimeout i ∧ cause = .strokeTimeout ∧ g.drive.isStroke = true
    ∨ c = .withdrawTimeout i ∧ cause = .withdrawTimeout ∧ g.drive = .withdraw
    ∨ c = .homeTimeout i ∧ cause = .homeTimeout ∧ g.drive = .home
    ∨ c = .parkTimeout i ∧ cause = .parkTimeout ∧ g.drive = .park

theorem exec_faultEvent {c : Instr} {cause : FaultCause} {i : Fin 6} {s : State}
    (h : faultEvent c cause i (s.segs.get i)) : exec c s = (s.segmentFault i cause).finish := by
  rcases h with ⟨rfl, rfl⟩ | ⟨rfl, rfl, hd⟩ | ⟨rfl, rfl, hd⟩ | ⟨rfl, rfl, hd⟩ | ⟨rfl, rfl, hd⟩ | ⟨rfl, rfl, hd⟩
  · rfl
  · exact congrArg State.finish (if_pos hd)
  · exact congrArg State.finish (if_pos hd)
  · exact congrArg State.finish (if_pos ((isWithdraw_iff _).mpr hd))
  · exact congrArg State.finish (if_pos ((isHome_iff _).mpr hd))
  · exact congrArg State.finish (if_pos ((isPark_iff _).mpr hd))

theorem mapForming_eq (f : Panel → Panel) (s : State) :
    s.mapForming f = { s with track := s.track.map fun p => if p.state = .forming then f p else p } := by
  simp only [State.mapForming, Panel.forming, decide_eq_true_eq]

/-- R72, R90: a fault with SEGMENT_LOST in the FORMING record the segment was engaged in, before the hold. -/
def State.faultMarked (i : Fin 6) (c : FaultCause) (s : State) : State :=
  if (s.segs.get i).engaged then (s.faultSeg i c).mapForming fun p => { p with reasons := p.reasons.addSegmentLost }
  else s.faultSeg i c

theorem segmentFault_eq {i : Fin 6} {c : FaultCause} {s : State} (h : (s.segs.get i).state ≠ .faulted) :
    s.segmentFault i c =
      ((s.faultMarked i c).addHoldAtOnce fun h => { h with fault := true }).cutStep.cutPoint := if_neg h

/-- R90: the segment and the FORMING record written by a fault. -/
def State.faultRecorded (i : Fin 6) (c : FaultCause) (s : State) : State :=
  { s with
    segs := s.segs.set i ((s.segs.get i).faultedBy c)
    track := if (s.segs.get i).state = .ready ∨ (s.segs.get i).state = .active then
        s.track.map fun p => if p.state = .forming then { p with reasons := p.reasons.addSegmentLost } else p
      else s.track }

theorem faultMarked_eq {i : Fin 6} {c : FaultCause} {s : State} (h : (s.segs.get i).state ≠ .faulted) :
    s.faultMarked i c = State.raise (.segFault i) (State.raise (.segState i)
      (if (s.segs.get i).status = .pending ∨ (s.segs.get i).status = .inProgress then
        State.raise (.applyDone i) (s.faultRecorded i c) else s.faultRecorded i c)) := by
  rw [State.faultMarked, faultSeg_eq h, State.faultWritten, State.faultRecorded, mapForming_eq]
  simp only [engaged_iff]
  split <;> split <;> rfl

theorem faultMarked_seq (i : Fin 6) (c : FaultCause) {s : State} (h : (s.segs.get i).state ≠ .faulted) :
    (s.faultMarked i c).seq = s.seq := by
  rw [faultMarked_eq h]
  split <;> rfl

/-- Settles O30. -/
theorem faultInStandingLine : Obligations.FaultInStandingLine := by
  intro i c cause s g hc hg hl hstep busy lost t t'
  have hseq := faultMarked_seq i cause hg
  have hhold : (s.faultMarked i cause).addHoldAtOnce (fun h => { h with fault := true }) =
      (s.faultMarked i cause).setSeq fun q => { q with hold := { q.hold with fault := true } } :=
    addHoldAtOnce_stands (by rwa [hseq])
  have hnone : ((s.faultMarked i cause).setSeq fun q => { q with hold := { q.hold with fault := true } }).seq.step =
      none := by rwa [setSeq_seq, hseq]
  refine (exec_faultEvent hc).trans (finish_of_eq ?_)
  rw [segmentFault_eq hg, hhold, cutStep_of_none hnone, cutPoint_of_none hnone, faultMarked_eq hg]
  dsimp only [t', busy]
  split <;> rfl

/-! ## SEG-APPLY -/

/-- R81 test 1: the request of the segment is ignored. -/
def Segment.ignores (g : Segment) : Bool :=
  decide (g.status = .pending) || decide (g.status = .inProgress) || decide (g.state = .engaging)
    || decide (g.state = .parking)

/-- R81 test 3: ENGAGE or VERIFY would change. -/
def Segment.needsBoundary (g : Segment) : Bool :=
  decide (g.staged.engage ≠ g.active.engage) || decide (g.staged.verify ≠ g.active.verify)

/-- R81: the tests of one segment, in order, where `mode` is the choice byte of `m`. -/
theorem applyOutcome_eq {mode : Nat} {m : ApplyMode} (hm : m = .now ↔ mode = 1) (g : Segment) : g.applyOutcome m =
    if g.ignores = true then .ignored else if g.state = .faulted then .rejFaulted
    else if mode = 1 ∧ g.needsBoundary = true then .rejNotNow else .copy m := by
  have hbusy : (g.status.busy || decide (g.state = .engaging) || decide (g.state = .parking)) = g.ignores := by
    rw [Segment.ignores]
    cases g.status <;> rfl
  have hnow : (decide (m = .now) && (decide (g.staged.engage ≠ g.active.engage)
      || decide (g.staged.verify ≠ g.active.verify))) = decide (mode = 1 ∧ g.needsBoundary = true) := by
    rw [Segment.needsBoundary]
    simp [hm]
  unfold Segment.applyOutcome
  rw [hbusy, hnow]
  simp only [decide_eq_true_eq]

/-- R81: what an outcome writes into a segment, where `copy` is what a copy leaves of it; `mode` is the request's
choice byte. -/
def Segment.outcome (mode : Nat) (copy : Segment → Segment) (g : Segment) : Segment :=
  if g.ignores = true then g
  else if g.state = .faulted then { g with status := .rejFaulted, waiting := none }
  else if mode = 1 ∧ g.needsBoundary = true then { g with status := .rejNotNow, waiting := none }
  else copy g

/-- R81: a copy of the segment is set waiting or carried out. -/
def Segment.copies (mode : Nat) (g : Segment) : Bool :=
  !g.ignores && decide (g.state ≠ .faulted) && !(decide (mode = 1) && g.needsBoundary)

theorem copies_iff {mode : Nat} {g : Segment} : g.copies mode = true ↔
    ¬ g.ignores = true ∧ g.state ≠ .faulted ∧ ¬ (mode = 1 ∧ g.needsBoundary = true) := by
  simp only [Segment.copies, Bool.and_eq_true, Bool.not_eq_true', decide_eq_true_eq, Bool.and_eq_false_iff,
    decide_eq_false_iff_not, and_assoc, not_and_or, Bool.not_eq_true]

theorem outcome_of_copies {mode : Nat} {copy : Segment → Segment} {g : Segment} (h : g.copies mode = true) :
    g.outcome mode copy = copy g := by
  obtain ⟨hign, hfault, hnot⟩ := copies_iff.mp h
  rw [Segment.outcome, if_neg hign, if_neg hfault, if_neg hnot]

/-- R81: the choice byte of an apply mode. -/
theorem mode_of_applyMode {mode : Nat} {m : ApplyMode} (h : applyModeOf? mode = some m) : m = .now ↔ mode = 1 := by
  match mode with
  | 0 => obtain rfl := Option.some.inj h; decide
  | 1 => obtain rfl := Option.some.inj h; decide
  | n + 2 => exact absurd h (by simp [applyModeOf?])

theorem copies_eq {mode : Nat} {m : ApplyMode} (hm : m = .now ↔ mode = 1) (g : Segment) :
    (g.applyOutcome m).isCopy = g.copies mode := by
  rw [Bool.eq_iff_iff, copies_iff, applyOutcome_eq hm]
  split_ifs with hign hfault hnot
  · simp [hign, ApplyOutcome.isCopy]
  · simp [hfault, ApplyOutcome.isCopy]
  · simp [hnot, ApplyOutcome.isCopy]
  · exact iff_of_true rfl ⟨hign, hfault, hnot⟩

theorem ignored_eq {mode : Nat} {m : ApplyMode} (hm : m = .now ↔ mode = 1) (g : Segment) :
    (g.applyOutcome m).isIgnored = g.ignores := by
  rw [applyOutcome_eq hm]
  split_ifs with hign hfault hnot
  · exact hign.symm
  all_goals exact (Bool.eq_false_iff.mpr hign).symm

theorem not_busy_of_not_ignores {g : Segment} (h : ¬ g.ignores = true) : g.status.busy = false := by
  rw [← Bool.not_eq_true, busy_iff]
  rintro (hs | hs) <;> exact h (by simp [Segment.ignores, hs])

/-- R81, R83, R84: what a copy, waiting or carried out alone, leaves of its segment. The BOUNDARY copies that are
carried out are carried out after it, together. -/
def Segment.copyWritten (g : Segment) (atOnce : Bool) (m : ApplyMode) : Segment :=
  match m with
  | .now => if atOnce then { g with active := g.active.takeNow g.staged, status := .done, waiting := none }
    else { g with status := .pending, waiting := some .now }
  | .boundary => if atOnce then g else { g with status := .pending, waiting := some .boundary }

theorem setSeg_get_self (i : Fin 6) (s : State) : s.setSeg i (s.segs.get i) = s :=
  congrArg (fun v => { s with segs := v }) (Six.set_get_self ..)

/-- R83: a NOW copy of a segment for which no other waits or moves. -/
theorem nowCopy_eq {i : Fin 6} {s : State} (h : (s.segs.get i).status.busy = false) :
    s.nowCopy i = s.setSeg i ((s.segs.get i).copyWritten true .now) := by
  refine (setStatus_of_idle (st := .done) ?_ (by decide)).trans ?_
  · rw [setSeg_get_same]
    exact h
  · rw [setSeg_get_same, setSeg_setSeg]
    rfl

/-- R81: one segment of the request. -/
theorem applySeg_eq {mode : Nat} {m : ApplyMode} (hm : m = .now ↔ mode = 1) (atOnce : Bool) (s : State) (i : Fin 6) :
    s.applySeg m atOnce i = s.setSeg i ((s.segs.get i).outcome mode fun g => g.copyWritten atOnce m) := by
  unfold State.applySeg
  rw [applyOutcome_eq hm, Segment.outcome]
  by_cases hign : (s.segs.get i).ignores = true
  · rw [if_pos hign, if_pos hign]
    exact (setSeg_get_self i s).symm
  rw [if_neg hign, if_neg hign]
  have hidle := not_busy_of_not_ignores hign
  by_cases hfault : (s.segs.get i).state = .faulted
  · rw [if_pos hfault, if_pos hfault]
    exact setStatus_of_idle (st := .rejFaulted) hidle (by decide)
  rw [if_neg hfault, if_neg hfault]
  by_cases hnot : mode = 1 ∧ (s.segs.get i).needsBoundary = true
  · rw [if_pos hnot, if_pos hnot]
    exact setStatus_of_idle (st := .rejNotNow) hidle (by decide)
  rw [if_neg hnot, if_neg hnot]
  cases m with
  | now =>
    cases atOnce with
    | true => exact nowCopy_eq hidle
    | false => rfl
  | boundary =>
    cases atOnce with
    | true => exact (setSeg_get_self i s).symm
    | false => rfl

/-- R81: the segments of the mask after their outcomes, where `copy` is what a copy leaves of one. -/
def State.applied (mask mode : Nat) (copy : Segment → Segment) (s : State) : State :=
  { s with segs := Six.tabulate fun i =>
      if mask.testBit i.val then (s.segs.get i).outcome mode copy else s.segs.get i }

theorem foldl_applySeg {mode : Nat} {m : ApplyMode} (hm : m = .now ↔ mode = 1) (mask : Nat) (atOnce : Bool) (s : State) :
    (maskSegs mask).foldl (State.applySeg m atOnce) s = s.applied mask mode fun g => g.copyWritten atOnce m := by
  rw [foldl_setSeg_eq (h := fun _ g => g.outcome mode fun g => g.copyWritten atOnce m) (applySeg_eq hm atOnce)
    (nodup_maskSegs mask), State.applied]
  simp only [mem_maskSegs]

theorem applied_get_of_copies {mask mode : Nat} {copy : Segment → Segment} {s : State} {i : Fin 6}
    (hi : mask.testBit i.val = true) (h : (s.segs.get i).copies mode = true) :
    (s.applied mask mode copy).segs.get i = copy (s.segs.get i) := by
  rw [State.applied, Six.get_tabulate, if_pos hi, outcome_of_copies h]

theorem mem_segsWith_copies {mask mode : Nat} {m : ApplyMode} (hm : m = .now ↔ mode = 1) {s : State} {i : Fin 6} :
    i ∈ s.segsWith mask m ApplyOutcome.isCopy ↔ mask.testBit i.val = true ∧ (s.segs.get i).copies mode = true := by
  rw [State.segsWith, List.mem_filter, mem_maskSegs, copies_eq hm]

theorem segsWith_ignored (mask : Nat) {mode : Nat} {m : ApplyMode} (hm : m = .now ↔ mode = 1) (s : State) :
    s.segsWith mask m ApplyOutcome.isIgnored = (maskSegs mask).filter fun i => (s.segs.get i).ignores := by
  simp only [State.segsWith, ignored_eq hm]

theorem applyAll_waits {mask mode : Nat} {m : ApplyMode} (hm : m = .now ↔ mode = 1) {s : State}
    (h : s.copyAtOnce m = false) : s.applyAll mask m = s.applied mask mode fun g => g.copyWritten false m := by
  unfold State.applyAll
  rw [h]
  cases m <;> exact foldl_applySeg hm mask false s

theorem applyAll_now {mask : Nat} {s : State} (h : s.copyAtOnce .now = true) :
    s.applyAll mask .now = s.applied mask 1 fun g => g.copyWritten true .now := by
  unfold State.applyAll
  rw [h]
  exact foldl_applySeg (mode := 1) (m := .now) (by decide) mask true s

theorem applyAll_boundary {mask : Nat} {s : State} (h : s.copyAtOnce .boundary = true) :
    s.applyAll mask .boundary =
      (s.applied mask 0 fun g => g).boundaryCopies (s.segsWith mask .boundary ApplyOutcome.isCopy) := by
  unfold State.applyAll
  rw [h]
  exact congrArg (State.boundaryCopies (s.segsWith mask .boundary ApplyOutcome.isCopy))
    (foldl_applySeg (mode := 0) (m := .boundary) (by decide) mask true s)

theorem someCopied_iff {is : List (Fin 6)} {s : State} : s.someCopied is = true ↔
    ∃ i ∈ is, (s.segs.get i).status = .done ∨ (s.segs.get i).status = .inProgress := by
  simp [State.someCopied]

/-- R81: what an accepted SEG-APPLY of a mask answers, from the state it leaves. -/
def applyAnswered (tag : Byte) (mask : Nat) (s t : State) : Host.Outcome State Fault Refusal :=
  .next (if (maskSegs mask).filter (fun i => (s.segs.get i).ignores) = [] then
      State.replied 0x11#8 tag .ok (perSegment 1 mask fun i => u8 (t.segs.get i).status.byte) t
    else State.replied 0x11#8 tag .partial_
      (u8 (segMask (Six.tabulate fun i => decide (i ∈ (maskSegs mask).filter fun i => (s.segs.get i).ignores)))
        ++ perSegment 1 mask fun i => u8 (t.segs.get i).status.byte) t)

/-- R81: an accepted SEG-APPLY. -/
theorem exec_segApply {tag : Byte} {mask mode : Nat} {m : ApplyMode} {s t : State} (ha : s.Accepts tag)
    (hm : applyModeOf? mode = some m) (hmask : maskOk mask = true) (hl : s.seq.line ≠ .estop)
    (ht : (if (s.processing.applyAll mask m).someCopied (s.processing.segsWith mask m ApplyOutcome.isCopy) = true then
      State.reevaluateSince s.processing (s.processing.applyAll mask m) else s.processing.applyAll mask m) = t) :
    exec (.segApply tag mask mode) s = applyAnswered tag mask s t := by
  have hreq : ∀ {u : State} {code : ResultCode} {items : List Byte},
      State.reqSegApply mask mode s.processing = (u, ⟨code, items⟩) →
      exec (.segApply tag mask mode) s = .next (State.replied 0x11#8 tag code items u) :=
    fun hr => exec_request_accepted (r := .segApply mask mode) rfl ha hr
  have hign : s.processing.segsWith mask m ApplyOutcome.isIgnored =
      (maskSegs mask).filter fun i => (s.segs.get i).ignores := segsWith_ignored mask (mode_of_applyMode hm) s.processing
  have hrun : State.reqSegApply mask mode s.processing =
      if (s.processing.segsWith mask m ApplyOutcome.isIgnored).isEmpty then answered .ok (statusItemsOf mask) t
      else answered .partial_ (fun u => u8 (maskByte (s.processing.segsWith mask m ApplyOutcome.isIgnored))
        ++ statusItemsOf mask u) t := by
    unfold State.reqSegApply
    rw [hm]
    refine (if_neg (by rw [hmask]; decide)).trans ((if_neg (by rwa [processing_seq])).trans ?_)
    dsimp only
    rw [ht]
  rw [hign] at hrun
  rw [applyAnswered]
  split_ifs with hnone
  · exact hreq (hrun.trans (if_pos (by rw [hnone]; rfl)))
  · exact hreq (hrun.trans (if_neg (by rwa [List.isEmpty_iff])))

/-! ### Copies carried out together -/

theorem setStatus_segs (i : Fin 6) (st : ConfigStatus) (s : State) : (s.setStatus i st).segs =
    s.segs.set i { s.segs.get i with
      status := st, waiting := if st = .pending then (s.segs.get i).waiting else none } := by
  unfold State.setStatus
  dsimp only
  split <;> rfl

theorem setSegState_segs (i : Fin 6) (st : SegState) (s : State) :
    (s.setSegState i st).segs = s.segs.set i { s.segs.get i with state := st } := by
  unfold State.setSegState
  split
  · next h => rw [← h, Six.set_get_self]
  · rfl

/-- R85, R87, R88: what a BOUNDARY copy carried out leaves of its segment. -/
def Segment.boundaryCopied (g : Segment) : Segment :=
  if g.active.engage = g.staged.engage then { g with active := g.staged, status := .done, waiting := none }
  else if g.staged.engage = true then
    { g with active := g.staged, state := .engaging, drive := .home, status := .inProgress, waiting := none }
  else { g with active := g.staged, state := .parking, drive := .park, status := .inProgress, waiting := none }

theorem boundaryCopy_segs (i : Fin 6) (s : State) :
    (s.boundaryCopy i).segs = s.segs.set i (s.segs.get i).boundaryCopied := by
  unfold State.boundaryCopy Segment.boundaryCopied
  dsimp only
  split
  · rw [setStatus_segs, setSeg_get_same]
    exact Six.set_set ..
  · split <;>
    · rw [setStatus_segs, State.setDrive, setSeg_get_same, setSegState_segs, Six.get_set_same, setSeg_get_same]
      simp only [setSeg_segs, setSegState_segs, Six.set_set]
      rfl

/-- R85: what the joint copy leaves of a segment. -/
def Segment.joined (refuse : Bool) (g : Segment) : Segment :=
  if refuse = true ∧ g.active.engage = true ∧ g.staged.engage = false then
    { g with status := .rejLastSegment, waiting := none }
  else g.boundaryCopied

theorem jointCopy_segs (refuse : Bool) (s : State) (i : Fin 6) :
    (s.jointCopy refuse i).segs = s.segs.set i ((s.segs.get i).joined refuse) := by
  unfold State.jointCopy Segment.joined Segment.turnsOff
  simp only [Bool.and_eq_true, Bool.not_eq_true']
  split
  · exact setStatus_segs ..
  · exact boundaryCopy_segs ..

theorem foldl_segs_get {f : State → Fin 6 → State} {h : Segment → Segment}
    (hf : ∀ s i, (f s i).segs = s.segs.set i (h (s.segs.get i))) {l : List (Fin 6)} (hl : l.Nodup) (s : State)
    (i : Fin 6) : (l.foldl f s).segs.get i = if i ∈ l then h (s.segs.get i) else s.segs.get i := by
  induction l generalizing s with
  | nil => rfl
  | cons j l ih =>
    obtain ⟨hj, hl⟩ := List.nodup_cons.mp hl
    rw [List.foldl_cons, ih hl, hf]
    by_cases hij : i = j
    · subst hij; simp [hj]
    · simp [hij, Six.get_set_of_ne]

theorem outcome_of_not_copies {mode : Nat} {c d : Segment → Segment} {g : Segment} (h : ¬ g.copies mode = true) :
    g.outcome mode c = g.outcome mode d := by
  rw [copies_iff] at h
  unfold Segment.outcome
  split_ifs with hign hfault hnot
  · rfl
  · rfl
  · rfl
  · exact absurd ⟨hign, hfault, hnot⟩ h

theorem outcome_engage (mode : Nat) (g : Segment) : (g.outcome mode fun g => g).active.engage = g.active.engage
    ∧ (g.outcome mode fun g => g).staged.engage = g.staged.engage := by
  unfold Segment.outcome
  split_ifs <;> exact ⟨rfl, rfl⟩

theorem applied_get (mask mode : Nat) (copy : Segment → Segment) (s : State) (i : Fin 6) :
    (s.applied mask mode copy).segs.get i =
      if mask.testBit i.val then (s.segs.get i).outcome mode copy else s.segs.get i := Six.get_tabulate ..

theorem applied_engage (mask mode : Nat) (s : State) (i : Fin 6) :
    ((s.applied mask mode fun g => g).segs.get i).active.engage = (s.segs.get i).active.engage
      ∧ ((s.applied mask mode fun g => g).segs.get i).staged.engage = (s.segs.get i).staged.engage := by
  rw [applied_get]
  split
  · exact outcome_engage ..
  · exact ⟨rfl, rfl⟩

theorem joined_status (refuse : Bool) (g : Segment) : (g.joined refuse).status ≠ .rejLastSegment ↔
    (g.joined refuse).status = .done ∨ (g.joined refuse).status = .inProgress := by
  unfold Segment.joined Segment.boundaryCopied
  split_ifs <;> simp

/-- R83, R84: where a line stands for a copy. -/
theorem copyAtOnce_of_moving {m : ApplyMode} {s : State}
    (h : s.seq.line = .running ∨ s.seq.line = .holding ∨ s.seq.line = .draining) : s.copyAtOnce m = false := by
  unfold State.copyAtOnce
  rcases h with h | h | h <;> rw [h] <;> rfl

theorem line_standing_iff (l : LineState) : l.standing = true ↔ l = .idle ∨ l = .waiting ∨ l = .held := by
  cases l <;> decide

theorem copyAtOnce_now_iff (s : State) : s.copyAtOnce .now = true ↔
    (s.seq.line = .idle ∨ s.seq.line = .waiting ∨ s.seq.line = .held) ∧ s.seq.step = none := by
  simp [State.copyAtOnce, line_standing_iff]

theorem copyAtOnce_boundary_iff (s : State) : s.copyAtOnce .boundary = true ↔
    (s.seq.line = .idle ∨ s.seq.line = .waiting ∨ s.seq.line = .held) ∧ s.forming? = none ∧ s.seq.step = none := by
  simp [State.copyAtOnce, line_standing_iff, State.atPanelBoundary]

theorem applyMode_of_le {mode : Nat} (h : mode ≤ 1) : applyModeOf? mode = some (if mode = 0 then .boundary else .now) := by
  match mode, h with
  | 0, _ | 1, _ => rfl

theorem applyMode_of_gt {mode : Nat} (h : 1 < mode) : applyModeOf? mode = none := by
  match mode, h with
  | n + 2, _ => rfl

/-- R81, R83, R84: a request whose copies wait. -/
theorem exec_segApply_waits {tag : Byte} {mask mode : Nat} {m : ApplyMode} {s : State} (ha : s.Accepts tag)
    (hm : applyModeOf? mode = some m) (hmask : maskOk mask = true) (hl : s.seq.line ≠ .estop)
    (hw : s.copyAtOnce m = false) : exec (.segApply tag mask mode) s = applyAnswered tag mask s
      (s.processing.applied mask mode fun g => { g with status := .pending, waiting := some m }) := by
  have hmode := mode_of_applyMode hm
  have hall : s.processing.applyAll mask m =
      s.processing.applied mask mode fun g => { g with status := .pending, waiting := some m } := by
    rw [applyAll_waits (s := s.processing) hmode hw]
    cases m <;> rfl
  refine exec_segApply ha hm hmask hl ((if_neg fun hcopied => ?_).trans hall)
  obtain ⟨i, hi, hstatus⟩ := someCopied_iff.mp hcopied
  obtain ⟨hbit, hcopies⟩ := (mem_segsWith_copies hmode).mp hi
  rw [hall, applied_get_of_copies hbit hcopies] at hstatus
  rcases hstatus with h | h <;> simp at h

/-- R83: a NOW request whose copies are carried out at once. -/
theorem exec_segApply_now {tag : Byte} {mask : Nat} {s : State} (ha : s.Accepts tag) (hmask : maskOk mask = true)
    (hl : s.seq.line ≠ .estop) (hw : s.copyAtOnce .now = true) :
    exec (.segApply tag mask 1) s = applyAnswered tag mask s
      (if (maskSegs mask).any (fun i => (s.segs.get i).copies 1) = true then
        State.thenReevaluate s (s.processing.applied mask 1 fun g => g.copyWritten true .now)
      else s.processing.applied mask 1 fun g => g.copyWritten true .now) := by
  have hmode : ApplyMode.now = .now ↔ 1 = 1 := by decide
  have hall := applyAll_now (mask := mask) (s := s.processing) hw
  have hcopied : (s.processing.applied mask 1 fun g => g.copyWritten true .now).someCopied
      (s.processing.segsWith mask .now ApplyOutcome.isCopy) = (maskSegs mask).any fun i => (s.segs.get i).copies 1 := by
    rw [Bool.eq_iff_iff, someCopied_iff, List.any_eq_true]
    constructor
    · rintro ⟨i, hi, -⟩
      obtain ⟨hbit, hcopies⟩ := (mem_segsWith_copies hmode).mp hi
      exact ⟨i, mem_maskSegs.mpr hbit, hcopies⟩
    · rintro ⟨i, hi, hcopies⟩
      refine ⟨i, (mem_segsWith_copies hmode).mpr ⟨mem_maskSegs.mp hi, hcopies⟩, .inl ?_⟩
      rw [applied_get_of_copies (s := s.processing) (mem_maskSegs.mp hi) hcopies]
      rfl
  refine exec_segApply ha (m := .now) rfl hmask hl ?_
  rw [hall, hcopied, reevaluateSince_eq (before := s) (u := s.processing)
    (s := s.processing.applied mask 1 fun g => g.copyWritten true .now) rfl fun h => h]

/-- R85: what a BOUNDARY request leaves whose copies are carried out at once. -/
def State.jointlyApplied (mask : Nat) (s : State) : State :=
  (s.applied mask 0 fun g => g).boundaryCopies (s.segsWith mask .boundary ApplyOutcome.isCopy)

/-- R85: the joint test. -/
def State.jointRefuses (mask : Nat) (s : State) : Bool :=
  decide (s.seq.line ≠ .idle)
    && !(s.applied mask 0 fun g => g).engageAfter (s.segsWith mask .boundary ApplyOutcome.isCopy)

theorem boundary_mode : ApplyMode.boundary = .now ↔ 0 = 1 := by decide

theorem jointRefuses_iff (mask : Nat) (s : State) : s.jointRefuses mask = true ↔ s.seq.line ≠ .idle ∧
    ∀ i, (if mask.testBit i.val = true ∧ (s.segs.get i).copies 0 = true then (s.segs.get i).staged.engage
      else (s.segs.get i).active.engage) = false := by
  simp only [State.jointRefuses, State.engageAfter, applied_engage, mem_segsWith_copies boundary_mode, Bool.and_eq_true,
    decide_eq_true_eq, Bool.not_eq_true', List.any_eq_false, Bool.not_eq_true]
  exact and_congr_right fun _ => ⟨fun h i => h i (mem_segIndices i), fun h i _ => h i⟩

/-- R81, R85: each segment after a BOUNDARY request whose copies are carried out at once. -/
theorem jointlyApplied_get (mask : Nat) (s : State) (i : Fin 6) : (s.jointlyApplied mask).segs.get i =
    if mask.testBit i.val then (s.segs.get i).outcome 0 (Segment.joined (s.jointRefuses mask)) else s.segs.get i := by
  have hnodup : (s.segsWith mask .boundary ApplyOutcome.isCopy).Nodup := (nodup_maskSegs mask).filter _
  refine (foldl_segs_get (jointCopy_segs (s.jointRefuses mask)) hnodup _ i).trans ?_
  by_cases hcopy : mask.testBit i.val = true ∧ (s.segs.get i).copies 0 = true
  · obtain ⟨hbit, hcopies⟩ := hcopy
    rw [if_pos ((mem_segsWith_copies boundary_mode).mpr ⟨hbit, hcopies⟩), if_pos hbit,
      applied_get_of_copies hbit hcopies, outcome_of_copies hcopies]
  · rw [if_neg (mt (mem_segsWith_copies boundary_mode).mp hcopy), applied_get]
    split
    · next hbit => exact outcome_of_not_copies fun h => hcopy ⟨hbit, h⟩
    · rfl

theorem segsAlone_jointlyApplied (mask : Nat) (s : State) : s.SegsAlone (s.jointlyApplied mask) := by
  have happlied : s.SegsAlone (s.applied mask 0 fun g => g) := ⟨by constructor <;> rfl, rfl, rfl⟩
  exact happlied.trans (State.segsAlone_boundaryCopies _ _)

/-- R85: a BOUNDARY request whose copies are carried out at once. -/
theorem exec_segApply_boundary {tag : Byte} {mask : Nat} {s : State} (ha : s.Accepts tag) (hmask : maskOk mask = true)
    (hl : s.seq.line ≠ .estop) (hw : s.copyAtOnce .boundary = true) :
    exec (.segApply tag mask 0) s = applyAnswered tag mask s
      (if (maskSegs mask).any (fun i => (s.segs.get i).copies 0 && decide
          (((s.processing.jointlyApplied mask).segs.get i).status ≠ .rejLastSegment)) = true then
        State.thenReevaluate s (s.processing.jointlyApplied mask)
      else s.processing.jointlyApplied mask) := by
  have hall : s.processing.applyAll mask .boundary = s.processing.jointlyApplied mask :=
    applyAll_boundary (s := s.processing) hw
  have hstatus (i : Fin 6) (hbit : mask.testBit i.val = true) (hcopies : (s.segs.get i).copies 0 = true) :
      ((s.processing.jointlyApplied mask).segs.get i).status ≠ .rejLastSegment ↔
        ((s.processing.jointlyApplied mask).segs.get i).status = .done
          ∨ ((s.processing.jointlyApplied mask).segs.get i).status = .inProgress := by
    rw [jointlyApplied_get, if_pos hbit, processing_segs, outcome_of_copies hcopies]
    exact joined_status ..
  have hcopied : (s.processing.jointlyApplied mask).someCopied (s.processing.segsWith mask .boundary ApplyOutcome.isCopy)
      = (maskSegs mask).any fun i => (s.segs.get i).copies 0 && decide
          (((s.processing.jointlyApplied mask).segs.get i).status ≠ .rejLastSegment) := by
    rw [Bool.eq_iff_iff, someCopied_iff, List.any_eq_true]
    simp only [Bool.and_eq_true, decide_eq_true_eq]
    constructor
    · rintro ⟨i, hi, hdone⟩
      obtain ⟨hbit, hcopies⟩ := (mem_segsWith_copies boundary_mode).mp hi
      exact ⟨i, mem_maskSegs.mpr hbit, hcopies, (hstatus i hbit hcopies).mpr hdone⟩
    · rintro ⟨i, hi, hcopies, hdone⟩
      have hbit := mem_maskSegs.mp hi
      exact ⟨i, (mem_segsWith_copies boundary_mode).mpr ⟨hbit, hcopies⟩, (hstatus i hbit hcopies).mp hdone⟩
  have hseq := (segsAlone_jointlyApplied mask s.processing).seq
  refine exec_segApply ha (m := .boundary) rfl hmask hl ?_
  rw [hall, hcopied, reevaluateSince_eq (before := s) (u := s.processing) rfl fun h => by rwa [hseq]]

/-- Settles O27. -/
theorem segApplyBySegment : Obligations.SegApplyBySegment := by
  intro tag mask mode s ha taken ignored needsBoundary copied waits outcome after nowCopied turned answer stands
  have hreq : ∀ {u : State} {code : ResultCode} {items : List Byte},
      State.reqSegApply mask mode s.processing = (u, ⟨code, items⟩) →
      exec (.segApply tag mask mode) s = .next (State.replied 0x11#8 tag code items u) :=
    fun hr => exec_request_accepted (r := .segApply mask mode) rfl ha hr
  have hestop (h : stands) : s.seq.line ≠ .estop := by rcases h with h | h | h <;> rw [h] <;> decide
  refine ⟨fun hbad => hreq ?_, fun ⟨hmask, hmode⟩ hl => hreq ?_, fun ⟨hmask, hmode⟩ hwait => ?_,
    fun ⟨hmask, hmode⟩ hst hstep hnow => ?_, ?_⟩
  · by_cases hmode : mode ≤ 1
    · have hmask : maskOk mask = false := by
        rw [← Bool.not_eq_true, maskOk_iff]
        exact fun h => hbad ⟨h, hmode⟩
      unfold State.reqSegApply
      rw [applyMode_of_le hmode, hmask]
      rfl
    · unfold State.reqSegApply
      rw [applyMode_of_gt (Nat.not_le.mp hmode)]
      rfl
  · unfold State.reqSegApply
    rw [applyMode_of_le hmode, maskOk_iff.mpr hmask]
    exact (if_neg (by decide)).trans (if_pos hl)
  · refine exec_segApply_waits ha (applyMode_of_le hmode) (maskOk_iff.mpr hmask) ?_ ?_
    · rcases hwait with (h | h | h) | ⟨hst, -⟩
      · rw [h]; decide
      · rw [h]; decide
      · rw [h]; decide
      · exact hestop hst
    · rcases hwait with hmoving | ⟨-, hstep⟩
      · exact copyAtOnce_of_moving hmoving
      · rw [← Bool.not_eq_true]
        by_cases hzero : mode = 0
        · rw [show waits = .boundary from if_pos hzero, copyAtOnce_boundary_iff]
          rintro ⟨-, hforming, hnone⟩
          simp [hforming, hnone] at hstep
        · rw [show waits = .now from if_neg hzero, copyAtOnce_now_iff]
          rintro ⟨-, hnone⟩
          simp [hnone, hzero] at hstep
  · subst hnow
    exact exec_segApply_now ha (maskOk_iff.mpr hmask) (hestop hst) ((copyAtOnce_now_iff s).mpr ⟨hst, hstep⟩)
  · rintro ⟨hmask, -⟩ hst hstep hforming rfl on refuse
    refine ⟨s.processing.jointlyApplied mask, ?_, (segsAlone_jointlyApplied mask _).seq,
      (segsAlone_jointlyApplied mask _).track, fun i => ?_⟩
    · exact exec_segApply_boundary ha (maskOk_iff.mpr hmask) (hestop hst)
        ((copyAtOnce_boundary_iff s).mpr ⟨hst, hforming, hstep⟩)
    · have hrefuse : s.processing.jointRefuses mask = true ↔ refuse := jointRefuses_iff ..
      rw [jointlyApplied_get]
      unfold Segment.joined
      simp only [hrefuse]
      rfl

/-! ### One BOUNDARY copy -/

theorem maskSegs_single (i : Fin 6) : maskSegs (2 ^ i.val) = [i] := by
  revert i
  decide

theorem maskOk_single (i : Fin 6) : maskOk (2 ^ i.val) = true := by
  revert i
  decide

theorem testBit_single (i j : Fin 6) : (2 ^ i.val).testBit j.val = true ↔ j = i := by
  rw [← mem_maskSegs, maskSegs_single, List.mem_singleton]

/-- R87, R88: a copy that moves its segment. -/
theorem startMove_eq {i : Fin 6} {g : Segment} {st : SegState} {d : Drive} {s : State} (hbusy : g.status.busy = false)
    (hst : g.state ≠ st) : (((s.setSeg i g).setSegState i st).setDrive i d).setStatus i .inProgress =
      (s.setSeg i { g with state := st, drive := d, status := .inProgress, waiting := none }).raise (.segState i) := by
  have hdrive : ((s.setSeg i g).setSegState i st).setDrive i d =
      (s.raise (.segState i)).setSeg i { g with state := st, drive := d } := by
    rw [setSegState_setSeg hst]
    exact setDrive_setSeg i { g with state := st } d (s.raise (.segState i))
  rw [hdrive, setStatus_of_idle (by rwa [setSeg_get_same]) (by decide), setSeg_get_same, setSeg_setSeg]
  rfl

/-- R85, R87, R88: a BOUNDARY copy carried out of a segment that neither waits nor moves. -/
theorem boundaryCopy_eq {i : Fin 6} {s : State} (hbusy : (s.segs.get i).status.busy = false)
    (hengaging : (s.segs.get i).state ≠ .engaging) (hparking : (s.segs.get i).state ≠ .parking) :
    s.boundaryCopy i = if (s.segs.get i).active.engage = (s.segs.get i).staged.engage then
        s.setSeg i (s.segs.get i).boundaryCopied
      else (s.setSeg i (s.segs.get i).boundaryCopied).raise (.segState i) := by
  unfold State.boundaryCopy Segment.boundaryCopied
  dsimp only
  split
  · rw [setStatus_of_idle (by rwa [setSeg_get_same]) (by decide), setSeg_get_same, setSeg_setSeg]
  · split
    · exact startMove_eq (g := { s.segs.get i with active := (s.segs.get i).staged }) hbusy hengaging
    · exact startMove_eq (g := { s.segs.get i with active := (s.segs.get i).staged }) hbusy hparking

/-- Settles O28. -/
theorem boundaryCopyMovesSegment : Obligations.BoundaryCopyMovesSegment := by
  intro tag i s ha g hst hforming hstep hpending hprogress hengaging hparking hfault put answer
  have hign : ¬ g.ignores = true := by simp [Segment.ignores, hpending, hprogress, hengaging, hparking]
  have hcopies : g.copies 0 = true := copies_iff.mpr ⟨hign, hfault, by simp⟩
  have hlist : s.processing.segsWith (2 ^ i.val) .boundary ApplyOutcome.isCopy = [i] := by
    rw [State.segsWith, maskSegs_single]
    exact List.filter_eq_self.mpr (by simpa [copies_eq boundary_mode] using hcopies)
  have happlied : s.processing.applied (2 ^ i.val) 0 (fun g => g) = s.processing := by
    refine congrArg (fun v => { s.processing with segs := v }) (Six.ext_get fun j => ?_)
    rw [Six.get_tabulate]
    split
    · next hbit =>
      obtain rfl := (testBit_single i j).mp hbit
      exact outcome_of_copies hcopies
    · rfl
  have hjoint : s.processing.jointlyApplied (2 ^ i.val) =
      s.processing.jointCopy (s.processing.jointRefuses (2 ^ i.val)) i := by
    unfold State.jointlyApplied State.jointRefuses
    rw [hlist, happlied]
    rfl
  have hrefuse : s.processing.jointRefuses (2 ^ i.val) = true ∧ g.turnsOff = true ↔ s.seq.line ≠ .idle
      ∧ g.active.engage = true ∧ g.staged.engage = false ∧ ∀ j, j ≠ i → (s.segs.get j).active.engage = false := by
    rw [jointRefuses_iff, Segment.turnsOff]
    simp only [testBit_single, Bool.and_eq_true, Bool.not_eq_true']
    constructor
    · rintro ⟨⟨hl, hoff⟩, hactive, hstaged⟩
      exact ⟨hl, hactive, hstaged, fun j hj => by simpa [hj] using hoff j⟩
    · rintro ⟨hl, hactive, hstaged, hoff⟩
      refine ⟨⟨hl, fun j => ?_⟩, hactive, hstaged⟩
      by_cases hj : j = i
      · subst hj
        rw [if_pos ⟨rfl, hcopies⟩]
        exact hstaged
      · rw [if_neg fun h => hj h.1]
        exact hoff j hj
  have hanswer (t : State) : applyAnswered tag (2 ^ i.val) s t = answer t := by
    rw [applyAnswered, perSegment, maskSegs_single]
    exact congrArg _ (if_pos (by simpa using hign))
  have hestop : s.seq.line ≠ .estop := by rcases hst with h | h | h <;> rw [h] <;> decide
  refine (exec_segApply_boundary ha (maskOk_single i) hestop
    ((copyAtOnce_boundary_iff s).mpr ⟨hst, hforming, hstep⟩)).trans ?_
  have hbusy := not_busy_of_not_ignores hign
  rw [hanswer, hjoint, maskSegs_single]
  have hany (t : State) : ([i].any fun j => (s.segs.get j).copies 0 && decide ((t.segs.get j).status ≠ .rejLastSegment))
      = decide ((t.segs.get i).status ≠ .rejLastSegment) := by
    rw [List.any_cons, List.any_nil, Bool.or_false, show (s.segs.get i).copies 0 = true from hcopies, Bool.true_and]
  rw [hany]
  by_cases hlast : s.seq.line ≠ .idle ∧ g.active.engage = true ∧ g.staged.engage = false
      ∧ ∀ j, j ≠ i → (s.segs.get j).active.engage = false
  · have hcopy : s.processing.jointCopy (s.processing.jointRefuses (2 ^ i.val)) i =
        put { g with status := .rejLastSegment, waiting := none } :=
      (if_pos (Bool.and_eq_true_iff.mpr (hrefuse.mpr hlast))).trans (setStatus_of_idle hbusy (by decide))
    rw [if_pos hlast, hcopy, if_neg]
    simp [put]
  · have hcopy : s.processing.jointCopy (s.processing.jointRefuses (2 ^ i.val)) i = s.processing.boundaryCopy i :=
      if_neg (mt Bool.and_eq_true_iff.mp (mt hrefuse.mp hlast))
    have hstatus : ((s.processing.boundaryCopy i).segs.get i).status ≠ .rejLastSegment := by
      rw [boundaryCopy_segs, Six.get_set_same]
      unfold Segment.boundaryCopied
      split_ifs <;> simp
    have hcopied : s.processing.boundaryCopy i = if g.active.engage = g.staged.engage then put g.boundaryCopied
        else (put g.boundaryCopied).raise (.segState i) := boundaryCopy_eq (s := s.processing) hbusy hengaging hparking
    rw [if_neg hlast, hcopy, if_pos (decide_eq_true hstatus), hcopied, Segment.boundaryCopied]
    by_cases hsame : g.active.engage = g.staged.engage
    · rw [if_pos hsame, if_pos hsame, if_pos hsame]
    · rw [if_neg hsame, if_neg hsame, if_neg hsame]
      by_cases hon : g.staged.engage = true
      · rw [if_pos hon, if_pos hon]
      · rw [if_neg hon, if_neg hon]

/-! ## SEG-CLEAR -/

/-- R86: SEG_STATE raised for each segment of a list. -/
def State.raiseStates (is : List (Fin 6)) (s : State) : State := is.foldl (fun t i => State.raise (.segState i) t) s

theorem raiseStates_setSeg (is : List (Fin 6)) (i : Fin 6) (g : Segment) (s : State) :
    (s.setSeg i g).raiseStates is = (s.raiseStates is).setSeg i g := by
  induction is generalizing s with
  | nil => rfl
  | cons j is ih => exact ih (s.raise (.segState j))

theorem segsAlone_raiseStates (is : List (Fin 6)) (s : State) : s.SegsAlone (s.raiseStates is) :=
  .foldl (fun _ _ => State.segsAlone_raise _ _) is s

/-- R91: a FAULTED segment that is cleared. -/
def Segment.cleared (g : Segment) : Segment := { g with drive := .park, state := .parking }

theorem clearSeg_of_faulted {i : Fin 6} {s : State} (h : (s.segs.get i).state = .faulted) :
    s.clearSeg i = (s.raise (.segState i)).setSeg i (s.segs.get i).cleared := by
  refine (if_pos h).trans (setSegState_setSeg (g := { s.segs.get i with drive := .park }) ?_)
  rw [h]
  decide

/-- R91: segments cleared together. -/
def State.segsCleared (is : List (Fin 6)) (s : State) : State :=
  { s.raiseStates is with
    segs := Six.tabulate fun i => if i ∈ is then (s.segs.get i).cleared else s.segs.get i }

/-- R91: the FAULTED segments of a list are those cleared. -/
theorem foldl_clearSeg {l : List (Fin 6)} (hl : l.Nodup) (s : State) : l.foldl State.clearSeg s =
    s.segsCleared (l.filter fun i => decide ((s.segs.get i).state = .faulted)) := by
  simp only [State.segsCleared]
  induction l generalizing s with
  | nil =>
    have hsame : Six.tabulate s.segs.get = s.segs := Six.ext_get fun i => by simp
    simp [hsame, State.raiseStates]
  | cons j l ih =>
    obtain ⟨hj, hl⟩ := List.nodup_cons.mp hl
    rw [List.foldl_cons]
    by_cases hfault : (s.segs.get j).state = .faulted
    · have hget (i : Fin 6) (hi : i ∈ l) :
          ((s.raise (.segState j)).setSeg j (s.segs.get j).cleared).segs.get i = s.segs.get i :=
        setSeg_get_of_ne _ (s.raise (.segState j)) fun h => hj (h ▸ hi)
      have hfilter : l.filter (fun i => decide
          ((((s.raise (.segState j)).setSeg j (s.segs.get j).cleared).segs.get i).state = .faulted)) =
          l.filter fun i => decide ((s.segs.get i).state = .faulted) :=
        List.filter_congr fun i hi => by rw [hget i hi]
      rw [clearSeg_of_faulted hfault, ih hl, hfilter, List.filter_cons_of_pos (by simpa using hfault), raiseStates_setSeg]
      refine congrArg (fun v => { (s.raise (.segState j)).raiseStates
        (l.filter fun i => decide ((s.segs.get i).state = .faulted)) with segs := v }) (Six.ext_get fun i => ?_)
      rw [Six.get_tabulate, Six.get_tabulate]
      by_cases hij : i = j
      · subst hij
        rw [if_neg fun h => hj (List.mem_of_mem_filter h), if_pos List.mem_cons_self, setSeg_get_same]
      · rw [setSeg_get_of_ne _ (s.raise (.segState j)) hij]
        simp [hij]
    · rw [State.clearSeg, if_neg hfault, ih hl, List.filter_cons_of_neg (by simpa using hfault)]

theorem standReady_get (i : Fin 6) (s : State) : s.standReady.segs.get i =
    if (s.segs.get i).state = .active then { s.segs.get i with state := .ready } else s.segs.get i := by
  refine (foldl_segs_get (h := fun g => if g.state = .active then { g with state := .ready } else g) ?_
    nodup_segIndices s i).trans (if_pos (mem_segIndices i))
  intro t j
  split
  · exact setSegState_segs ..
  · exact (Six.set_get_self ..).symm

theorem raise?_segs (f : Option Flag) (s : State) : (s.raise? f).segs = s.segs := by
  cases f <;> rfl

/-- R89: on entry into IDLE or HELD every ACTIVE segment enters READY. -/
theorem enter_get_standing {l : LineState} {s : State} (hl : l = .idle ∨ l = .held) (h : s.seq.line ≠ l) (i : Fin 6) :
    (s.enter l).segs.get i =
      if (s.segs.get i).state = .active then { s.segs.get i with state := .ready } else s.segs.get i := by
  rw [State.enter, if_neg h]
  rcases hl with rfl | rfl
  · exact (standReady_get i _).trans (by rw [raise?_segs, raise_segs, setSeq_segs])
  · exact (standReady_get i _).trans (by rw [raise?_segs, raise_segs, setSeq_segs])

theorem enter_segs_of_not_standing {l : LineState} {s : State} (hl : l ≠ .idle ∧ l ≠ .held) :
    (s.enter l).segs = s.segs := by
  rw [State.enter]
  split
  · rfl
  · cases l with
    | idle => exact absurd rfl hl.1
    | held => exact absurd rfl hl.2
    | waiting | running | holding | draining | estop => exact raise?_segs ..

theorem enter_get_of_not_active {l : LineState} {i : Fin 6} {s : State} (h : (s.segs.get i).state ≠ .active) :
    (s.enter l).segs.get i = s.segs.get i := by
  by_cases hsame : s.seq.line = l
  · rw [enter_same hsame]
  · by_cases hl : l = .idle ∨ l = .held
    · rw [enter_get_standing hl hsame, if_neg h]
    · rw [enter_segs_of_not_standing (not_or.mp hl)]

/-- Settles O32. -/
theorem segClearParksFaulted : Obligations.SegClearParksFaulted := by
  intro tag mask s ha run cleared segs faultLeft hold parked answer
  have hreq : ∀ {u : State} {code : ResultCode} {items : List Byte},
      State.reqSegClear mask s.processing = (u, ⟨code, items⟩) →
      run = .next (State.replied 0x12#8 tag code items u) :=
    fun hr => exec_request_accepted (r := .segClear mask) rfl ha hr
  have hcleared : (maskSegs mask).foldl State.clearSeg s.processing = s.processing.segsCleared cleared :=
    foldl_clearSeg (nodup_maskSegs mask) s.processing
  have hrun (hmask : 1 ≤ mask ∧ mask < 64) (hl : s.seq.line ≠ .estop) {t : State}
      (ht : (if cleared.isEmpty then (s.processing.segsCleared cleared)
        else State.reevaluateSince s (s.processing.segsCleared cleared).releaseFault) = t) :
      run = answer t := by
    have hmade : State.reqSegClear mask s.processing = answered .ok (clearItems cleared mask) t := by
      refine (if_neg (by rw [maskOk_iff.mpr hmask]; decide)).trans ((if_neg hl).trans ?_)
      dsimp only
      rw [hcleared]
      exact congrArg _ ht
    exact hreq hmade
  have hseq : (s.processing.segsCleared cleared).seq = s.seq := (segsAlone_raiseStates cleared s.processing).seq
  have hgone (hsome : cleared ≠ []) (hleft : ¬ faultLeft = true) : hold = { s.seq.hold with fault := false } :=
    if_neg (not_or.mpr ⟨hsome, hleft⟩)
  have hreleased (hsome : cleared ≠ []) (hleft : ¬ faultLeft = true) :
      ((s.processing.segsCleared cleared).setSeq fun q =>
        { q with hold := { q.hold with fault := false } }) = parked := by
    refine congrArg (fun q => { s.processing.segsCleared cleared with seq := q }) ?_
    rw [hseq]
    exact congrArg (fun h => { s.seq with hold := h }) (hgone hsome hleft).symm
  refine ⟨fun hbad => hreq (if_pos ?_), fun h1 h64 hl => hreq ?_, fun h1 h64 hl hstays => hrun ⟨h1, h64⟩ hl ?_,
    fun h1 h64 h hhold hsome hleft => ?_⟩
  · rw [Bool.not_eq_true', ← Bool.not_eq_true, maskOk_iff]
    omega
  · exact (if_neg (by rw [maskOk_iff.mpr ⟨h1, h64⟩]; decide)).trans (if_pos hl)
  · have hkept (h : cleared = [] ∨ faultLeft = true) : (s.processing.segsCleared cleared) = parked := by
      have hsame : parked.seq = s.seq := by
        show { s.seq with hold := hold } = s.seq
        rw [show hold = s.seq.hold from if_pos h]
      exact congrArg (fun q => { s.processing.segsCleared cleared with seq := q }) (hseq.trans hsame.symm)
    by_cases hnone : cleared = []
    · exact (if_pos (by rw [hnone]; rfl)).trans (hkept (.inl hnone))
    · have hwait : s.seq.line ≠ .waiting := by
        rcases hstays with h | h | h | h
        · exact absurd h hnone
        · rw [h]; decide
        · exact h.1
        · rw [h.1]; decide
      refine (if_neg (by simpa using hnone)).trans ((reevaluateSince_of_not_waiting hwait).trans ?_)
      by_cases hleft : faultLeft = true
      · exact (if_pos hleft).trans (hkept (.inr hleft))
      · refine (if_neg hleft).trans ((releaseHold_stays (s := s.processing.segsCleared cleared) ?_).trans (hreleased hnone hleft))
        rw [hseq]
        rcases hstays with h | h | h | h
        · exact absurd h hnone
        · exact .inr (.inr (.inl (by rw [h]; decide)))
        · exact absurd h.2 hleft
        · refine .inl ?_
          rcases h.2 with h | h | h <;> simp [HoldSet.nonEmpty, h]
  · have hw : (s.processing.segsCleared cleared).releaseFault = parked.leaveHeld := by
      refine (if_neg (by exact Bool.eq_false_iff.mp hleft)).trans ?_
      refine (releaseHold_held (s := s.processing.segsCleared cleared) ?_ ?_ ?_).trans
          (congrArg State.leaveHeld (hreleased hsome (Bool.eq_false_iff.mp hleft)))
      · rw [hseq, hhold]; rfl
      · rw [hseq, hhold]; rfl
      · rw [hseq, h]
    have hanswer : run = answer parked.leaveHeld := hrun ⟨h1, h64⟩ (by rw [h]; decide)
      ((if_neg (by simpa using hsome)).trans ((reevaluateSince_of_not_waiting (by rw [h]; decide)).trans hw))
    refine ⟨hanswer, fun hstop => ⟨parked.leaveHeld, hanswer, ?_⟩⟩
    have hseg (i : Fin 6) (hi : i ∈ cleared) : parked.segs.get i = (s.segs.get i).cleared :=
      (Six.get_tabulate ..).trans (if_pos hi)
    rw [leaveHeld_of_stopNow (s := parked) hstop]
    have halone := State.rccAlone_pressTest (parked.enter .idle)
    refine ⟨?_, ?_, fun i hi => ?_⟩
    · rw [State.enterIdle, halone.seq, enter_line]
    · rw [State.enterIdle, halone.seq, enter_hold]
      exact (hgone hsome (Bool.eq_false_iff.mp hleft)).trans (by rw [hhold])
    · rw [State.enterIdle, halone.segs, enter_get_of_not_active, hseg i hi]
      · rfl
      · rw [hseg i hi]
        exact SegState.noConfusion

end Sys2Proof.Machine
end

section
/-! PROOFS. LINE-STOP (O44), the end of a panel's forming, ORDER-CANCEL (O24). -/

namespace Sys2Proof.Machine

/-! ## LINE-STOP -/

theorem stopModeOf?_of_gt {n : Nat} (h : 2 ≤ n) : stopModeOf? n = none := by
  match n, h with
  | n + 2, _ => rfl

/-- R57: an accepted LINE-STOP NOW. -/
theorem reqLineStop_now {s : State} (h : s.seq.line ≠ .estop) : State.reqLineStop 0 s = okBare s.stopNow := if_neg h

/-- R57: an accepted LINE-STOP END_OF_PANEL. -/
theorem reqLineStop_end {s : State} (h : s.seq.line ≠ .estop) : State.reqLineStop 1 s = okBare s.stopAtEnd := if_neg h

theorem reqLineStop_estop {n : Nat} {s : State} (hn : n ≤ 1) (h : s.seq.line = .estop) :
    State.reqLineStop n s = refused .state s := by
  match n, hn with
  | 0, _ | 1, _ => exact if_pos h

/-- R57: a line that stands in WAITING or HELD stops in IDLE. -/
theorem stopNow_stands {s : State} (h : s.seq.line = .waiting ∨ s.seq.line = .held) : s.stopNow = s.enterIdle := by
  unfold State.stopNow
  rcases h with h | h <;> rw [h]

theorem stopNow_moves {s : State} (h : s.seq.line = .running ∨ s.seq.line = .draining) :
    s.stopNow = (s.setStop .now).enterHolding := by
  unfold State.stopNow
  rcases h with h | h <;> rw [h]

/-- R57: a RUNNING line that drains. -/
def State.drained (s : State) : State :=
  State.raise .lineState { s with seq := { s.seq with stop := .endOfPanel, line := .draining } }

theorem atPanelBoundary_iff (s : State) : s.atPanelBoundary = true ↔ s.forming? = none ∧ s.seq.step = none := by
  simp [State.atPanelBoundary]

/-- R57: LINE-STOP END_OF_PANEL in a RUNNING line. -/
theorem stopAtEnd_running {s : State} (h : s.seq.line = .running) :
    s.stopAtEnd = if s.forming? = none ∧ s.seq.step = none then s.drained.enterIdle else s.drained := by
  have hdrains : (s.setStop .endOfPanel).enter .draining = s.drained :=
    enter_moving_eq rfl (by show s.seq.line ≠ _; rw [h]; decide)
  have hat : s.drained.atPanelBoundary = true ↔ s.forming? = none ∧ s.seq.step = none := atPanelBoundary_iff _
  unfold State.stopAtEnd
  rw [h]
  dsimp only
  rw [hdrains]
  simp only [hat]

/-- Settles O44. -/
theorem lineStopByState : Obligations.LineStopByState := by
  intro tag mode s ha hdue run answer withSeq idle
  have hreq : ∀ {u : State} {code : ResultCode} {items : List Byte},
      State.reqLineStop mode s.processing = (u, ⟨code, items⟩) →
      run = .next (State.replied 0x21#8 tag code items u) :=
    fun hr => exec_request_accepted (r := .lineStop mode) rfl ha hr
  have hidle (q : Seq) (hl : q.line ≠ .idle) : (withSeq q).enterIdle = idle q :=
    (enterIdle_of_none (s := withSeq q) hdue).trans (enter_idle_eq (s := withSeq q) hl)
  have hnow {t : State} (hmode : mode = 0) (hl : s.seq.line ≠ .estop) (ht : s.processing.stopNow = t) :
      run = answer .ok t := by
    subst hmode
    exact hreq ((reqLineStop_now (s := s.processing) hl).trans (congrArg okBare ht))
  have hend {t : State} (hmode : mode = 1) (hl : s.seq.line ≠ .estop) (ht : s.processing.stopAtEnd = t) :
      run = answer .ok t := by
    subst hmode
    exact hreq ((reqLineStop_end (s := s.processing) hl).trans (congrArg okBare ht))
  have hmodes {t : State} (hmode : mode ≤ 1) (hl : s.seq.line ≠ .estop) (h0 : s.processing.stopNow = t)
      (h1 : s.processing.stopAtEnd = t) : run = answer .ok t := by
    rcases (by omega : mode = 0 ∨ mode = 1) with h | h
    · exact hnow h hl h0
    · exact hend h hl h1
  have hne {l : LineState} (h : s.seq.line = l) (hl : l ≠ .estop := by decide) : s.seq.line ≠ .estop := h ▸ hl
  refine ⟨fun h2 => hreq ?_, fun h1 hl => hreq (reqLineStop_estop h1 hl), fun h1 hl => hmodes h1 (hne hl) ?_ ?_,
    fun h1 hl => hmodes h1 (hne hl) ?_ ?_, fun h0 hl => hnow h0 (hne hl) ?_, fun h0 hl => hnow h0 (hne hl) ?_, ?_, ?_,
    fun h1 hl => hend h1 (hne hl) ?_, fun h1 hl hinside => hend h1 (hne hl) ?_, fun h1 hl hforming hstep => ?_⟩
  · unfold State.reqLineStop
    rw [stopModeOf?_of_gt h2]
    rfl
  · unfold State.stopNow; rw [processing_seq, hl]
  · unfold State.stopAtEnd; rw [processing_seq, hl]
  · exact (stopNow_stands (s := s.processing) (.inl hl)).trans (hidle s.seq (hl ▸ by decide))
  · unfold State.stopAtEnd
    rw [processing_seq, hl]
    exact hidle s.seq (hl ▸ by decide)
  · exact (stopNow_stands (s := s.processing) (.inr hl)).trans (hidle s.seq (hl ▸ by decide))
  · unfold State.stopNow; rw [processing_seq, hl]; rfl
  · intro was h0 hl holding
    have hmoves : s.processing.stopNow = holding.stopAtBoundary :=
      (stopNow_moves (s := s.processing) (hl.imp And.left And.left)).trans
        (enterHolding_eq (s := s.processing.setStop .now) hl)
    have hestop : s.seq.line ≠ .estop := by rcases hl with ⟨h, -⟩ | ⟨h, -⟩ <;> exact hne h
    refine ⟨fun hstep => hnow h0 hestop (hmoves.trans (stopAtBoundary_of_closed (.inl hstep))),
      fun hstep hclosed => hnow h0 hestop (hmoves.trans (stopAtBoundary_of_closed (.inr hclosed))), fun hstep hopen => ?_⟩
    have hstops : holding.stopAtBoundary = holding.enterIdle :=
      (stopAtBoundary_of_open (s := holding) rfl hstep hopen).trans (if_pos rfl)
    have hseq : (holding.enter .idle).seq = holding.seq.enterLine .idle := enter_seq LineState.noConfusion
    refine ⟨holding.enter .idle, hnow h0 hestop ((hmoves.trans hstops).trans (enterIdle_of_none hdue)), ?_, ?_, ?_⟩
    all_goals rw [hseq]; rfl
  · intro h1 hl
    have hjoin : s.processing.joinEndOfPanel =
        withSeq { s.seq with stop := if s.seq.stop = .now then .now else .endOfPanel } := by
      by_cases hstop : s.seq.stop = .now
      · exact (if_pos hstop).trans
          (congrArg (fun x => withSeq { s.seq with stop := x }) (hstop.trans (if_pos hstop).symm))
      · exact (if_neg hstop).trans (congrArg (fun x => withSeq { s.seq with stop := x }) (if_neg hstop).symm)
    rcases hl with hl | hl
    · refine hend h1 (hne hl) ?_
      unfold State.stopAtEnd; rw [processing_seq, hl]; exact hjoin
    · refine hend h1 (hne hl) ?_
      unfold State.stopAtEnd; rw [processing_seq, hl]; exact hjoin
  · unfold State.stopAtEnd; rw [processing_seq, hl]
  · refine (stopAtEnd_running (s := s.processing) hl).trans (if_neg ?_)
    rintro ⟨hforming, hstep⟩
    rcases hinside with h | h
    · simp [show s.forming? = none from hforming] at h
    · simp [show s.seq.step = none from hstep] at h
  · have hseq : (s.processing.drained.enter .idle).seq = s.processing.drained.seq.enterLine .idle :=
      enter_seq LineState.noConfusion
    refine ⟨s.processing.drained.enter .idle, hend h1 (hne hl) ?_, ?_, ?_, ?_⟩
    · exact ((stopAtEnd_running (s := s.processing) hl).trans (if_pos ⟨hforming, hstep⟩)).trans (enterIdle_of_none hdue)
    all_goals rw [hseq]; rfl

/-! ## The end of a panel's forming -/

/-- `t` differs from `s` in its track, orders, sequencer, roll change controller and link alone. -/
structure State.PanelAlone (s t : State) : Prop where
  pending : t.pending = s.pending
  freeIndex : t.freeIndex = s.freeIndex
  clock : t.clock = s.clock
  web : t.web = s.web
  conv : t.conv = s.conv
  geometry : t.geometry = s.geometry
  classes : t.classes = s.classes
  patterns : t.patterns = s.patterns
  nextPanel : t.nextPanel = s.nextPanel
  segs : t.segs = s.segs
  fmu : t.fmu = s.fmu
  zones : t.zones = s.zones
  steam : t.steam = s.steam
  verify : t.verify = s.verify
  outlets : t.outlets = s.outlets
  estopInput : t.estopInput = s.estopInput

theorem State.PanelAlone.trans {s t u : State} (h : s.PanelAlone t) (k : t.PanelAlone u) : s.PanelAlone u where
  pending := k.pending.trans h.pending
  freeIndex := k.freeIndex.trans h.freeIndex
  clock := k.clock.trans h.clock
  web := k.web.trans h.web
  conv := k.conv.trans h.conv
  geometry := k.geometry.trans h.geometry
  classes := k.classes.trans h.classes
  patterns := k.patterns.trans h.patterns
  nextPanel := k.nextPanel.trans h.nextPanel
  segs := k.segs.trans h.segs
  fmu := k.fmu.trans h.fmu
  zones := k.zones.trans h.zones
  steam := k.steam.trans h.steam
  verify := k.verify.trans h.verify
  outlets := k.outlets.trans h.outlets
  estopInput := k.estopInput.trans h.estopInput

theorem not_forming_of_none {s : State} (h : s.forming? = none) : ∀ p ∈ s.track, ¬ p.forming = true :=
  List.find?_eq_none.mp h

theorem forming?_of_track {s t : State} (h : t.track = s.track) : t.forming? = s.forming? := by
  rw [State.forming?, State.forming?, h]

/-- R41: with every FORMING record made TRAVELLING, none is FORMING. -/
theorem forming?_mapForming_travelling {s : State} {f : Panel → Panel} (hf : ∀ p, (f p).state = .travelling) :
    (s.mapForming f).forming? = none := by
  refine List.find?_eq_none.mpr fun p hp => ?_
  obtain ⟨q, -, rfl⟩ := List.mem_map.mp hp
  split
  · simp [Panel.forming, hf]
  · assumption

/-- R51: the head order has ended a panel. -/
def Order.panelEnded (o : Order) : Order := { o with ended := o.ended + 1 }

theorem endHeadPanel_of_empty {s : State} (h : s.orders = []) : s.endHeadPanel = s := by
  unfold State.endHeadPanel
  rw [h]

theorem endHeadPanel_leaves {o : Order} {rest : List Order} {s : State} (h : s.orders = o :: rest)
    (hdone : o.ended + 1 = o.panels ∨ o.cancel ≠ .none) :
    s.endHeadPanel = State.raise .orderDone { s with orders := rest } := by
  unfold State.endHeadPanel
  rw [h]
  exact if_pos (by simpa using hdone)

theorem endHeadPanel_stays {o : Order} {rest : List Order} {s : State} (h : s.orders = o :: rest)
    (hdone : ¬ (o.ended + 1 = o.panels ∨ o.cancel ≠ .none)) :
    s.endHeadPanel = { s with orders := o.panelEnded :: rest } := by
  unfold State.endHeadPanel
  rw [h]
  exact if_neg (by simpa using hdone)

/-- R51: the head order alone is touched. -/
theorem endHeadPanel_cases (s : State) : ∃ (orders : List Order) (link : Link),
    s.endHeadPanel = { s with orders := orders, link := link } := by
  unfold State.endHeadPanel
  split
  · exact ⟨s.orders, s.link, rfl⟩
  · dsimp only
    split <;> exact ⟨_, _, rfl⟩

/-- R123: the fire point and the slot request alone are touched. -/
theorem withdrawSlot_cases (p : Plan) (s : State) : ∃ (point : Option Nat) (request : Bool),
    s.withdrawSlot p = { s with rcc := { s.rcc with firePoint := point, slotRequest := request } } := by
  unfold State.withdrawSlot
  split
  · split
    · exact ⟨_, _, rfl⟩
    · exact ⟨s.rcc.firePoint, s.rcc.slotRequest, rfl⟩
  · exact ⟨s.rcc.firePoint, s.rcc.slotRequest, rfl⟩

/-- R41: the record whose forming ends at conveyor count `conv`. -/
def Panel.endedAt (conv : Nat) (f : Reasons → Reasons) (p : Panel) : Panel :=
  { p with state := .travelling, tail := some conv, reasons := f p.reasons }

/-- R41: the track after the end of a panel's forming. -/
def State.trackEnded (f : Reasons → Reasons) (s : State) : List Panel :=
  s.track.map fun p => if p.state = .forming then p.endedAt s.conv f else p

/-- R70: the plan is discarded and its gap becomes pending. -/
def Seq.panelEnded (q : Seq) : Seq :=
  match q.plan with
  | some p => { q with plan := none, gap := if p.gap = 0 then none else some ⟨p.gap, p.cls⟩ }
  | none => q

theorem panelEnded_of_plan {q : Seq} {p : Plan} (h : q.plan = some p) :
    q.panelEnded = { q with plan := none, gap := if p.gap = 0 then none else some ⟨p.gap, p.cls⟩ } := by
  rw [Seq.panelEnded, h]

/-- R70: the plan and the gap alone are touched. -/
theorem panelEnded_cases (q : Seq) : ∃ gap, q.panelEnded = { q with plan := none, gap := gap } := by
  unfold Seq.panelEnded
  split
  · exact ⟨_, rfl⟩
  · next h => exact ⟨q.gap, by rw [← h]⟩

theorem endForming_of_none {early : Bool} {f : Reasons → Reasons} {s : State} (h : s.forming? = none) :
    s.endForming early f = s := by
  unfold State.endForming
  rw [h]

/-- R41, R51, R70, R123: the end of a panel's forming; of the splice it touches the slot alone. -/
theorem endForming_cases (early : Bool) (f : Reasons → Reasons) {s : State} {x : Panel} (h : s.forming? = some x) :
    ∃ (point : Option Nat) (request : Bool), (early = false → point = s.rcc.firePoint ∧ request = s.rcc.slotRequest) ∧
      s.endForming early f = State.endHeadPanel { s with
        track := s.trackEnded f, seq := s.seq.panelEnded
        rcc := { s.rcc with firePoint := point, slotRequest := request } } := by
  have htrack : (s.mapForming fun p => { p with state := .travelling, tail := some s.conv, reasons := f p.reasons }) =
      { s with track := s.trackEnded f } := mapForming_eq ..
  unfold State.endForming
  rw [h]
  dsimp only
  rw [htrack]
  cases hplan : s.seq.plan with
  | none =>
    refine ⟨s.rcc.firePoint, s.rcc.slotRequest, fun _ => ⟨rfl, rfl⟩, ?_⟩
    rw [Seq.panelEnded, hplan]
  | some p =>
    rw [panelEnded_of_plan hplan]
    cases early with
    | false => exact ⟨s.rcc.firePoint, s.rcc.slotRequest, fun _ => ⟨rfl, rfl⟩, rfl⟩
    | true =>
      obtain ⟨point, request, hslot⟩ := withdrawSlot_cases p { s with track := s.trackEnded f }
      refine ⟨point, request, fun h => absurd h (by decide), ?_⟩
      dsimp only
      rw [if_pos rfl, hslot]
      rfl

/-- What an end of a panel's forming leaves: `t` is the state after it. -/
structure State.FormingEnded (f : Reasons → Reasons) (s t : State) : Prop extends s.PanelAlone t where
  track : t.track = s.trackEnded f
  seq : t.seq = s.seq.panelEnded
  rcc : ∃ point request, t.rcc = { s.rcc with firePoint := point, slotRequest := request }
  forming : t.forming? = none
  orders : t.orders = s.endHeadPanel.orders

theorem forming?_trackEnded {f : Reasons → Reasons} {s t : State} (h : t.track = s.trackEnded f) : t.forming? = none := by
  have hmap : t.track = (s.mapForming (Panel.endedAt s.conv f)).track := by rw [h, mapForming_eq]; rfl
  rw [forming?_of_track hmap]
  exact forming?_mapForming_travelling fun _ => rfl

theorem endHeadPanel_orders {s t : State} (h : t.orders = s.orders) : t.endHeadPanel.orders = s.endHeadPanel.orders := by
  unfold State.endHeadPanel
  rw [h]
  split
  · exact h
  · dsimp only
    split <;> rfl

/-- R41, R51, R70: the end of a panel's forming. -/
theorem endForming_ended (early : Bool) (f : Reasons → Reasons) {s : State} {x : Panel} (h : s.forming? = some x) :
    s.FormingEnded f (s.endForming early f) := by
  obtain ⟨point, request, -, heq⟩ := endForming_cases early f h
  obtain ⟨orders, link, hhead⟩ := endHeadPanel_cases { s with
    track := s.trackEnded f, seq := s.seq.panelEnded
    rcc := { s.rcc with firePoint := point, slotRequest := request } }
  have horders := endHeadPanel_orders (s := s) (t := { s with
    track := s.trackEnded f, seq := s.seq.panelEnded
    rcc := { s.rcc with firePoint := point, slotRequest := request } }) rfl
  rw [hhead] at horders
  rw [heq, hhead]
  exact ⟨by constructor <;> rfl, rfl, rfl, ⟨_, _, rfl⟩, forming?_trackEnded rfl, horders⟩

/-- R66: a panel that ends with its last step keeps its slot. -/
theorem endForming_rcc_late (f : Reasons → Reasons) {s : State} : (s.endForming false f).rcc = s.rcc := by
  cases h : s.forming? with
  | none => rw [endForming_of_none h]
  | some x =>
    obtain ⟨point, request, hslot, heq⟩ := endForming_cases false f h
    obtain ⟨rfl, rfl⟩ := hslot rfl
    obtain ⟨orders, link, hhead⟩ := endHeadPanel_cases { s with
      track := s.trackEnded f, seq := s.seq.panelEnded }
    rw [heq, hhead]

/-! ## ORDER-CANCEL -/

theorem cancelModeOf?_of_le {n : Nat} (h : n ≤ 1) : cancelModeOf? n = some (if n = 1 then .abandon else .afterPanel) := by
  match n, h with
  | 0, _ | 1, _ => rfl

theorem cancelModeOf?_of_gt {n : Nat} (h : 2 ≤ n) : cancelModeOf? n = none := by
  match n, h with
  | n + 2, _ => rfl

/-- R52: the cancel pending of the head order. -/
theorem join_eq {old new : CancelPending} (h : new = .abandon ∨ new = .afterPanel) :
    old.join new = if new = .abandon ∨ old = .abandon then .abandon else .afterPanel := by
  rcases h with rfl | rfl <;> cases old <;> rfl

/-- R69 test 1: a pending ABANDON ends the FORMING panel. -/
theorem abandonTest_ends {o : Order} {rest : List Order} {s : State} {x : Panel} (ho : s.orders = o :: rest)
    (hc : o.cancel = .abandon) (hx : s.forming? = some x) :
    s.abandonTest = s.endForming true Reasons.addAbandoned := by
  unfold State.abandonTest
  rw [ho]
  exact if_pos (by simp [hc, hx])

theorem abandonTest_of_not {s : State} (h : s.forming? = none ∨ ∀ o rest, s.orders = o :: rest → o.cancel ≠ .abandon) :
    s.abandonTest = s := by
  unfold State.abandonTest
  split
  · next o rest ho =>
    refine if_neg ?_
    rcases h with h | h
    · simp [h]
    · simp [h o rest ho]
  · rfl

theorem boundary_of_open {s : State} (h : s.boundaryClosed = false) : s.boundary = s.abandonTest.openBoundary :=
  if_neg (by simp [h])

theorem boundary_of_closed {s : State} (h : s.boundaryClosed = true) (hm : s.seq.line.moving = true) :
    s.boundary = s.pacedNext := (if_pos h).trans (if_pos hm)

/-- R69: a line that stands does nothing at an open boundary. -/
theorem openBoundary_of_standing {s : State} (h : s.seq.line.moving = false) : s.openBoundary = s := by
  unfold State.openBoundary
  cases hl : s.seq.line with
  | idle | waiting | held | estop => rfl
  | running | holding | draining => rw [hl] at h; exact absurd h (by decide)

theorem formingHead?_of_forming {o : Order} {rest : List Order} {x : Panel} {s : State} (ho : s.orders = o :: rest)
    (hx : s.forming? = some x) : s.formingHead? o.tag = some (o, rest) := by
  unfold State.formingHead?
  rw [ho]
  exact if_pos (by simp [hx])

theorem formingHead?_of_not {n : Nat} {s : State}
    (h : ∀ o rest, s.orders = o :: rest → o.tag ≠ n ∨ s.forming? = none) : s.formingHead? n = none := by
  unfold State.formingHead?
  split
  · next o rest ho =>
    refine if_neg ?_
    rcases h o rest ho with h | h <;> simp [h]
  · rfl

theorem any_tag_iff (n : Nat) (l : List Order) :
    (l.any fun o => decide (o.tag = n)) = (l.map (·.tag)).any fun m => decide (m = n) := by
  rw [List.any_map]
  rfl

/-- R52: an order that has left the queue is answered as removed. -/
theorem cancelItems_removed {n : Nat} {t : State} (h : ∀ m ∈ t.orderTags, m ≠ n) : cancelItems n t = u8 0 := by
  have hnone : (t.orders.any fun o => decide (o.tag = n)) = false := by
    rw [any_tag_iff, List.any_eq_false]
    exact fun m hm => by simpa using h m hm
  rw [cancelItems, hnone]
  rfl

theorem cancelItems_pending {n : Nat} {o : Order} {rest : List Order} {t : State} (ho : t.orders = o :: rest)
    (hn : o.tag = n) : cancelItems n t = u8 1 := by
  rw [cancelItems, ho, List.any_cons, decide_eq_true hn]
  rfl

/-- R52: an accepted ORDER-CANCEL. -/
theorem reqOrderCancel_taken {n mode : Nat} {s t : State} (hmode : mode ≤ 1) (hn : ∃ o ∈ s.orders, o.tag = n)
    (ht : State.reevaluateSince s (s.cancelOrder n (if mode = 1 then .abandon else .afterPanel)) = t) :
    State.reqOrderCancel n mode s = answered .ok (cancelItems n) t := by
  unfold State.reqOrderCancel
  rw [cancelModeOf?_of_le hmode]
  refine (if_pos ?_).trans (congrArg _ ht)
  obtain ⟨o, ho, rfl⟩ := hn
  exact List.any_eq_true.mpr ⟨o, ho, decide_eq_true rfl⟩

/-- R52: the head order, with the cancel that is then pending. -/
def Order.cancelled (mode : Nat) (o : Order) : Order :=
  { o with cancel := if mode = 1 ∨ o.cancel = .abandon then .abandon else .afterPanel }

/-- R52: the cancel of the head order while it has a FORMING panel. -/
theorem cancelOrder_forming {o : Order} {rest : List Order} {x : Panel} {mode : Nat} {s : State}
    (ho : s.orders = o :: rest) (hx : s.forming? = some x) :
    s.cancelOrder o.tag (if mode = 1 then .abandon else .afterPanel) =
      if (o.cancelled mode).cancel = .abandon ∧ s.atOpenBoundary = true then
        State.boundary { s with orders := o.cancelled mode :: rest }
      else { s with orders := o.cancelled mode :: rest } := by
  have hjoin : o.cancel.join (if mode = 1 then .abandon else .afterPanel) = (o.cancelled mode).cancel := by
    unfold Order.cancelled
    by_cases h1 : mode = 1
    · rw [if_pos h1, join_eq (.inl rfl), if_pos (.inl rfl), if_pos (.inl h1)]
    · rw [if_neg h1, join_eq (.inr rfl)]
      simp [h1]
  unfold State.cancelOrder
  rw [formingHead?_of_forming ho hx]
  dsimp only
  unfold State.cancelForming
  rw [hjoin]
  simp only [Bool.and_eq_true, decide_eq_true_eq]
  rfl

/-- Settles O24. -/
theorem orderCancelRemovesOrPends : Obligations.OrderCancelRemovesOrPends := by
  intro tag n mode s ha run absent
  have hreq : ∀ {u : State} {code : ResultCode} {items : List Byte},
      State.reqOrderCancel n mode s.processing = (u, ⟨code, items⟩) →
      run = .next (State.replied 0x09#8 tag code items u) :=
    fun hr => exec_request_accepted (r := .orderCancel n mode) rfl ha hr
  refine ⟨fun h2 => hreq ?_, fun h1 hall => hreq ?_, fun h1 hsome hnot => hreq ?_, ?_, ?_⟩
  · unfold State.reqOrderCancel
    rw [cancelModeOf?_of_gt h2]
    rfl
  · unfold State.reqOrderCancel
    rw [cancelModeOf?_of_le h1]
    refine if_neg ?_
    rw [processing_orders, List.any_eq_true]
    rintro ⟨o, ho, htag⟩
    have habsent := List.all_eq_true.mp hall o ho
    simp only [absent] at habsent
    exact of_decide_eq_true habsent (of_decide_eq_true htag)
  · have hremoved : s.processing.cancelOrder n (if mode = 1 then .abandon else .afterPanel) =
        State.raise .orderDone { s.processing with orders := s.orders.filter absent } := by
      unfold State.cancelOrder
      rw [formingHead?_of_not (s := s.processing) hnot]
      rfl
    refine (reqOrderCancel_taken (s := s.processing) h1 hsome (congrArg _ hremoved)).trans ?_
    rw [reevaluateSince_eq (before := s) (u := s.processing)
      (s := State.raise .orderDone { s.processing with orders := s.orders.filter absent }) rfl fun h => h]
    rw [answered, cancelItems_removed]
    rw [thenReevaluate_orderTags]
    intro m hm
    obtain ⟨o, ho, rfl⟩ := List.mem_map.mp hm
    exact of_decide_eq_true (List.mem_filter.mp ho).2
  · intro o rest x h1 hwait ho htag hx hpends
    subst htag
    have hcancel : s.processing.cancelOrder o.tag (if mode = 1 then .abandon else .afterPanel) =
        { s.processing with orders := o.cancelled mode :: rest } := by
      refine (cancelOrder_forming (s := s.processing) ho hx).trans (if_neg ?_)
      rintro ⟨habandon, hopen⟩
      rcases hpends with ⟨h0, hkeeps⟩ | hinside
      · have hafter : (o.cancelled mode).cancel = .afterPanel :=
          if_neg (by rintro (h | h) <;> [omega; exact hkeeps h])
        rw [hafter] at habandon
        exact absurd habandon (by decide)
      · obtain ⟨y, hy⟩ := Option.isSome_iff_exists.mp hinside
        simp [State.atOpenBoundary, hy] at hopen
    refine hreq ((reqOrderCancel_taken (s := s.processing) h1 ⟨o, by rw [processing_orders, ho]; exact List.mem_cons_self, rfl⟩
      ((congrArg _ hcancel).trans (reevaluateSince_of_not_waiting hwait))).trans ?_)
    exact congrArg (fun items => ({ s.processing with orders := o.cancelled mode :: rest }, (⟨.ok, items⟩ : Answer)))
      (cancelItems_pending (o := o.cancelled mode) (rest := rest)
        (t := { s.processing with orders := o.cancelled mode :: rest }) rfl rfl)
  · intro o rest x h1 hl ho htag hrest hx hstep hopen
    subst htag h1
    have hcancel : s.processing.cancelOrder o.tag .abandon =
        State.boundary { s.processing with orders := o.cancelled 1 :: rest } :=
      (cancelOrder_forming (mode := 1) (s := s.processing) ho hx).trans
        (if_pos ⟨rfl, (Bool.and_eq_true_iff.mpr ⟨by rw [processing_seq, hstep]; rfl,
          by rw [show s.processing.boundaryClosed = false from hopen]; rfl⟩)⟩)
    have hended := endForming_ended true Reasons.addAbandoned
      (s := { s.processing with orders := o.cancelled 1 :: rest }) hx
    obtain ⟨gap, hseq⟩ := panelEnded_cases s.seq
    have hboundary : State.boundary { s.processing with orders := o.cancelled 1 :: rest } =
        State.endForming true Reasons.addAbandoned { s.processing with orders := o.cancelled 1 :: rest } := by
      rw [boundary_of_open (by exact hopen), abandonTest_ends rfl rfl (by exact hx)]
      refine openBoundary_of_standing ?_
      rw [hended.seq, processing_seq, hseq]
      rcases hl with h | h <;> exact h ▸ rfl
    have horders : (State.endForming true Reasons.addAbandoned
        { s.processing with orders := o.cancelled 1 :: rest }).orders = rest := by
      rw [hended.orders, endHeadPanel_leaves rfl (.inr CancelPending.noConfusion)]
      rfl
    have hwait : s.seq.line ≠ .waiting := by rcases hl with h | h <;> rw [h] <;> decide
    refine ⟨_, hreq ((reqOrderCancel_taken (s := s.processing) (mode := 1) le_rfl
      ⟨o, by rw [processing_orders, ho]; exact List.mem_cons_self, rfl⟩
      ((reevaluateSince_of_not_waiting hwait).trans (hcancel.trans hboundary))).trans ?_), horders, hended.forming, ?_,
      hended.conv, hended.track⟩
    · refine congrArg (fun items => (_, (⟨.ok, items⟩ : Answer))) (cancelItems_removed ?_)
      intro m hm
      rw [State.orderTags, horders] at hm
      obtain ⟨y, hy, rfl⟩ := List.mem_map.mp hm
      exact of_decide_eq_true (List.all_eq_true.mp hrest y hy)
    · rw [hended.seq]
      exact congrArg Seq.plan hseq

end Sys2Proof.Machine
end

section
/-! PROOFS. SPLICE-RESOLVE (O36). -/

namespace Sys2Proof.Machine

/-! ## The line after a resolve -/

/-- R56: members leave the hold requester set of a line that stands in IDLE or HELD. -/
theorem releaseHold_stands {f : HoldSet → HoldSet} {s : State} (hl : s.seq.line = .idle ∨ s.seq.line = .held) :
    s.releaseHold f =
      if s.seq.line = .held ∧ s.seq.hold ≠ ⟨false, false, false, false⟩ ∧ f s.seq.hold = ⟨false, false, false, false⟩ then
        (s.setSeq fun q => { q with hold := f q.hold }).leaveHeld
      else s.setSeq fun q => { q with hold := f q.hold } := by
  split
  · next h =>
    obtain ⟨hheld, hsome, hnone⟩ := h
    exact releaseHold_held ((nonEmpty_iff _).mpr hsome) (by rw [hnone]; rfl) hheld
  · next h =>
    refine releaseHold_stays ?_
    by_cases hafter : f s.seq.hold = ⟨false, false, false, false⟩
    · by_cases hbefore : s.seq.hold = ⟨false, false, false, false⟩
      · exact .inr (.inl (by rw [hbefore]; rfl))
      · have hidle : s.seq.line = .idle := hl.resolve_right fun hheld => h ⟨hheld, hbefore, hafter⟩
        exact .inr (.inr (.inl (by rw [hidle]; decide)))
    · exact .inl ((nonEmpty_iff _).mpr hafter)

/-- R69: nothing is done at a boundary where no panel was ended, or where the line does not move, or a step is in
progress. -/
theorem goOn_of_steady {before s : State}
    (h : before.forming? = none ∨ s.seq.line.moving = false ∨ s.seq.step.isSome = true) : State.goOn before s = s := by
  refine if_neg ?_
  rcases h with h | h | h
  · simp [h]
  · simp [h]
  · obtain ⟨x, hx⟩ := Option.isSome_iff_exists.mp h
    simp [State.atOpenBoundary, hx]

/-- R131: what is left of the hold requester set. -/
def HoldSet.resolved (rollMade : Bool) (h : HoldSet) : HoldSet :=
  { h with splice := false, rollOut := h.rollOut && !rollMade }

/-- R56, R131: the end of a resolve in a line that stands. -/
theorem leaveSplice_eq {rollMade : Bool} {s before t : State} (hl : before.seq.line = .idle ∨ before.seq.line = .held)
    (hseq : s.seq = before.seq)
    (ht : (if before.seq.line = .held ∧ before.seq.hold ≠ ⟨false, false, false, false⟩
        ∧ before.seq.hold.resolved rollMade = ⟨false, false, false, false⟩ then
      State.leaveHeld { s with seq := { before.seq with hold := before.seq.hold.resolved rollMade } }
      else { s with seq := { before.seq with hold := before.seq.hold.resolved rollMade } }) = t)
    (hsteady : before.forming? = none ∨ t.seq.line.moving = false ∨ t.seq.step.isSome = true) :
    s.leaveSplice rollMade before = t := by
  have hrelease : s.releaseHold (HoldSet.resolved rollMade) = t := by
    rw [releaseHold_stands (by rwa [hseq]), hseq, ← ht]
    unfold State.setSeq
    rw [hseq]
  have hwait : before.seq.line ≠ .waiting := by rcases hl with h | h <;> rw [h] <;> decide
  refine (reevaluateSince_of_not_waiting hwait).trans ((congrArg (State.goOn before) hrelease).trans ?_)
  exact goOn_of_steady hsteady

theorem resolveActionOf?_of_gt {n : Nat} (h : 2 ≤ n) : resolveActionOf? n = none := by
  match n, h with
  | n + 2, _ => rfl

theorem cause?_eq_none {x : SpliceState} (h : ∀ c, x ≠ .missed c) : x.cause? = none := by
  cases x with
  | missed c => exact absurd rfl (h c)
  | idle | armed | preparing | slotted | pressing => rfl

/-- R131: an accepted SPLICE-RESOLVE. -/
theorem reqSpliceResolve_eq {action : Nat} {a : ResolveAction} {c : MissCause} {s t : State}
    (ha : resolveActionOf? action = some a) (hc : s.rcc.splice = .missed c) (ht : s.resolve? a c = some t) :
    State.reqSpliceResolve action s = answered .ok resolveItems t := by
  unfold State.reqSpliceResolve
  rw [ha, hc]
  dsimp only [SpliceState.cause?]
  rw [ht]

theorem reqSpliceResolve_refused {action : Nat} {a : ResolveAction} {c : MissCause} {s : State}
    (ha : resolveActionOf? action = some a) (hc : s.rcc.splice = .missed c) (ht : s.resolve? a c = none) :
    State.reqSpliceResolve action s = refused .noRoom s := by
  unfold State.reqSpliceResolve
  rw [ha, hc]
  dsimp only [SpliceState.cause?]
  rw [ht]

theorem breakPanel_of_none {s : State} (h : s.forming? = none) : s.breakPanel = s := if_neg (by simp [h])

/-- R73, R74: a panel's step is dropped. -/
theorem dropPanelStep_eq {y : StepRec} {s : State} (hy : s.seq.step = some y) (hk : y.kind ≠ .gap) :
    s.dropPanelStep = (s.setSeq fun q => { q with step := none }).clearStepDrives := by
  unfold State.dropPanelStep
  rw [hy]
  exact if_neg hk

/-- R131: BREAK ends the FORMING panel and drops its step. -/
theorem breakPanel_forming {x : Panel} {y : StepRec} {s : State} (hx : s.forming? = some x) (hy : s.seq.step = some y)
    (hk : y.kind ≠ .gap) : ∃ gap point request, s.breakPanel.seq = { s.seq with plan := none, gap := gap, step := none }
      ∧ s.breakPanel.rcc = { s.rcc with firePoint := point, slotRequest := request }
      ∧ s.breakPanel.track = s.trackEnded Reasons.addInterrupted := by
  have hended := endForming_ended true Reasons.addInterrupted hx
  obtain ⟨gap, hseq⟩ := panelEnded_cases s.seq
  obtain ⟨point, request, hrcc⟩ := hended.rcc
  have hbreak : s.breakPanel = (s.endForming true Reasons.addInterrupted).dropPanelStep := if_pos (by simp [hx])
  rw [hbreak, dropPanelStep_eq (y := y) (by rw [hended.seq, hseq]; exact hy) hk]
  refine ⟨gap, point, request, ?_, hrcc, hended.track⟩
  show { (s.endForming true Reasons.addInterrupted).seq with step := none } = _
  rw [hended.seq, hseq]

/-- R131: BREAK of a fired splice. -/
theorem breakFired_eq {u : Unconfirmed} {s : State} (hu : s.breakPanel.rcc.unconfirmed = some u) :
    s.breakFired = State.resolved (State.breakSeam u.oldId u.newId
      (s.breakPanel.setRcc fun r => { r with unconfirmed := none })) := by
  unfold State.breakFired
  dsimp only
  rw [hu]

/-- R131: BREAK of a fired splice with a FORMING panel inside a step. -/
theorem breakFired_forming {x : Panel} {y : StepRec} {u : Unconfirmed} {s : State} (hx : s.forming? = some x)
    (hy : s.seq.step = some y) (hk : y.kind ≠ .gap) (hu : s.rcc.unconfirmed = some u) :
    ∃ gap, s.breakFired.seq = { s.seq with plan := none, gap := gap, step := none }
      ∧ s.breakFired.rcc.splice = s.rcc.rest ∧ s.breakFired.rcc.unconfirmed = none
      ∧ s.breakFired.track = s.trackEnded Reasons.addInterrupted := by
  obtain ⟨gap, point, request, hseq, hrcc, htrack⟩ := breakPanel_forming hx hy hk
  have hbreak := breakFired_eq (s := s) (u := u) (by rw [hrcc]; exact hu)
  rw [hbreak]
  generalize s.breakPanel = p at hseq hrcc htrack ⊢
  refine ⟨gap, hseq, ?_, rfl, htrack⟩
  have hrest : p.rcc.rest = s.rcc.rest := by rw [hrcc]; rfl
  exact hrest

/-- R56, R131: the end of a resolve in a line that stays in IDLE or HELD. -/
theorem leaveSplice_stays {rollMade : Bool} {u before : State}
    (hl : before.seq.line = .idle ∨ before.seq.line = .held ∧ (before.seq.hold.resolved rollMade).nonEmpty = true)
    (hline : u.seq.line = before.seq.line) (hhold : u.seq.hold = before.seq.hold) :
    u.leaveSplice rollMade before = u.setSeq fun q => { q with hold := q.hold.resolved rollMade } := by
  have hstays : u.releaseHold (HoldSet.resolved rollMade) =
      u.setSeq fun q => { q with hold := q.hold.resolved rollMade } := by
    refine releaseHold_stays ?_
    rw [hline, hhold]
    rcases hl with h | ⟨-, h⟩
    · exact .inr (.inr (.inl (by rw [h]; decide)))
    · exact .inl h
  have hwait : before.seq.line ≠ .waiting := by rcases hl with h | ⟨h, -⟩ <;> rw [h] <;> decide
  have hmoves : (u.setSeq fun q => { q with hold := q.hold.resolved rollMade }).seq.line.moving = false := by
    rw [setSeq_seq, hline]
    rcases hl with h | ⟨h, -⟩ <;> rw [h] <;> rfl
  exact (reevaluateSince_of_not_waiting hwait).trans ((congrArg (State.goOn before) hstays).trans
    (goOn_of_steady (.inr (.inl hmoves))))

/-- R119, R131: the state with the seam of a BREAK, once the rolls have changed and none is STANDBY; `need` says that a
standby roll is needed and `seams` are the records before. -/
def State.seamBroken (need : Bool) (seams : List Seam) (old new : Nat) (s : State) : State :=
  { s with rcc := { s.rcc with
      splice := .idle, standbyNeeded := need
      seams := insertSeam ⟨s.web + s.geometry.seamPath, old, new, s.clock, .break_⟩ seams } }

/-- R119, R131: the end of a BREAK, once the rolls have changed and none is STANDBY. -/
def State.brokenOff (need needed : Bool) (seams : List Seam) (old new : Nat) (s : State) : State :=
  State.raise .spliceDone (if need = true ∧ needed = false then (s.seamBroken need seams old new).raise .standbyNeeded
    else s.seamBroken need seams old new)

theorem brokenOff_seq (need needed : Bool) (seams : List Seam) (old new : Nat) (s : State) :
    (s.brokenOff need needed seams old new).seq = s.seq := by
  unfold State.brokenOff
  split <;> rfl

theorem brokenOff_setSeq (need needed : Bool) (seams : List Seam) (old new : Nat) (q : Seq) (s : State) :
    { s.brokenOff need needed seams old new with seq := q } =
      State.brokenOff need needed seams old new { s with seq := q } := by
  unfold State.brokenOff
  cases need <;> cases needed <;> rfl

theorem breakSeam_resolved {old new : Nat} {s : State} (hforming : s.forming? = none)
    (hstandby : s.rcc.standbyRoll = none) : (s.evalStandby.breakPanel.breakSeam old new).resolved =
      s.brokenOff s.rcc.needsStandby s.rcc.standbyNeeded s.rcc.seams old new := by
  have heval : s.evalStandby.forming? = none :=
    (State.LineAlone.forming? (State.rccAlone_evalStandby s).toLineAlone).trans hforming
  have hrest : RollChange.rest { s.rcc with
      standbyNeeded := s.rcc.needsStandby
      seams := insertSeam ⟨s.web + s.geometry.seamPath, old, new, s.clock, .break_⟩ s.rcc.seams } = .idle := by
    show (if s.rcc.standbyRoll.isSome then SpliceState.armed else .idle) = .idle
    rw [hstandby]
    rfl
  rw [breakPanel_of_none heval, evalStandby_eq, State.brokenOff]
  dsimp only
  split
  · exact congrArg (fun x => State.raise .spliceDone (State.raise .standbyNeeded { s with rcc := { s.rcc with
      standbyNeeded := s.rcc.needsStandby, splice := x
      seams := insertSeam ⟨s.web + s.geometry.seamPath, old, new, s.clock, .break_⟩ s.rcc.seams } })) hrest
  · exact congrArg (fun x => State.raise .spliceDone { s with rcc := { s.rcc with
      standbyNeeded := s.rcc.needsStandby, splice := x
      seams := insertSeam ⟨s.web + s.geometry.seamPath, old, new, s.clock, .break_⟩ s.rcc.seams } }) hrest

/-- R131: BREAK of a splice that never fired, with an ACTIVE roll. -/
theorem breakNoMatch_active {n : SpindleName} {s : State} {a b : Roll} (hforming : s.forming? = none)
    (hn : s.rcc.spindle n = .active a) (hm : s.rcc.spindle n.other = .standby b) :
    s.breakNoMatch = State.brokenOff (decide (b.remaining ≤ s.rcc.settings.trigger)) s.rcc.standbyNeeded s.rcc.seams
      a.id b.id { s with
        rcc := { (s.rcc.setSpindle n (.expiring a)).setSpindle n.other (.active b) with tailTimer := true } } := by
  have hrolls : { s.rcc.mapSpindles Spindle.fired with tailTimer := s.rcc.tailTimer || true } =
      { (s.rcc.setSpindle n (.expiring a)).setSpindle n.other (.active b) with tailTimer := true } := by
    rw [mapSpindles_fired hn hm, Bool.or_true]
  have hneeds : RollChange.needsStandby { (s.rcc.setSpindle n (.expiring a)).setSpindle n.other (.active b) with
      tailTimer := true } = decide (b.remaining ≤ s.rcc.settings.trigger) := by
    refine (needsStandby_fired (n := n) (b := b) (c := .expiring a) ?_ ⟨rfl, rfl⟩ ?_).trans ?_ <;> cases n <;> rfl
  have hstandby : ((s.rcc.setSpindle n (.expiring a)).setSpindle n.other (.active b)).standbyRoll = none := by
    cases n <;> rfl
  have hneeded : ((s.rcc.setSpindle n (.expiring a)).setSpindle n.other (.active b)).standbyNeeded =
      s.rcc.standbyNeeded := by cases n <;> rfl
  have hseams : ((s.rcc.setSpindle n (.expiring a)).setSpindle n.other (.active b)).seams = s.rcc.seams := by
    cases n <;> rfl
  unfold State.breakNoMatch State.breakIds
  rw [activeRoll_eq hn hm, standbyRoll_eq hn hm, ← hneeds, ← hneeded, ← hseams]
  refine Eq.trans ?_ (breakSeam_resolved (s := { s with
    rcc := { (s.rcc.setSpindle n (.expiring a)).setSpindle n.other (.active b) with tailTimer := true } })
    hforming hstandby)
  rw [← hrolls]
  rfl

/-- R125: the one record that changes where no roll is ACTIVE. -/
theorem mapSpindles_fired_free {m : SpindleName} {r : RollChange} {b : Roll} (ha : r.activeRoll = none)
    (hm : r.spindle m = .standby b) (hn : ∀ x, r.spindle m.other ≠ .standby x) :
    r.mapSpindles Spindle.fired = r.setSpindle m (.active b) := by
  have hother : Spindle.fired (r.spindle m.other) = r.spindle m.other := by
    have hactive := active?_of_activeRoll_none ha m.other
    cases h : r.spindle m.other with
    | active x => rw [h] at hactive; exact absurd hactive (by simp [Spindle.active?])
    | standby x => exact absurd h (hn x)
    | empty | expiring x | spent x => rfl
  cases m with
  | u1 =>
    have h1 : r.u1 = .standby b := hm
    have h2 : r.u2.fired = r.u2 := hother
    simp [RollChange.mapSpindles, RollChange.setSpindle, h2, show r.u1.fired = .active b from h1 ▸ rfl]
  | u2 =>
    have h1 : r.u1.fired = r.u1 := hother
    have h2 : r.u2 = .standby b := hm
    simp [RollChange.mapSpindles, RollChange.setSpindle, h1, show r.u2.fired = .active b from h2 ▸ rfl]

/-- R131: BREAK of a splice that never fired, with no ACTIVE roll (log 11). -/
theorem breakNoMatch_free {m : SpindleName} {s : State} {b : Roll} (hforming : s.forming? = none)
    (ha : s.rcc.activeRoll = none) (hm : s.rcc.spindle m = .standby b)
    (hn : ∀ x, s.rcc.spindle m.other ≠ .standby x) :
    s.breakNoMatch = State.brokenOff (decide (b.remaining ≤ s.rcc.settings.trigger)) s.rcc.standbyNeeded s.rcc.seams
      (Config.oldRollId s.freeIndex) b.id
      { s with freeIndex := s.freeIndex + 1, rcc := s.rcc.setSpindle m (.active b) } := by
  have hrolls : { s.rcc.mapSpindles Spindle.fired with tailTimer := s.rcc.tailTimer || false } =
      s.rcc.setSpindle m (.active b) := by
    rw [Bool.or_false, ← mapSpindles_fired_free ha hm hn]
    rfl
  have hactive : (s.rcc.spindle m.other).active? = none := active?_of_activeRoll_none ha _
  have hidle : (s.rcc.spindle m.other).standby? = none := by
    cases h : s.rcc.spindle m.other with
    | standby x => exact absurd h (hn x)
    | active x | empty | expiring x | spent x => rfl
  have hroll : s.rcc.standbyRoll = some b := by
    rw [standbyRoll_of_other hidle, hm]
    rfl
  have hneeds : (s.rcc.setSpindle m (.active b)).needsStandby = decide (b.remaining ≤ s.rcc.settings.trigger) := by
    refine (needsStandby_fired (n := m.other) (b := b) (c := s.rcc.spindle m.other) ?_ ⟨hactive, hidle⟩ ?_).trans ?_
      <;> cases m <;> rfl
  have hstandby : (s.rcc.setSpindle m (.active b)).standbyRoll = none := by
    rw [standbyRoll_of_other (n := m) (by rw [spindle_setSpindle_other]; exact hidle), spindle_setSpindle_same]
    rfl
  have hneeded : (s.rcc.setSpindle m (.active b)).standbyNeeded = s.rcc.standbyNeeded := by cases m <;> rfl
  have hseams : (s.rcc.setSpindle m (.active b)).seams = s.rcc.seams := by cases m <;> rfl
  unfold State.breakNoMatch State.breakIds
  rw [ha, hroll, ← hneeds, ← hneeded, ← hseams]
  refine Eq.trans ?_ (breakSeam_resolved
    (s := { s with freeIndex := s.freeIndex + 1, rcc := s.rcc.setSpindle m (.active b) }) hforming hstandby)
  rw [← hrolls]
  rfl

/-- Settles O36. -/
theorem spliceResolveByCause : Obligations.SpliceResolveByCause := by
  intro tag s ha r resting stands off noSplice neither leaves steady answer
  have hreq : ∀ {a : Nat} {u : State} {code : ResultCode} {items : List Byte},
      State.reqSpliceResolve a s.processing = (u, ⟨code, items⟩) →
      exec (.spliceResolve tag a) s = .next (State.replied 0x1B#8 tag code items u) :=
    fun hr => exec_request_accepted (r := .spliceResolve _) rfl ha hr
  have hnoSplice : s.seq.hold.resolved false = noSplice := by
    simp [HoldSet.resolved, noSplice]
  have hneither : s.seq.hold.resolved true = neither := by
    simp [HoldSet.resolved, neither]
  have hleave {rollMade : Bool} {u : State} {h : HoldSet} (hl : stands) (hh : s.seq.hold.resolved rollMade = h)
      (hu : u.seq = s.seq) (hst : s.forming? = none ∨ (leaves h { u with seq := off h }).seq.line.moving = false
        ∨ (leaves h { u with seq := off h }).seq.step.isSome = true) :
      u.leaveSplice rollMade s.processing = leaves h { u with seq := off h } :=
    leaveSplice_eq (before := s.processing) hl hu (by rw [processing_seq, hh]) hst
  have hfired {a : Nat} {act : ResolveAction} {u : State} (ha : resolveActionOf? a = some act)
      (hc : r.splice = .missed .noConfirm ∨ r.splice = .missed .estop)
      (hu : s.processing.resolve? act .noConfirm = some u ∧ s.processing.resolve? act .estop = some u) :
      exec (.spliceResolve tag a) s = answer u := by
    rcases hc with h | h
    · exact hreq (reqSpliceResolve_eq (s := s.processing) ha h hu.1)
    · exact hreq (reqSpliceResolve_eq (s := s.processing) ha h hu.2)
  have hbroken {u : State} (hc : r.splice = .missed .noMatch) (hroom : r.seams.length < 3)
      (hu : s.processing.breakNoMatch.leaveSplice true s.processing = u) :
      exec (.spliceResolve tag 1) s = answer u :=
    hreq (reqSpliceResolve_eq (a := .break_) (s := s.processing) rfl hc
      ((if_neg (Nat.not_le.mpr hroom)).trans (congrArg some hu)))
  refine ⟨fun a h2 => hreq ?_, fun a h1 hnot => hreq ?_, ?_, ?_, ?_, ?_, ?_, ?_, ?_⟩
  · unfold State.reqSpliceResolve
    rw [resolveActionOf?_of_gt h2]
    rfl
  · unfold State.reqSpliceResolve
    rw [processing_rcc, cause?_eq_none hnot]
    match a, h1 with
    | 0, _ | 1, _ => rfl
  · intro u hc hl hu t hst
    have hdone : s.processing.acceptFired =
        State.raise .spliceDone { s.processing with rcc := r.confirmed .accept u s.clock } :=
      confirmSplice_eq (s := s.processing) hu
    have hleft : s.processing.acceptFired.leaveSplice false s.processing = t := by
      rw [hdone]
      exact hleave hl hnoSplice rfl hst
    exact hfired rfl hc ⟨congrArg some hleft, congrArg some hleft⟩
  · intro hc hl t hst
    have hdone : s.processing.acceptNoMatch = { s.processing with
        rcc := if resting = .armed ∧ r.triggered = true then
            { r with splice := .preparing, matchTimer := true, spindleCommand := some r.settings.mode }
          else { r with splice := resting } } := by
      have hestop : s.seq.line ≠ .estop := by rcases hl with h | h <;> rw [h] <;> decide
      refine (triggerTest_eq { s.processing with rcc := { r with splice := r.rest } }).trans ?_
      refine congrArg (fun r => { s.processing with rcc := r }) ?_
      refine if_congr ?_ rfl rfl
      exact ⟨fun ⟨h1, _, h2⟩ => ⟨h1, h2⟩, fun ⟨h1, h2⟩ => ⟨h1, hestop, h2⟩⟩
    refine hreq (reqSpliceResolve_eq (s := s.processing) rfl hc (congrArg some ?_))
    rw [hdone]
    exact hleave hl hnoSplice rfl hst
  · intro u hc hl hforming hu
    have hdone : s.processing.breakFired = State.raise .spliceDone { s.processing with rcc := { r with
          unconfirmed := none, splice := resting
          seams := insertSeam ⟨s.web + s.geometry.seamPath, u.oldId, u.newId, s.clock, .break_⟩ r.seams } } := by
      unfold State.breakFired
      rw [breakPanel_of_none (s := s.processing) hforming]
      dsimp only
      rw [show s.processing.rcc.unconfirmed = some u from hu]
      rfl
    have hleft := (congrArg (fun v => State.leaveSplice false v s.processing) hdone).trans
      (hleave hl hnoSplice rfl (.inl hforming))
    exact hfired rfl hc ⟨congrArg some hleft, congrArg some hleft⟩
  · intro a b n m hne hc hl hforming hroom hn hm t
    obtain rfl := eq_other_of_ne hne
    refine hbroken hc hroom ((congrArg (fun v => State.leaveSplice true v s.processing)
      (breakNoMatch_active (s := s.processing) hforming hn hm)).trans ((hleave hl hneither ?_ (.inl hforming)).trans
      (congrArg (leaves neither) ?_)))
    · exact brokenOff_seq ..
    · rw [brokenOff_setSeq, State.brokenOff]
      simp only [decide_eq_true_eq]
      rfl
  · intro b n m hne hc hl hforming hroom ha hm hn t
    obtain rfl := eq_other_of_ne hne.symm
    refine hbroken hc hroom ((congrArg (fun v => State.leaveSplice true v s.processing)
      (breakNoMatch_free (s := s.processing) hforming ha hm hn)).trans ((hleave hl hneither ?_ (.inl hforming)).trans
      (congrArg (leaves neither) ?_)))
    · exact brokenOff_seq ..
    · rw [brokenOff_setSeq, State.brokenOff]
      simp only [decide_eq_true_eq]
      rfl
  · intro u x hc hu hx hstep hkind hl
    obtain ⟨y, hy⟩ := Option.ne_none_iff_exists'.mp hstep
    obtain ⟨gap, hseq, hsplice, hnone, htrack⟩ := breakFired_forming (s := s.processing) hx hy (hkind y hy) hu
    have hleft : s.processing.breakFired.leaveSplice false s.processing =
        s.processing.breakFired.setSeq fun q => { q with hold := q.hold.resolved false } := by
      refine leaveSplice_stays (before := s.processing) (hl.imp_right fun h => ⟨h.1, ?_⟩) (by rw [hseq]) (by rw [hseq])
      rcases h.2 with h | h | h <;> simp [HoldSet.resolved, HoldSet.nonEmpty, h]
    have hgone : (s.processing.breakFired.setSeq fun q => { q with hold := q.hold.resolved false }).seq =
        { s.seq with hold := noSplice, plan := none, gap := gap, step := none } := by
      rw [setSeq_seq, hseq, ← hnoSplice]
      rfl
    refine ⟨_, hfired rfl hc ⟨congrArg some hleft, congrArg some hleft⟩, ?_, ?_, ?_, ?_, hsplice, hnone, htrack⟩
    all_goals rw [hgone]
  · intro hc hroom
    exact hreq (reqSpliceResolve_refused (s := s.processing) rfl hc (if_pos hroom))

end Sys2Proof.Machine
end

section
/-! PROOFS. LINE-RESET (O46). -/

namespace Sys2Proof.Machine

/-! ## Flags raised -/

/-- Table 11.4.1: the flags in the order of their numbers. -/
def allFlags : List Flag :=
  List.flatten [[.resetDone, .lineState, .held, .estop, .orderDone, .inhibit], segIndices.map Flag.segState,
    segIndices.map Flag.segFault, segIndices.map Flag.applyDone,
    [.standbyNeeded, .spliceDone, .spliceMissed, .rollOut, .seamInPanel, .ceilingChanged, .zoneStarved, .stall],
    zoneIndices.map Flag.zoneSensor, [.steamMeter, .scorch], segIndices.map Flag.lock,
    [.stackFullA, .stackFullB, .rejectBinFull, .exitReportSkipped]]

theorem allFlags_getElem? (f : Flag) : allFlags[f.number]? = some f := by
  cases f with
  | segState i | segFault i | applyDone i | lock i => revert i; decide
  | zoneSensor z => revert z; decide
  | _ => rfl

theorem flag_number_injective {f g : Flag} (h : f.number = g.number) : f = g :=
  Option.some.inj ((allFlags_getElem? f).symm.trans ((congrArg (allFlags[·]?) h).trans (allFlags_getElem? g)))

theorem flagBit_getLsbD {n m : Nat} (hm : m < 48) : (flagBit n).getLsbD m = decide (m = n) := by
  rw [flagBit, BitVec.getLsbD_shiftLeft, decide_eq_true hm, Bool.true_and]
  by_cases h : m < n
  · simp [h, h.ne]
  · simp [h, show m - n = 0 ↔ m = n by omega]

/-- R194: a raised flag is set, and no other. -/
theorem flagSet_raise (g f : Flag) (s : State) : (s.raise g).flagSet f = (s.flagSet f || decide (f = g)) := by
  have hnumber : decide (f.number = g.number) = decide (f = g) :=
    decide_eq_decide.mpr ⟨flag_number_injective, congrArg _⟩
  rcases link_raise_flags g.number s.link with hset | ⟨hwas, hsame⟩
  · show (s.link.raise g.number).flags.getLsbD f.number = _
    rw [hset, BitVec.getLsbD_or, flagBit_getLsbD f.number_lt, hnumber]
    rfl
  · show (s.link.raise g.number).flags.getLsbD f.number = _
    rw [hsame]
    by_cases hfg : f = g
    · subst hfg; simp [hwas]
    · simp [hfg, State.flagSet]

/-- `t` has the flags of `s` and those of which `p` holds. -/
def State.Raised (p : Flag → Bool) (s t : State) : Prop := ∀ f, t.flagSet f = (s.flagSet f || p f)

theorem State.Raised.refl (s : State) : s.Raised (fun _ => false) s := fun _ => (Bool.or_false _).symm

theorem State.Raised.trans {p q : Flag → Bool} {s t u : State} (h : s.Raised p t) (k : t.Raised q u) :
    s.Raised (fun f => p f || q f) u := fun f => by rw [k f, h f, Bool.or_assoc]

/-- R194: a flag raised where `b` says so. -/
theorem State.Raised.raise_if (b : Bool) (g : Flag) (s : State) :
    s.Raised (fun f => b && decide (f = g)) (if b = true then s.raise g else s) := by
  intro f
  cases b with
  | true => exact flagSet_raise g f s
  | false => exact (Bool.or_false _).symm

/-- Operations on different members of a family, each on its own member, in what they leave of the family. -/
theorem foldl_get {α : Type} {get : State → Fin 6 → α} {f : State → Fin 6 → State} {h : α → α}
    (hset : ∀ s i, get (f s i) i = h (get s i)) (hkeep : ∀ s i j, j ≠ i → get (f s i) j = get s j)
    {l : List (Fin 6)} (hl : l.Nodup) (s : State) (i : Fin 6) :
    get (l.foldl f s) i = if i ∈ l then h (get s i) else get s i := by
  induction l generalizing s with
  | nil => rfl
  | cons j l ih =>
    obtain ⟨hj, hl⟩ := List.nodup_cons.mp hl
    rw [List.foldl_cons, ih hl]
    by_cases hij : i = j
    · subst hij; simp [hj, hset]
    · simp [hij, hkeep s j i hij]

/-- R194: operations on different members of a family, each raising a flag of its own where `p` holds of its member. -/
theorem foldl_raised {α : Type} {get : State → Fin 6 → α} {f : State → Fin 6 → State} {p : α → Bool}
    {flag : Fin 6 → Flag} (hraised : ∀ (s : State) i, s.Raised (fun g => p (get s i) && decide (g = flag i)) (f s i))
    (hkeep : ∀ s i j, j ≠ i → get (f s i) j = get s j) {l : List (Fin 6)} (hl : l.Nodup) (s : State) :
    s.Raised (fun g => l.any fun i => p (get s i) && decide (g = flag i)) (l.foldl f s) := by
  induction l generalizing s with
  | nil => exact State.Raised.refl s
  | cons j l ih =>
    obtain ⟨hj, hl⟩ := List.nodup_cons.mp hl
    intro g
    have hrest : (l.any fun i => p (get (f s j) i) && decide (g = flag i)) =
        l.any fun i => p (get s i) && decide (g = flag i) := by
      rw [Bool.eq_iff_iff, List.any_eq_true, List.any_eq_true]
      exact exists_congr fun i => and_congr_right fun hi => by rw [hkeep s j i fun h => hj (h ▸ hi)]
    rw [List.foldl_cons, ih hl (f s j) g, hraised s j g]
    dsimp only
    rw [List.any_cons, hrest, Bool.or_assoc]

theorem any_flag {flag : Fin 6 → Flag} (hinj : ∀ i j, flag i = flag j → i = j) (p : Fin 6 → Bool) (k : Fin 6) :
    (segIndices.any fun i => p i && decide (flag k = flag i)) = p k := by
  rw [Bool.eq_iff_iff, List.any_eq_true]
  constructor
  · rintro ⟨i, -, h⟩
    obtain ⟨hp, hflag⟩ := Bool.and_eq_true_iff.mp h
    rwa [hinj k i (of_decide_eq_true hflag)]
  · intro hp
    exact ⟨k, mem_segIndices k, Bool.and_eq_true_iff.mpr ⟨hp, decide_eq_true rfl⟩⟩

theorem any_flag_of_ne {flag : Fin 6 → Flag} {g : Flag} (hne : ∀ i, g ≠ flag i) (p : Fin 6 → Bool) :
    (segIndices.any fun i => p i && decide (g = flag i)) = false := by
  rw [List.any_eq_false]
  intro i _
  simp [hne i]

/-! ## The blocks at a reset -/

/-- R78: the orders with the started count of the head lowered where a panel is FORMING. -/
def State.ordersBack (s : State) : List Order :=
  match s.orders with
  | o :: rest => (if s.forming?.isSome then { o with started := o.started - 1 } else o) :: rest
  | [] => []

/-- R78: an order has a cancel pending. -/
def State.someCancelled (s : State) : Bool := s.orders.any fun o => decide (o.cancel ≠ .none)

/-- R171: a checker at a reset. -/
def Checker.atReset (k : Checker) : Checker :=
  { k with locked := false, run := 0, matched := 0, outOfTol := 0, missing := 0, extra := 0 }

theorem someCancelled_iff (s : State) : s.someCancelled = true ↔
    (s.ordersBack.filter fun o => decide (o.cancel = .none)).length < s.ordersBack.length := by
  have hback : (s.ordersBack.any fun o => decide (o.cancel ≠ .none)) = s.someCancelled := by
    unfold State.ordersBack State.someCancelled
    cases h : s.orders with
    | nil => rfl
    | cons o rest =>
      dsimp only
      split <;> rfl
  rw [← hback, List.length_filter_lt_length_iff_exists, List.any_eq_true]
  simp only [decide_eq_true_eq, ne_eq]

/-- R78: the orders at a reset. -/
def State.ordersReset (s : State) : State :=
  { s with orders := s.ordersBack.filter fun o => decide (o.cancel = .none) }

theorem resetOrders_eq (s : State) : s.resetOrders =
    if s.someCancelled = true then s.ordersReset.raise .orderDone else s.ordersReset := by
  simp only [someCancelled_iff]
  rfl

/-- R171: one checker at a reset. -/
theorem resetChecker_eq (s : State) (i : Fin 6) : s.resetChecker i =
    if (s.verify.checkers.get i).locked = true then
      (s.setChecker i (s.verify.checkers.get i).atReset).raise (.lock i)
    else s.setChecker i (s.verify.checkers.get i).atReset := rfl

theorem resetChecker_get_same (s : State) (i : Fin 6) :
    (s.resetChecker i).verify.checkers.get i = (s.verify.checkers.get i).atReset := by
  rw [resetChecker_eq]
  split <;> exact Six.get_set_same ..

theorem resetChecker_get_of_ne (s : State) (i j : Fin 6) (h : j ≠ i) :
    (s.resetChecker i).verify.checkers.get j = s.verify.checkers.get j := by
  rw [resetChecker_eq]
  split <;> exact Six.get_set_of_ne _ _ h

/-- R171: the checkers at a reset write the verifier's checkers alone, beside the flags. -/
theorem foldl_resetChecker_eq (s : State) : ∃ link, segIndices.foldl State.resetChecker s = { s with
    verify := { s.verify with checkers := s.verify.checkers.map Checker.atReset }, link := link } := by
  have hshape (l : List (Fin 6)) (t : State) : ∃ checkers link, l.foldl State.resetChecker t =
      { t with verify := { t.verify with checkers := checkers }, link := link } := by
    induction l generalizing t with
    | nil => exact ⟨t.verify.checkers, t.link, rfl⟩
    | cons j l ih =>
      obtain ⟨checkers, link, h⟩ := ih (t.resetChecker j)
      refine ⟨checkers, link, ?_⟩
      rw [List.foldl_cons, h, resetChecker_eq]
      split <;> rfl
  obtain ⟨checkers, link, h⟩ := hshape segIndices s
  refine ⟨link, ?_⟩
  rw [h]
  refine congrArg (fun v => { s with verify := { s.verify with checkers := v }, link := link }) (Six.ext_get fun i => ?_)
  have hget := foldl_get (get := fun s i => s.verify.checkers.get i) resetChecker_get_same resetChecker_get_of_ne
    nodup_segIndices s i
  rw [h, if_pos (mem_segIndices i)] at hget
  rw [Six.get_map]
  exact hget

theorem raised_resetChecker (s : State) (i : Fin 6) :
    s.Raised (fun g => (s.verify.checkers.get i).locked && decide (g = .lock i)) (s.resetChecker i) :=
  .raise_if _ _ (s.setChecker i (s.verify.checkers.get i).atReset)

/-- R156: the steam allocator at a reset. -/
def Steam.atReset (a : Steam) : Steam :=
  { a with starved := Four.fill 0, satisfied := 0, stallTimer := none, stalled := false, ceiling := 100 }

theorem resetSteam_eq (s : State) : s.resetSteam =
    if decide (s.steam.ceiling ≠ 100) = true then State.raise .ceilingChanged { s with steam := s.steam.atReset }
    else { s with steam := s.steam.atReset } := by
  by_cases h : 100 = s.steam.ceiling
  · exact (if_pos h).trans (if_neg (by simpa using h.symm)).symm
  · exact (if_neg h).trans (if_pos (by simpa using fun h' => h h'.symm)).symm

theorem spend_active? (x : Spindle) : x.spend.active? = x.active? := by cases x <;> rfl

theorem spend_standby? (x : Spindle) : x.spend.standby? = x.standby? := by cases x <;> rfl

theorem activeRoll_reset (r : RollChange) : r.reset.activeRoll = r.activeRoll :=
  congrArg₂ Option.or (spend_active? r.u1) (spend_active? r.u2)

theorem standbyRoll_spend (r : RollChange) : (r.mapSpindles Spindle.spend).standbyRoll = r.standbyRoll :=
  congrArg₂ Option.or (spend_standby? r.u1) (spend_standby? r.u2)

/-- R136: what the standby warning looks at stands over a reset. -/
theorem needsStandby_reset (r : RollChange) : r.reset.needsStandby = r.needsStandby := by
  rw [RollChange.needsStandby, RollChange.needsStandby, activeRoll_reset,
    show r.reset.standbyRoll = r.standbyRoll from standbyRoll_spend r]
  rfl

/-- R136: the roll change controller after a reset and the standby warning's evaluation. -/
def RollChange.atReset (r : RollChange) : RollChange := { r.reset with standbyNeeded := r.needsStandby }

theorem evalStandby_reset (s : State) : (s.setRcc RollChange.reset).evalStandby =
    if (s.rcc.needsStandby && !s.rcc.standbyNeeded) = true then
      State.raise .standbyNeeded { s with rcc := s.rcc.atReset }
    else { s with rcc := s.rcc.atReset } := by
  unfold State.evalStandby
  dsimp only [setRcc_rcc]
  rw [needsStandby_reset]
  rfl

/-- R48, R184: the outlets at a reset. -/
def Outlets.atReset (x : Outlets) : Outlets :=
  { x with
    stackA := { x.stackA with reserved := 0 }, stackB := { x.stackB with reserved := 0 }
    rewind := { x.rewind with reserved := 0 }, exits := [] }

/-- R171: the verifier at a reset. -/
def Verifier.atReset (v : Verifier) : Verifier :=
  { v with checkers := v.checkers.map fun k => Checker.atReset { k with queue := [], last := none } }

/-- R78: every block but the sequencer, the segments and the metering unit at a reset. -/
def State.resetBlocks (s : State) : State :=
  ((segIndices.foldl State.resetChecker s.resetOrders.resetTrack.emptyFolds).resetSteam.setRcc
    RollChange.reset).evalStandby

theorem ite_raise_eq (b : Bool) (f : Flag) (s : State) :
    ∃ link, (if b = true then s.raise f else s) = { s with link := link } := by
  cases b with
  | true => exact ⟨_, rfl⟩
  | false => exact ⟨_, rfl⟩

theorem resetBlocks_eq (s : State) : ∃ link, s.resetBlocks = { s with
    orders := s.ordersReset.orders, track := [], outlets := s.outlets.atReset, verify := s.verify.atReset
    steam := s.steam.atReset, rcc := s.rcc.atReset, link := link } := by
  obtain ⟨l₁, horders⟩ := ite_raise_eq s.someCancelled .orderDone s.ordersReset
  obtain ⟨l₂, hchecks⟩ := foldl_resetChecker_eq s.resetOrders.resetTrack.emptyFolds
  obtain ⟨l₃, hsteam⟩ := ite_raise_eq (decide (s.steam.ceiling ≠ 100)) .ceilingChanged { s with
    orders := s.ordersReset.orders, track := [], outlets := s.outlets.atReset, verify := s.verify.atReset
    steam := s.steam.atReset, link := l₂ }
  obtain ⟨l₄, hstandby⟩ := ite_raise_eq (s.rcc.needsStandby && !s.rcc.standbyNeeded) .standbyNeeded { s with
    orders := s.ordersReset.orders, track := [], outlets := s.outlets.atReset, verify := s.verify.atReset
    steam := s.steam.atReset, rcc := s.rcc.atReset, link := l₃ }
  have hfolds : segIndices.foldl State.resetChecker s.resetOrders.resetTrack.emptyFolds = { s with
      orders := s.ordersReset.orders, track := [], outlets := s.outlets.atReset, verify := s.verify.atReset
      link := l₂ } := by
    rw [hchecks, resetOrders_eq, horders]
    rfl
  refine ⟨l₄, ?_⟩
  rw [State.resetBlocks, hfolds, resetSteam_eq]
  refine (congrArg (fun u => (State.setRcc RollChange.reset u).evalStandby) hsteam).trans ?_
  rw [evalStandby_reset]
  exact hstandby

/-- R194: the flags raised by the blocks at a reset. -/
theorem raised_resetBlocks (s : State) : s.Raised (fun f =>
    (s.someCancelled && decide (f = .orderDone)) ||
      ((segIndices.any fun i => (s.verify.checkers.get i).locked && decide (f = .lock i)) ||
        ((decide (s.steam.ceiling ≠ 100) && decide (f = .ceilingChanged)) ||
          ((s.rcc.needsStandby && !s.rcc.standbyNeeded) && decide (f = .standbyNeeded))))) s.resetBlocks := by
  intro f
  have horders : s.resetOrders.flagSet f = (s.flagSet f || (s.someCancelled && decide (f = .orderDone))) := by
    rw [resetOrders_eq]
    exact State.Raised.raise_if s.someCancelled .orderDone s.ordersReset f
  have hlocked (i : Fin 6) :
      (s.resetOrders.resetTrack.emptyFolds.verify.checkers.get i).locked = (s.verify.checkers.get i).locked := by
    obtain ⟨link, h⟩ := ite_raise_eq s.someCancelled .orderDone s.ordersReset
    rw [resetOrders_eq, h, State.emptyFolds, Six.get_map]
    rfl
  have hfolds := foldl_raised (get := fun s i => s.verify.checkers.get i) (flag := Flag.lock)
    raised_resetChecker resetChecker_get_of_ne nodup_segIndices s.resetOrders.resetTrack.emptyFolds f
  simp only [hlocked] at hfolds
  obtain ⟨link, heq⟩ := foldl_resetChecker_eq s.resetOrders.resetTrack.emptyFolds
  obtain ⟨link', horder⟩ := ite_raise_eq s.someCancelled .orderDone s.ordersReset
  rw [← resetOrders_eq] at horder
  generalize hu : segIndices.foldl State.resetChecker s.resetOrders.resetTrack.emptyFolds = u at hfolds heq
  have hceiling : u.steam.ceiling = s.steam.ceiling := by rw [heq, horder]; rfl
  have hrcc : u.rcc = s.rcc := by rw [heq, horder]; rfl
  have hsteam : u.resetSteam.flagSet f =
      (u.flagSet f || (decide (s.steam.ceiling ≠ 100) && decide (f = .ceilingChanged))) := by
    rw [resetSteam_eq, hceiling]
    exact State.Raised.raise_if _ .ceilingChanged { u with steam := u.steam.atReset } f
  have hrcc' : u.resetSteam.rcc = s.rcc := by
    obtain ⟨link, h⟩ := ite_raise_eq (decide (u.steam.ceiling ≠ 100)) .ceilingChanged
      { u with steam := u.steam.atReset }
    rw [resetSteam_eq, h, ← hrcc]
  have hstandby : s.resetBlocks.flagSet f = (u.resetSteam.flagSet f ||
      ((s.rcc.needsStandby && !s.rcc.standbyNeeded) && decide (f = .standbyNeeded))) := by
    rw [State.resetBlocks, hu, evalStandby_reset, hrcc']
    exact State.Raised.raise_if _ .standbyNeeded { u.resetSteam with rcc := s.rcc.atReset } f
  have htrack : s.resetOrders.resetTrack.emptyFolds.flagSet f = s.resetOrders.flagSet f := rfl
  rw [hstandby, hsteam, hfolds, htrack, horders]
  simp only [Bool.or_assoc]

/-- R78: a sequencer already reset enters IDLE from HELD, or stays in IDLE or ESTOP. -/
theorem segsAlone_resetLine {s : State} (a b : Bool)
    (h : s.seq.line = .idle ∨ s.seq.line = .held ∨ s.seq.line = .estop) :
    State.SegsAlone { s with seq := { s.seq.reset a b with
      line := if s.seq.line = .estop then .estop else .idle } } (s.setSeq (Seq.reset a b)).resetLine := by
  have hreset (l : LineState) (hl : s.seq.line = l) :
      { s with seq := { s.seq.reset a b with line := l } } = s.setSeq (Seq.reset a b) := by
    subst hl
    rfl
  rcases h with h | h | h
  · rw [State.resetLine, if_neg (show s.seq.line ≠ .estop by rw [h]; decide),
      if_neg (show (s.setSeq (Seq.reset a b)).seq.line ≠ .estop from h.trans_ne (by decide)), hreset _ h,
      enter_same (s := s.setSeq (Seq.reset a b)) h]
    exact .refl _
  · rw [State.resetLine, if_neg (show s.seq.line ≠ .estop by rw [h]; decide),
      if_neg (show (s.setSeq (Seq.reset a b)).seq.line ≠ .estop from h.trans_ne (by decide)),
      enter_idle_eq (s := s.setSeq (Seq.reset a b)) (h.trans_ne (by decide))]
    exact (State.segsAlone_raise .lineState _).trans (State.segsAlone_standReady _)
  · rw [State.resetLine, if_pos h, if_pos (show (s.setSeq (Seq.reset a b)).seq.line = .estop from h), hreset _ h]
    exact .refl _

/-- R89: what the entry into IDLE at a reset leaves of a segment. -/
def Segment.stood (b : Bool) (g : Segment) : Segment :=
  if (b && decide (g.state = .active)) = true then { g with state := .ready } else g

/-- R95: LINE-RESET parks a segment that is ENGAGING, READY or ACTIVE. -/
def Segment.parksAtReset (g : Segment) : Bool :=
  decide (g.state = .engaging) || decide (g.state = .ready) || decide (g.state = .active)

/-- R95: a segment at LINE-RESET. -/
def Segment.atReset (g : Segment) : Segment :=
  if g.parksAtReset = true then { g with
    status := .none, waiting := none, retryNow := 0, state := .parking, drive := .park
    active := { g.active with engage := false } }
  else { g with status := .none, waiting := none, retryNow := 0 }

theorem resetSeg_eq (s : State) (i : Fin 6) : s.resetSeg i =
    if (s.segs.get i).parksAtReset = true then (s.setSeg i (s.segs.get i).atReset).raise (.segState i)
    else s.setSeg i (s.segs.get i).atReset := by
  unfold State.resetSeg Segment.atReset Segment.parksAtReset
  cases hst : (s.segs.get i).state with
  | engaging | ready | active =>
    simp only [hst, setSeg_get_same, setSeg_setSeg]
    exact (setSegState_setSeg (by simp)).trans (by simp)
  | parked | parking | faulted => simp [hst]

theorem resetLine_get {s : State} (h : s.seq.line = .idle ∨ s.seq.line = .held ∨ s.seq.line = .estop) (i : Fin 6) :
    s.resetLine.segs.get i = (s.segs.get i).stood (decide (s.seq.line = .held)) := by
  rcases h with h | h | h
  · rw [State.resetLine, if_neg (h.trans_ne (by decide)), enter_same h, h]
    rfl
  · rw [State.resetLine, if_neg (h.trans_ne (by decide)),
      enter_get_standing (.inl rfl) (h.trans_ne (by decide)), h, Segment.stood]
    simp
  · rw [State.resetLine, if_pos h, h]
    rfl

theorem atReset_stood (b : Bool) (g : Segment) : (g.stood b).atReset = g.atReset := by
  unfold Segment.stood Segment.atReset Segment.parksAtReset
  cases b <;> cases hst : g.state <;> simp [hst]

theorem parksAtReset_stood (b : Bool) (g : Segment) : (g.stood b).parksAtReset = g.parksAtReset := by
  unfold Segment.stood Segment.parksAtReset
  cases b <;> cases hst : g.state <;> simp [hst]

theorem resetSeg_get_same (s : State) (i : Fin 6) : (s.resetSeg i).segs.get i = (s.segs.get i).atReset := by
  rw [resetSeg_eq]
  split <;> exact setSeg_get_same ..

theorem resetSeg_get_of_ne (s : State) (i j : Fin 6) (h : j ≠ i) : (s.resetSeg i).segs.get j = s.segs.get j := by
  rw [resetSeg_eq]
  split <;> exact setSeg_get_of_ne _ _ h

theorem segsAlone_resetSeg (s : State) (i : Fin 6) : s.SegsAlone (s.resetSeg i) := by
  rw [resetSeg_eq]
  split
  · exact (State.segsAlone_setSeg ..).trans (State.segsAlone_raise ..)
  · exact State.segsAlone_setSeg ..

theorem raised_resetSeg (s : State) (i : Fin 6) :
    s.Raised (fun g => (s.segs.get i).parksAtReset && decide (g = .segState i)) (s.resetSeg i) := by
  rw [resetSeg_eq]
  exact .raise_if _ _ (s.setSeg i (s.segs.get i).atReset)

theorem raised_standReady (s : State) : s.Raised (fun f =>
    segIndices.any fun i => decide ((s.segs.get i).state = .active) && decide (f = .segState i)) s.standReady := by
  refine foldl_raised (get := fun s i => s.segs.get i) (p := fun g => decide (g.state = .active)) (flag := Flag.segState)
    ?_ ?_ nodup_segIndices s
  · intro t i f
    by_cases hact : (t.segs.get i).state = .active
    · rw [if_pos hact, setSegState_of_ne (by rw [hact]; decide)]
      exact (flagSet_raise (.segState i) f _).trans (by dsimp only; rw [decide_eq_true hact, Bool.true_and]; rfl)
    · rw [if_neg hact, decide_eq_false hact]
      simp
  · intro t i j h
    split
    · rw [setSegState_segs]
      exact Six.get_set_of_ne _ _ h
    · rfl

theorem raised_resetLine {s : State} (h : s.seq.line = .idle ∨ s.seq.line = .held ∨ s.seq.line = .estop) :
    s.Raised (fun f => decide (s.seq.line = .held) && (decide (f = .lineState) ||
      segIndices.any fun i => decide ((s.segs.get i).state = .active) && decide (f = .segState i))) s.resetLine := by
  intro f
  rcases h with h | h | h
  · rw [State.resetLine, if_neg (h.trans_ne (by decide)), enter_same h, h]
    exact (Bool.or_false _).symm
  · rw [State.resetLine, if_neg (h.trans_ne (by decide)), enter_idle_eq (h.trans_ne (by decide)),
      raised_standReady _ f, flagSet_raise, h, Bool.or_assoc]
    rfl
  · rw [State.resetLine, if_pos h, h]
    exact (Bool.or_false _).symm

/-! ## LINE-RESET -/

theorem lineReset_parts (s : State) : s.lineReset = State.raise .resetDone
    (segIndices.foldl State.resetSeg (s.resetBlocks.setSeq
      (Seq.reset s.resetBlocks.rcc.activeRoll.isSome s.resetBlocks.someFaulted)).resetLine.dropFeeds) := by
  unfold State.lineReset State.resetBlocks
  rfl

theorem State.SegsAlone.eq {s t : State} (h : s.SegsAlone t) : t = { s with segs := t.segs, link := t.link } := by
  obtain ⟨⟨h₁, h₂, h₃, h₄, h₅, h₆, h₇, h₈, h₉, h₁₀, h₁₁, h₁₂, h₁₃, h₁₄, h₁₅, h₁₆, h₁₇⟩, h₁₈, h₁₉⟩ := h
  cases s
  cases t
  simp_all

/-- R78: what an accepted LINE-RESET makes of everything but the segments and the link. -/
def State.resetFrame (s : State) : State :=
  { s with
    seq := { s.seq.reset s.rcc.activeRoll.isSome s.someFaulted with
      line := if s.seq.line = .estop then .estop else .idle }
    orders := s.ordersReset.orders, track := [], outlets := s.outlets.atReset, verify := s.verify.atReset
    steam := s.steam.atReset, rcc := s.rcc.atReset, fmu := s.fmu.map FeedSeg.outOfStep }

/-- R78: an accepted LINE-RESET in everything but the segments and the link. -/
theorem lineReset_frame {s : State} (h : s.seq.line = .idle ∨ s.seq.line = .held ∨ s.seq.line = .estop) :
    s.resetFrame.SegsAlone s.lineReset := by
  obtain ⟨link, hblocks⟩ := resetBlocks_eq s
  have hline := (segsAlone_resetLine (s := s.resetBlocks) s.resetBlocks.rcc.activeRoll.isSome
    s.resetBlocks.someFaulted (by rwa [hblocks])).eq
  rw [lineReset_parts]
  refine .trans ?_ ((State.SegsAlone.foldl segsAlone_resetSeg _ _).trans (State.segsAlone_raise .resetDone _))
  rw [hline, hblocks, State.resetFrame]
  constructor
  · constructor <;> rfl
  · exact congrArg (fun b => ({ s.seq.reset b s.someFaulted with
      line := if s.seq.line = .estop then .estop else .idle } : Seq)) (congrArg Option.isSome (activeRoll_reset s.rcc))
  · rfl

/-- R95: an accepted LINE-RESET on the segments. -/
theorem lineReset_get {s : State} (h : s.seq.line = .idle ∨ s.seq.line = .held ∨ s.seq.line = .estop) (i : Fin 6) :
    s.lineReset.segs.get i = (s.segs.get i).atReset := by
  obtain ⟨link, hblocks⟩ := resetBlocks_eq s
  rw [lineReset_parts, raise_segs, foldl_get (get := fun s i => s.segs.get i) resetSeg_get_same resetSeg_get_of_ne
    nodup_segIndices, if_pos (mem_segIndices i)]
  refine (congrArg Segment.atReset (resetLine_get (s := s.resetBlocks.setSeq _) (by rw [hblocks]; exact h) i)).trans ?_
  rw [atReset_stood, hblocks]
  rfl

/-- R194: the flags an accepted LINE-RESET raises. -/
theorem lineReset_raised {s : State} (h : s.seq.line = .idle ∨ s.seq.line = .held ∨ s.seq.line = .estop) (f : Flag) :
    s.lineReset.flagSet f = (s.resetBlocks.flagSet f ||
      (decide (s.seq.line = .held) && (decide (f = .lineState) ||
        segIndices.any fun i => decide ((s.segs.get i).state = .active) && decide (f = .segState i))) ||
      (segIndices.any fun i => (s.segs.get i).parksAtReset && decide (f = .segState i)) ||
      decide (f = .resetDone)) := by
  obtain ⟨link, hblocks⟩ := resetBlocks_eq s
  have hline : s.resetBlocks.seq.line = s.seq.line := by rw [hblocks]
  have hsegs : s.resetBlocks.segs = s.segs := by rw [hblocks]
  rw [lineReset_parts, flagSet_raise, foldl_raised (get := fun s i => s.segs.get i) (p := Segment.parksAtReset)
    (flag := Flag.segState) raised_resetSeg resetSeg_get_of_ne nodup_segIndices]
  have hentry := raised_resetLine (s := s.resetBlocks.setSeq
    (Seq.reset s.resetBlocks.rcc.activeRoll.isSome s.resetBlocks.someFaulted)) (by rw [setSeq_seq]; exact hline ▸ h) f
  have hget := resetLine_get (s := s.resetBlocks.setSeq
    (Seq.reset s.resetBlocks.rcc.activeRoll.isSome s.resetBlocks.someFaulted)) (by rw [setSeq_seq]; exact hline ▸ h)
  generalize (s.resetBlocks.setSeq
    (Seq.reset s.resetBlocks.rcc.activeRoll.isSome s.resetBlocks.someFaulted)).resetLine = u at hentry hget
  have hparks (i : Fin 6) : (u.dropFeeds.segs.get i).parksAtReset = (s.segs.get i).parksAtReset :=
    (congrArg Segment.parksAtReset (hget i)).trans ((parksAtReset_stood ..).trans (by rw [setSeq_segs, hsegs]))
  simp only [hparks]
  refine congrArg (fun b => b || _ || _) (hentry.trans ?_)
  simp only [setSeq_segs, setSeq_seq, hsegs]
  exact congrArg (fun l => s.resetBlocks.flagSet f || (decide (l = LineState.held) && _)) hline

@[simp] theorem processing_flagSet (f : Flag) (s : State) : s.processing.flagSet f = s.flagSet f := rfl

/-- Settles O46. -/
theorem lineResetClears : Obligations.LineResetClears := by
  unfold Obligations.LineResetClears
  intro tag s ha
  dsimp only
  have hreq : ∀ {u code items}, State.reqLineReset s.processing = (u, ⟨code, items⟩) →
      exec (.lineReset tag) s = .next (State.replied 0x26#8 tag code items u) :=
    fun hr => exec_request_accepted (r := .lineReset) rfl ha hr
  constructor
  · intro h
    refine hreq ?_
    unfold State.reqLineReset
    rcases h with h | h | h | h <;> simp only [processing_seq, h] <;> rfl
  · intro h
    have h' : s.processing.seq.line = .idle ∨ s.processing.seq.line = .held ∨ s.processing.seq.line = .estop := h
    have hframe := lineReset_frame h'
    refine ⟨s.processing.lineReset, hreq ?_, hframe.seq.trans ?_, hframe.orders, hframe.track, hframe.nextPanel, hframe.web,
      hframe.conv, hframe.outlets, hframe.verify.trans ?_, hframe.zones, hframe.steam, hframe.rcc.trans ?_, hframe.fmu,
      fun i => lineReset_get h' i, fun f => ?_, ?_⟩
    · unfold State.reqLineReset
      rcases h' with h' | h' | h' <;> rw [h'] <;> rfl
    · simp only [State.resetFrame, Seq.reset, Option.not_isSome]
      rfl
    · rfl
    · simp only [State.resetFrame, RollChange.atReset, RollChange.reset, RollChange.rest, standbyRoll_spend]
      rfl
    · rw [lineReset_raised h' f, raised_resetBlocks s.processing f]
      beta_reduce
      have hstate (p : Fin 6 → Bool) (hf : ∀ i, f ≠ .segState i) :=
        any_flag_of_ne (flag := Flag.segState) hf p
      have hlock (p : Fin 6 → Bool) (hf : ∀ i, f ≠ .lock i) := any_flag_of_ne (flag := Flag.lock) hf p
      cases f with
      | segState i =>
        rw [hlock _ (by simp), any_flag (fun _ _ => Flag.segState.inj), any_flag (fun _ _ => Flag.segState.inj)]
        cases hst : (s.segs.get i).state <;> simp [Segment.parksAtReset, hst]
      | lock i =>
        rw [any_flag (fun _ _ => Flag.lock.inj), hstate _ (by simp), hstate _ (by simp)]
        simp
      | lineState | ceilingChanged =>
        rw [hlock _ (by simp), hstate _ (by simp), hstate _ (by simp)]
        simp only [reduceCtorEq, decide_false, Bool.and_false, Bool.or_false, Bool.false_or, decide_true, Bool.and_true,
          processing_flagSet]
        rfl
      | _ =>
        rw [hlock _ (by simp), hstate _ (by simp), hstate _ (by simp)]
        simp [State.someCancelled]
    · exact s.processing.lineReset_standing

end Sys2Proof.Machine
end

section
/-! PROOFS. How a step starts: the NOW copies, the segments that go active, the feeds; and the pace timer's expiry (O54). -/

namespace Sys2Proof.Machine

/-! ## Segments at a step start -/

/-- R83: a segment after the NOW copies of a step start. -/
def Segment.nowCopied (g : Segment) : Segment :=
  if g.waiting = some .now then
    { g with active := g.active.takeNow g.staged, status := .done, waiting := none }
  else g

/-- R64, R71, R89: a segment as a step starts, before its drive step is commanded. -/
def Segment.begun (stroke : Bool) (g : Segment) : Segment :=
  if stroke = true then
    { g.nowCopied with state := if g.state = .ready then .active else g.state, retryNow := 0 }
  else g.nowCopied

@[simp] theorem nowCopied_state (g : Segment) : g.nowCopied.state = g.state := by
  unfold Segment.nowCopied; split <;> rfl

@[simp] theorem nowCopied_drive (g : Segment) : g.nowCopied.drive = g.drive := by
  unfold Segment.nowCopied; split <;> rfl

@[simp] theorem begun_drive (b : Bool) (g : Segment) : (g.begun b).drive = g.drive := by
  cases b <;> exact nowCopied_drive g

@[simp] theorem begun_active (b : Bool) (g : Segment) : (g.begun b).active = g.nowCopied.active := by
  cases b <;> rfl

@[simp] theorem begun_engaged (b : Bool) (g : Segment) : (g.begun b).engaged = g.engaged := by
  cases b
  · exact congrArg SegState.engaged (nowCopied_state g)
  · show SegState.engaged (if g.state = .ready then .active else g.state) = g.state.engaged
    cases g.state <;> rfl

theorem nowCopies_segs (s : State) : s.nowCopies.segs = s.segs.map Segment.nowCopied := by
  refine Six.ext_get fun i => ?_
  rw [Six.get_map]
  refine (foldl_segs_get (h := Segment.nowCopied) ?_ nodup_segIndices s i).trans (if_pos (mem_segIndices i))
  intro t j
  simp only [Segment.waitsFor, decide_eq_true_eq, Segment.nowCopied]
  split
  · exact (setStatus_segs ..).trans (by rw [setSeg_get_same]; exact Six.set_set ..)
  · exact (Six.set_get_self ..).symm

theorem goActive_segs (s : State) : s.goActive.segs =
    s.segs.map fun g => { g with state := if g.state = .ready then .active else g.state } := by
  refine Six.ext_get fun i => ?_
  rw [Six.get_map]
  refine (foldl_segs_get (h := fun g => { g with state := if g.state = .ready then .active else g.state }) ?_
    nodup_segIndices s i).trans (if_pos (mem_segIndices i))
  intro t j
  split
  · exact setSegState_segs ..
  · exact (Six.set_get_self ..).symm

theorem nowCopies_eq (s : State) :
    ∃ link, s.nowCopies = { s with segs := s.segs.map Segment.nowCopied, link := link } :=
  ⟨s.nowCopies.link, nowCopies_segs s ▸ (State.segsAlone_nowCopies s).eq⟩

theorem goActive_eq (s : State) : ∃ link, s.goActive = { s with
    segs := s.segs.map fun g => { g with state := if g.state = .ready then .active else g.state }, link := link } :=
  ⟨s.goActive.link, goActive_segs s ▸ (State.segsAlone_goActive s).eq⟩

/-! ## Feeds -/

/-- R111, R112: the drive step commanded and the figures kept of a segment at a step start. -/
def Segment.fed (isGap : Bool) (c : FabricClass) (x : StepFigures) (f : FeedSeg) (g : Segment) : FeedSeg × Drive :=
  if g.engaged = true then f.startStep isGap c g.active.feedTrim x else (f.outOfStep, g.drive)

/-- R112: the feed of one segment at a step start. -/
def State.startFeed (isGap : Bool) (c : FabricClass) (figures : Fin 6 → StepFigures) (s : State) (i : Fin 6) : State :=
  { s with
    segs := s.segs.set i { s.segs.get i with drive := ((s.segs.get i).fed isGap c (figures i) (s.fmu.get i)).2 }
    fmu := s.fmu.set i ((s.segs.get i).fed isGap c (figures i) (s.fmu.get i)).1 }

theorem startFeeds_foldl (isGap : Bool) (c : FabricClass) (figures : Fin 6 → StepFigures) (s : State) :
    s.startFeeds isGap c figures = segIndices.foldl (State.startFeed isGap c figures) s := by
  refine congrArg (fun f => segIndices.foldl f s) (funext fun t => funext fun i => ?_)
  by_cases h : (t.segs.get i).engaged = true
  · simp only [if_pos h, State.startFeed, Segment.fed]
    rfl
  · simp only [if_neg h, State.startFeed, Segment.fed]
    exact congrArg (fun x => { t with segs := x, fmu := t.fmu.set i (t.fmu.get i).outOfStep })
      (Six.set_get_self ..).symm

theorem foldl_startFeed (isGap : Bool) (c : FabricClass) (figures : Fin 6 → StepFigures) {l : List (Fin 6)}
    (hl : l.Nodup) (s : State) : l.foldl (State.startFeed isGap c figures) s = { s with
      segs := Six.tabulate fun i => if i ∈ l then { s.segs.get i with
        drive := ((s.segs.get i).fed isGap c (figures i) (s.fmu.get i)).2 } else s.segs.get i
      fmu := Six.tabulate fun i => if i ∈ l then
        ((s.segs.get i).fed isGap c (figures i) (s.fmu.get i)).1 else s.fmu.get i } := by
  induction l generalizing s with
  | nil =>
    simp only [List.not_mem_nil, if_false]
    exact congrArg₂ (fun x y => { s with segs := x, fmu := y })
      (Six.ext_get fun i => (Six.get_tabulate ..).symm) (Six.ext_get fun i => (Six.get_tabulate ..).symm)
  | cons j l ih =>
    obtain ⟨hj, hl⟩ := List.nodup_cons.mp hl
    rw [List.foldl_cons, ih hl]
    refine congrArg₂ (fun x y => { s with segs := x, fmu := y }) (Six.ext_get fun i => ?_) (Six.ext_get fun i => ?_)
    all_goals
      rw [Six.get_tabulate, Six.get_tabulate]
      by_cases hij : i = j
      · subst hij; simp [hj, State.startFeed]
      · simp [hij, State.startFeed, Six.get_set_of_ne]

/-- R111, R112: what a step start commands and keeps. -/
theorem startFeeds_eq (isGap : Bool) (c : FabricClass) (figures : Fin 6 → StepFigures) (s : State) :
    s.startFeeds isGap c figures = { s with
      segs := Six.tabulate fun i => { s.segs.get i with
        drive := ((s.segs.get i).fed isGap c (figures i) (s.fmu.get i)).2 }
      fmu := Six.tabulate fun i => ((s.segs.get i).fed isGap c (figures i) (s.fmu.get i)).1 } := by
  rw [startFeeds_foldl, foldl_startFeed isGap c figures nodup_segIndices]
  simp only [mem_segIndices, if_true]

/-! ## Step starts -/

/-- The step kind is a stroke cycle. -/
def StepKind.isStroke : StepKind → Bool
  | .stroke _ => true
  | .flat | .gap => false

/-- R64: the state at a step start in which the feeds are computed. -/
def State.stepReady (kind : StepKind) (advance : Nat) (link : Link) (s : State) : State :=
  { s with
    segs := s.segs.map (Segment.begun kind.isStroke)
    rcc := { s.rcc with edgeSeen := false }
    seq := { s.seq with
      pace := .running s.pacePeriod, step := some ⟨kind, advance, .feed⟩
      backoffs := if kind.isStroke = true then 0 else s.seq.backoffs }
    link := link }

/-- R64, R112, R128: a step start, feeds included. -/
theorem beginStep_eq (kind : StepKind) (advance cls : Nat) (figures : State → Fin 6 → StepFigures) (s : State) :
    ∃ link, s.beginStep kind advance cls figures = (s.stepReady kind advance link).startFeeds
      (decide (kind = .gap)) (s.classFields cls) (figures (s.stepReady kind advance link)) := by
  obtain ⟨l₁, hcopies⟩ := nowCopies_eq s
  obtain ⟨l₂, hactive⟩ := goActive_eq { s with segs := s.segs.map Segment.nowCopied, link := l₁ }
  unfold State.beginStep
  rw [hcopies]
  cases kind with
  | stroke dir =>
    refine ⟨l₂, ?_⟩
    dsimp only
    rw [hactive]
    have hsegs : ((s.segs.map Segment.nowCopied).map fun g =>
        ({ g with state := if g.state = .ready then .active else g.state } : Segment)).map
          (fun g => { g with retryNow := 0 }) = s.segs.map (Segment.begun true) := by
      refine Six.ext_get fun i => ?_
      simp only [Six.get_map, nowCopied_state]
      rfl
    have hready := congrArg (fun x => ({ State.stepReady (.stroke dir) advance l₂ s with segs := x } : State)) hsegs
    exact congrArg (fun u => State.startFeeds (decide (StepKind.stroke dir = .gap)) (s.classFields cls) (figures u) u)
      hready
  | flat | gap => exact ⟨l₁, rfl⟩

/-- R82, R83: the NOW copies of a step start raise APPLY_DONE of every segment that waited for one. -/
theorem nowCopies_flags {i : Fin 6} {s : State} (hw : (s.segs.get i).waiting = some .now)
    (hst : (s.segs.get i).status = .pending) : s.nowCopies.flagSet (.applyDone i) = true := by
  have hraised : ∀ (t : State) (j : Fin 6), t.Raised
      (fun f => ((t.segs.get j).waitsFor .now && (t.segs.get j).status.busy) && decide (f = .applyDone j))
      (if (t.segs.get j).waitsFor .now = true then t.nowCopy j else t) := by
    intro t j f
    by_cases hj : (t.segs.get j).waitsFor .now = true
    · rw [if_pos hj, hj]
      by_cases hbusy : (t.segs.get j).status.busy = true
      · rw [hbusy]
        have hcopy : t.nowCopy j = State.raise (.applyDone j) (t.setSeg j { t.segs.get j with
            active := (t.segs.get j).active.takeNow (t.segs.get j).staged, status := .done, waiting := none }) :=
          setStatus_setSeg_busy hbusy rfl
        rw [hcopy, flagSet_raise]
        rfl
      · rw [Bool.eq_false_iff.mpr hbusy, State.nowCopy, setStatus_of_idle
          (by rw [setSeg_get_same]; exact Bool.eq_false_iff.mpr hbusy) (by decide)]
        exact (Bool.or_false _).symm
    · rw [if_neg hj, Bool.eq_false_iff.mpr hj]
      exact (Bool.or_false _).symm
  have hkeep : ∀ (t : State) (j k : Fin 6), k ≠ j →
      (if (t.segs.get j).waitsFor .now = true then t.nowCopy j else t).segs.get k = t.segs.get k := by
    intro t j k hne
    split
    · rw [State.nowCopy, setStatus_segs, Six.get_set_of_ne _ _ hne, setSeg_get_of_ne _ _ hne]
    · rfl
  have hall := foldl_raised (get := fun s i => s.segs.get i) (p := fun g => g.waitsFor .now && g.status.busy)
    (flag := Flag.applyDone) hraised hkeep nodup_segIndices s (.applyDone i)
  rw [State.nowCopies, hall]
  beta_reduce
  rw [any_flag (fun _ _ => Flag.applyDone.inj), Segment.waitsFor, hw, hst]
  exact Bool.or_true _

theorem flagSet_of_link {f : Flag} {s t : State} (h : t.link = s.link) : t.flagSet f = s.flagSet f := by
  rw [State.flagSet, State.flagSet, h]

theorem flagSet_raise_of_set {f g : Flag} {s : State} (h : s.flagSet f = true) : (s.raise g).flagSet f = true := by
  rw [flagSet_raise, h, Bool.true_or]

theorem flagSet_foldl {f : Flag} {op : State → Fin 6 → State}
    (hop : ∀ s i, s.flagSet f = true → (op s i).flagSet f = true) (l : List (Fin 6)) {s : State}
    (h : s.flagSet f = true) : (l.foldl op s).flagSet f = true := by
  induction l generalizing s with
  | nil => exact h
  | cons i l ih => exact ih (hop s i h)

theorem goActive_flags {f : Flag} {s : State} (h : s.flagSet f = true) : s.goActive.flagSet f = true := by
  refine flagSet_foldl (fun t i ht => ?_) _ h
  unfold State.setSegState
  split
  · split
    · exact ht
    · exact flagSet_raise_of_set ht
  · exact ht

/-- R64, R112, R128: a step of the kind, advance, class and figures has started in `s`, and `t` is the state after. -/
structure State.StepBegun (kind : StepKind) (advance cls : Nat) (figures : Fin 6 → StepFigures) (s t : State) :
    Prop where
  frame : t = { s with
    segs := t.segs, fmu := t.fmu, link := t.link
    rcc := { s.rcc with edgeSeen := false }
    seq := { s.seq with
      pace := .running s.pacePeriod, step := some ⟨kind, advance, .feed⟩
      backoffs := if kind.isStroke = true then 0 else s.seq.backoffs } }
  segs : ∀ i, t.segs.get i = { (s.segs.get i).begun kind.isStroke with
    drive := (((s.segs.get i).begun kind.isStroke).fed (decide (kind = .gap)) (s.classFields cls) (figures i)
      (s.fmu.get i)).2 }
  fmu : ∀ i, t.fmu.get i = (((s.segs.get i).begun kind.isStroke).fed (decide (kind = .gap)) (s.classFields cls)
    (figures i) (s.fmu.get i)).1
  applied : ∀ i, (s.segs.get i).waiting = some .now → (s.segs.get i).status = .pending →
    t.flagSet (.applyDone i) = true

theorem beginStep_begun {kind : StepKind} {advance cls : Nat} {figures : State → Fin 6 → StepFigures}
    {figures' : Fin 6 → StepFigures} {s : State}
    (hfig : ∀ link, figures (s.stepReady kind advance link) = figures') :
    State.StepBegun kind advance cls figures' s (s.beginStep kind advance cls figures) := by
  obtain ⟨link, heq⟩ := beginStep_eq kind advance cls figures s
  rw [hfig, startFeeds_eq] at heq
  refine ⟨?_, fun i => ?_, fun i => ?_, fun i hw hst => ?_⟩
  · rw [heq]
    rfl
  · rw [heq]
    simp only [Six.get_tabulate, State.stepReady, Six.get_map]
  · rw [heq]
    simp only [Six.get_tabulate, State.stepReady, Six.get_map]
  · have hcopied := nowCopies_flags hw hst
    unfold State.beginStep
    rw [startFeeds_eq]
    unfold State.flagSet at hcopied ⊢
    cases kind with
    | stroke dir =>
      have hactive := goActive_flags (f := .applyDone i) (s := s.nowCopies) hcopied
      unfold State.flagSet at hactive
      dsimp only [State.setSeq, State.setRcc, State.restartPace, State.clearRetries]
      exact hactive
    | flat | gap =>
      dsimp only [State.setSeq, State.setRcc, State.restartPace]
      exact hcopied

theorem nextStep_gap {s : State} {g : Gap} (h : s.seq.gap = some g) :
    State.StepBegun .gap g.length g.cls (fun _ => ⟨g.length, 0⟩) { s with seq := { s.seq with gap := none } }
      s.nextStep := by
  unfold State.nextStep
  rw [h]
  exact beginStep_begun fun _ => rfl

theorem nextStep_flat {s : State} {p : Plan} {length need : Nat} (hgap : s.seq.gap = none) (hplan : s.seq.plan = some p)
    (hrun : p.runs[p.run]? = some (.flat length need)) :
    State.StepBegun .flat length p.cls (fun _ => ⟨length, 0⟩) s s.nextStep := by
  unfold State.nextStep
  simp only [hgap, hplan, hrun]
  exact beginStep_begun fun _ => rfl

/-- R101, R103: the figures of a stroke, with the trims as the NOW copies of its start leave them. -/
def State.strokeStart (spacing : Nat) (taper : Six Nat) (s : State) (i : Fin 6) : StepFigures :=
  let d := bladeDepth (taper.get i) (s.segs.get i).nowCopied.active.depthTrim
  ⟨spacing + 2 * d, d⟩

theorem nextStep_pleat {s : State} {p : Plan} {n : Nat} {form : Form} {locked : Bool} {spacing : Nat} {taper : Six Nat}
    {planned : Six (Option Nat)} {need : Nat} (hgap : s.seq.gap = none) (hplan : s.seq.plan = some p)
    (hrun : p.runs[p.run]? = some (.pleat n form locked spacing taper planned need)) :
    ∃ u, State.StepBegun (.stroke (form.direction p.stroke)) spacing p.cls (s.strokeStart spacing taper) s u
      ∧ s.nextStep = u.markClamped taper := by
  refine ⟨_, beginStep_begun (figures := strokeFigures spacing taper) fun link => funext fun i => ?_, ?_⟩
  · simp only [strokeFigures, State.stepReady, Six.get_map, begun_active, State.strokeStart]
  · unfold State.nextStep
    simp only [hgap, hplan, hrun]

/-! ## The pace timer -/

theorem paceExpires_of_not_running {s : State} (h : ∀ p, s.seq.pace ≠ .running p) : s.paceExpires = s := by
  unfold State.paceExpires
  cases hp : s.seq.pace with
  | running p => exact absurd hp (h p)
  | stopped | expired => rfl

theorem moving_iff (l : LineState) : l.moving = true ↔ l = .running ∨ l = .holding ∨ l = .draining := by
  cases l <;> decide

/-- The line with its pace timer expired. -/
def State.paceOut (s : State) : State := { s with seq := { s.seq with pace := .expired } }

theorem paceExpires_remembered {s : State} {p : Nat} (hp : s.seq.pace = .running p)
    (h : s.seq.step.isSome = true ∨ ¬ s.seq.line.moving = true) : s.paceExpires = s.paceOut := by
  have hnot : ¬ (s.seq.step.isNone && s.seq.line.moving) = true := by
    rw [Bool.and_eq_true, Option.isNone_iff_eq_none, not_and]
    intro hnone
    exact h.resolve_left (by rw [hnone]; decide)
  unfold State.paceExpires
  rw [hp]
  exact if_neg hnot

theorem paceExpires_next {s : State} {p : Nat} (hp : s.seq.pace = .running p) (hstep : s.seq.step = none)
    (hmove : s.seq.line.moving = true) : s.paceExpires = s.paceOut.nextStep := by
  unfold State.paceExpires
  rw [hp, hstep, hmove]
  rfl

theorem direction_eq (form : Form) (k : Nat) : form.direction k =
    if form = .knifeL ∨ form = .box ∧ k % 2 = 0 ∨ form = .inverted ∧ k % 2 = 1 then .left else .right := by
  cases form <;> rcases Nat.mod_two_eq_zero_or_one k with h | h <;> simp [Form.direction, h]

theorem nowCopied_active (g : Segment) : g.nowCopied.active = if g.waiting = some .now then { g.active with
      depthTrim := g.staged.depthTrim, feedTrim := g.staged.feedTrim, tensionLimit := g.staged.tensionLimit }
    else g.active := by
  unfold Segment.nowCopied; split <;> rfl

/-- R83: what a step start leaves of a segment's copies. -/
theorem begun_copies (b : Bool) (g : Segment) :
    if g.waiting = some .now then (g.begun b).status = .done ∧ (g.begun b).waiting = none
    else (g.begun b).status = g.status ∧ (g.begun b).waiting = g.waiting := by
  cases b <;> unfold Segment.begun Segment.nowCopied <;> split <;> exact ⟨rfl, rfl⟩

theorem markClamped_eq (taper : Six Nat) (s : State) : s.markClamped taper =
    if s.engagedSegs.any (fun i => depthClampActs (taper.get i) (s.segs.get i).active.depthTrim) = true then
      { s with track := s.track.map fun p => if p.state = .forming then { p with depthClamped := true } else p }
    else s := by
  rw [State.markClamped, mapForming_eq]

theorem engaged_any_iff {s : State} {q : Fin 6 → Bool} :
    s.engagedSegs.any q = true ↔ ∃ i, (s.segs.get i).engaged = true ∧ q i = true := by
  rw [List.any_eq_true]
  simp only [State.engagedSegs, List.mem_filter, mem_segIndices, true_and]

namespace State.StepBegun

variable {kind : StepKind} {advance cls : Nat} {figures : Fin 6 → StepFigures} {s t : State}

theorem track (h : State.StepBegun kind advance cls figures s t) : t.track = s.track := (congrArg State.track h.frame :)
theorem web (h : State.StepBegun kind advance cls figures s t) : t.web = s.web := (congrArg State.web h.frame :)
theorem conv (h : State.StepBegun kind advance cls figures s t) : t.conv = s.conv := (congrArg State.conv h.frame :)
theorem orders (h : State.StepBegun kind advance cls figures s t) : t.orders = s.orders :=
  (congrArg State.orders h.frame :)

theorem seq (h : State.StepBegun kind advance cls figures s t) : t.seq = { s.seq with
    pace := .running s.pacePeriod, step := some ⟨kind, advance, .feed⟩
    backoffs := if kind.isStroke = true then 0 else s.seq.backoffs } := (congrArg State.seq h.frame :)

theorem step (h : State.StepBegun kind advance cls figures s t) :
    t.seq.step = some ⟨kind, advance, .feed⟩ := (congrArg Seq.step h.seq :)
theorem pace (h : State.StepBegun kind advance cls figures s t) :
    t.seq.pace = .running s.pacePeriod := (congrArg Seq.pace h.seq :)
theorem line (h : State.StepBegun kind advance cls figures s t)  : t.seq.line = s.seq.line := (congrArg Seq.line h.seq :)
theorem gap (h : State.StepBegun kind advance cls figures s t)  : t.seq.gap = s.seq.gap := (congrArg Seq.gap h.seq :)
theorem plan (h : State.StepBegun kind advance cls figures s t)  : t.seq.plan = s.seq.plan := (congrArg Seq.plan h.seq :)
theorem hold (h : State.StepBegun kind advance cls figures s t)  : t.seq.hold = s.seq.hold := (congrArg Seq.hold h.seq :)
theorem stop (h : State.StepBegun kind advance cls figures s t)  : t.seq.stop = s.seq.stop := (congrArg Seq.stop h.seq :)
theorem backoffs (h : State.StepBegun kind advance cls figures s t) :
    t.seq.backoffs = if kind.isStroke = true then 0 else s.seq.backoffs := (congrArg Seq.backoffs h.seq :)

theorem active (h : State.StepBegun kind advance cls figures s t) (i : Fin 6) :
    (t.segs.get i).active = (s.segs.get i).nowCopied.active := by
  rw [h.segs]
  exact begun_active ..

theorem copies (h : State.StepBegun kind advance cls figures s t) (i : Fin 6) :
    if (s.segs.get i).waiting = some .now then
      (t.segs.get i).status = .done ∧ (t.segs.get i).waiting = none
        ∧ ((s.segs.get i).status = .pending → t.flagSet (.applyDone i) = true)
    else (t.segs.get i).status = (s.segs.get i).status ∧ (t.segs.get i).waiting = (s.segs.get i).waiting := by
  have hcopies := begun_copies kind.isStroke (s.segs.get i)
  rw [h.segs]
  split
  · next hw =>
    rw [if_pos hw] at hcopies
    exact ⟨hcopies.1, hcopies.2, h.applied i hw⟩
  · next hw => rwa [if_neg hw] at hcopies

theorem feeds (h : State.StepBegun kind advance cls figures s t) (i : Fin 6) :
    if (s.segs.get i).engaged = true then
      (t.fmu.get i, (t.segs.get i).drive) = (s.fmu.get i).startStep (decide (kind = .gap)) (s.classFields cls)
        (s.segs.get i).nowCopied.active.feedTrim (figures i)
    else (t.segs.get i).drive = (s.segs.get i).drive ∧ (t.fmu.get i).inStep = false := by
  rw [h.segs, h.fmu, Segment.fed, begun_engaged, begun_active, begun_drive]
  split
  · rfl
  · exact ⟨rfl, rfl⟩

end State.StepBegun

/-- Settles O54. -/
theorem paceStartsNextStep : Obligations.PaceStartsNextStep := by
  unfold Obligations.PaceStartsNextStep
  intro s run moving period active starts
  have hrun : ∀ {t}, s.paceExpires = t → run = .next (State.served t) := fun h => finish_of_eq h
  have hactive (i : Fin 6) : (s.segs.get i).nowCopied.active = active i := nowCopied_active _
  have hstarts : ∀ {kind adv cls figures u t track},
      State.StepBegun kind adv cls figures u t → u = { s.paceOut with seq := { s.paceOut.seq with gap := none } } →
      s.paceExpires = { t with track := track } →
      starts ⟨kind, adv, .feed⟩ (decide (kind = .gap)) cls figures { t with track := track } := by
    intro kind adv cls figures u t track hb hu ht
    subst hu
    refine ⟨hrun ht, hb.step, hb.pace, hb.line, hb.gap, hb.web, hb.conv,
      fun i => ⟨(hb.active i).trans (hactive i), hb.copies i, ?_⟩⟩
    rw [← hactive i]
    exact hb.feeds i
  have hnogap : s.seq.gap = none →
      s.paceOut = { s.paceOut with seq := { s.paceOut.seq with gap := none } } := by
    intro h
    rw [← h]
    rfl
  refine ⟨fun h => hrun (paceExpires_of_not_running h), fun p hp h => hrun (paceExpires_remembered hp
    (h.imp_right fun hn => mt (moving_iff _).mp hn)), fun p hp hstep hmove => ?_⟩
  have hnext := paceExpires_next hp hstep ((moving_iff _).mpr hmove)
  refine ⟨fun g hg => ?_, fun plan length need hgap hplan hpr => ?_,
    fun plan n form locked spacing taper planned need hgap hplan hpr => ?_⟩
  · have hb := nextStep_gap (s := s.paceOut) hg
    exact ⟨_, hstarts hb rfl hnext, hb.track⟩
  · have hb := nextStep_flat (s := s.paceOut) hgap hplan hpr
    exact ⟨_, hstarts hb (hnogap hgap) hnext, hb.track⟩
  · intro depth left clamps
    obtain ⟨u, hb, hu⟩ := nextStep_pleat (s := s.paceOut) hgap hplan hpr
    have hfig : s.paceOut.strokeStart spacing taper = fun i => ⟨spacing + 2 * depth i, depth i⟩ :=
      funext fun i => by simp only [State.strokeStart, depth, ← hactive]; rfl
    have hclamps : u.engagedSegs.any (fun i => depthClampActs (taper.get i) (u.segs.get i).active.depthTrim) = true ↔
        clamps := by
      rw [engaged_any_iff]
      refine exists_congr fun i => ?_
      have hengaged : (u.segs.get i).engaged = (s.segs.get i).engaged := by
        rw [hb.segs]
        exact begun_engaged ..
      rw [hengaged, hb.active i, ← hactive i, depthClampActs, Bool.or_eq_true, decide_eq_true_eq, decide_eq_true_eq]
      rfl
    have htrack : u.track = s.track := hb.track
    rw [hu, markClamped_eq] at hnext
    rw [hfig, direction_eq] at hb
    have hseg (i : Fin 6) : (u.segs.get i).retryNow = 0
        ∧ (u.segs.get i).state = if (s.segs.get i).state = .ready then .active else (s.segs.get i).state := by
      rw [hb.segs]
      exact ⟨rfl, rfl⟩
    by_cases hc : clamps
    · rw [if_pos (hclamps.mpr hc), htrack] at hnext
      exact ⟨_, hstarts hb (hnogap hgap) hnext, hb.backoffs, fun _ => rfl, fun hn => absurd hc hn, hseg⟩
    · rw [if_neg (mt hclamps.mp hc)] at hnext
      exact ⟨_, hstarts hb (hnogap hgap) hnext, hb.backoffs, fun h => absurd h hc, fun _ => htrack, hseg⟩

end Sys2Proof.Machine
end

section
/-! PROOFS. Backoffs (O57): samples and jams in the stroke phase, withdraws, and the stroke taken up again. -/

namespace Sys2Proof.Machine

/-! ## A fault that holds the line -/

/-- R72, R90: a segment fault before the cut of the step in progress. -/
def State.faultHeld (i : Fin 6) (c : FaultCause) (s : State) : State :=
  (s.faultMarked i c).addHoldAtOnce fun h => { h with fault := true }

/-- R72: a hold at once stops the line. -/
def LineState.stops (l : LineState) : Prop := l = .waiting ∨ l = .running ∨ l = .holding ∨ l = .draining

theorem stands_of_not_stops {l : LineState} (h : ¬ l.stops) : l = .idle ∨ l = .held ∨ l = .estop := by
  revert h
  unfold LineState.stops
  cases l <;> simp

theorem stops_of_moving {l : LineState} (h : l.moving = true) : l.stops := by
  revert h
  unfold LineState.stops
  cases l <;> simp [LineState.moving]

theorem segmentFault_held {i : Fin 6} {c : FaultCause} {s : State} (h : (s.segs.get i).state ≠ .faulted) :
    s.segmentFault i c = (s.faultHeld i c).cutStep.cutPoint := segmentFault_eq h

theorem faultMarked_get {i : Fin 6} {c : FaultCause} {s : State} (h : (s.segs.get i).state ≠ .faulted) (j : Fin 6) :
    (s.faultMarked i c).segs.get j = if j = i then (s.segs.get i).faultedBy c else s.segs.get j := by
  have hsegs : (s.faultMarked i c).segs = s.segs.set i ((s.segs.get i).faultedBy c) := by
    rw [faultMarked_eq h]
    split <;> rfl
  rw [hsegs]
  by_cases hj : j = i
  · subst hj
    rw [if_pos rfl]
    exact Six.get_set_same ..
  · rw [if_neg hj]
    exact Six.get_set_of_ne _ _ hj

theorem faultHeld_stops {i : Fin 6} {c : FaultCause} {s : State} (h : (s.segs.get i).state ≠ .faulted)
    (hl : s.seq.line.stops) : s.faultHeld i c =
      ((s.faultMarked i c).setSeq fun q => { q with hold := { q.hold with fault := true } }).enterHeld :=
  addHoldAtOnce_stops (by rwa [faultMarked_seq i c h])

theorem faultHeld_stands {i : Fin 6} {c : FaultCause} {s : State} (h : (s.segs.get i).state ≠ .faulted)
    (hl : ¬ s.seq.line.stops) : s.faultHeld i c =
      (s.faultMarked i c).setSeq fun q => { q with hold := { q.hold with fault := true } } :=
  addHoldAtOnce_stands (by rw [faultMarked_seq i c h]; exact stands_of_not_stops hl)

/-- R72, R90: the sequencer of a line held at once by a fault. -/
theorem faultHeld_seq_of_stops {i : Fin 6} {c : FaultCause} {s : State} (h : (s.segs.get i).state ≠ .faulted)
    (hl : s.seq.line.stops) : (s.faultHeld i c).seq = { s.seq with
      line := .held, pace := .stopped, hold := { s.seq.hold with fault := true } } := by
  have hline : (s.faultMarked i c).seq.line ≠ .held := by
    rw [faultMarked_seq i c h]
    rcases hl with hl | hl | hl | hl <;> rw [hl] <;> decide
  rw [faultHeld_stops h hl]
  refine (State.rccAlone_pressTest _).seq.trans ((enter_seq (by rw [setSeq_seq]; exact hline)).trans ?_)
  rw [setSeq_seq, faultMarked_seq i c h]
  rfl

theorem faultHeld_seq_of_stands {i : Fin 6} {c : FaultCause} {s : State} (h : (s.segs.get i).state ≠ .faulted)
    (hl : ¬ s.seq.line.stops) :
    (s.faultHeld i c).seq = { s.seq with hold := { s.seq.hold with fault := true } } := by
  rw [faultHeld_stands h hl, setSeq_seq, faultMarked_seq i c h]

theorem faultHeld_get_of_stops {i : Fin 6} {c : FaultCause} {s : State} (h : (s.segs.get i).state ≠ .faulted)
    (hl : s.seq.line.stops) (j : Fin 6) : (s.faultHeld i c).segs.get j =
      if j = i then (s.segs.get i).faultedBy c
      else if (s.segs.get j).state = .active then { s.segs.get j with state := .ready } else s.segs.get j := by
  have hline : (s.faultMarked i c).seq.line ≠ .held := by
    rw [faultMarked_seq i c h]
    rcases hl with hl | hl | hl | hl <;> rw [hl] <;> decide
  rw [faultHeld_stops h hl, State.enterHeld, (State.rccAlone_pressTest _).segs,
    enter_get_standing (.inr rfl) (by rw [setSeq_seq]; exact hline), setSeq_segs, faultMarked_get h]
  by_cases hj : j = i
  · rw [if_pos hj, if_pos hj, if_neg (show (Segment.faultedBy c (s.segs.get i)).state ≠ .active from
      SegState.noConfusion)]
  · rw [if_neg hj, if_neg hj]

theorem faultHeld_get_of_stands {i : Fin 6} {c : FaultCause} {s : State} (h : (s.segs.get i).state ≠ .faulted)
    (hl : ¬ s.seq.line.stops) (j : Fin 6) : (s.faultHeld i c).segs.get j =
      if j = i then (s.segs.get i).faultedBy c else s.segs.get j := by
  rw [faultHeld_stands h hl, setSeq_segs, faultMarked_get h]

/-! ## The cut -/

theorem cutStep_backoff {s : State} {x : StepRec} (h : s.seq.step = some x) (hx : x.phase = .backoff) :
    s.cutStep = s.setPhase .strokeCut := by
  unfold State.cutStep
  simp only [h, hx]

theorem cutPoint_of_not_moving {s : State} {x : StepRec} (h : s.seq.step = some x) (hx : x.phase ≠ .feedCut)
    (hm : s.seq.line.moving = false) : s.cutPoint = s := by
  unfold State.cutPoint
  rw [h]
  cases hp : x.phase with
  | feedCut => exact absurd hp hx
  | strokeCut => simp only [hp]; exact if_neg (by rw [hm]; decide)
  | feed | fed | stroke | backoff => simp only [hp]

/-- R71: a fault in a backoff of a line that makes steps: the line stands HELD and the backoff's withdraws run on. -/
theorem segmentFault_backoff {i : Fin 6} {c : FaultCause} {s : State} {x : StepRec}
    (h : (s.segs.get i).state ≠ .faulted) (hl : s.seq.line.stops) (hs : s.seq.step = some x) (hx : x.phase = .backoff) :
    s.segmentFault i c = (s.faultHeld i c).setPhase .strokeCut := by
  have hseq := faultHeld_seq_of_stops (c := c) h hl
  have hstep : (s.faultHeld i c).seq.step = some x := by rw [hseq, ← hs]
  rw [segmentFault_held h, cutStep_backoff hstep hx]
  refine cutPoint_of_not_moving (x := { x with phase := .strokeCut }) ?_ Phase.noConfusion ?_
  · rw [State.setPhase, setSeq_seq, hstep]
    rfl
  · rw [State.setPhase, setSeq_seq, hseq]
    rfl

/-! ## Backoffs -/

theorem offend_of_not {i : Fin 6} {s : State}
    (h : s.seq.step.map (·.phase) ≠ some .stroke ∨ (s.segs.get i).engaged = false) : s.offend i = s := by
  refine if_neg ?_
  rw [Bool.and_eq_true, decide_eq_true_eq, not_and_or, Bool.not_eq_true]
  exact h

theorem offend_begins {i : Fin 6} {s : State} (h : s.seq.step.map (·.phase) = some .stroke)
    (he : (s.segs.get i).engaged = true) : s.offend i = s.beginBackoff i :=
  if_pos (Bool.and_eq_true_iff.mpr ⟨decide_eq_true h, he⟩)

theorem retryTest_of_phase {s : State} (h : s.seq.step.map (·.phase) ≠ some .backoff) : s.retryTest = s := by
  unfold State.retryTest
  split
  · next hs => exact absurd (by rw [hs]; rfl) h
  · rfl

theorem retryTest_backoff {s : State} {dir : Direction} {adv : Nat} (h : s.seq.step = some ⟨.stroke dir, adv, .backoff⟩) :
    s.retryTest = if s.withdrawsOut = false ∧ s.tensionsOk = true then s.beginStroke dir else s := by
  unfold State.retryTest
  rw [h]
  simp only [Bool.and_eq_true, Bool.not_eq_true']

theorem retryTest_of_withdraws {s : State} (h : s.withdrawsOut = true) : s.retryTest = s := by
  unfold State.retryTest
  split
  · rw [h]
    rfl
  · rfl

theorem satAdd_one (top n : Nat) : satAdd top n 1 = min top (n + 1) := satAdd_eq_min ..

theorem six_any_iff {α : Type} {p : α → Bool} {v : Six α} : v.any p = true ↔ ∃ i, p (v.get i) = true := by
  rw [Six.any, show v.toList = segIndices.map v.get from rfl, List.any_map, List.any_eq_true]
  exact exists_congr fun i => and_iff_right (mem_segIndices i)

theorem withdrawsOut_iff (s : State) : s.withdrawsOut = true ↔ ∃ i, (s.segs.get i).drive = .withdraw := by
  rw [State.withdrawsOut, six_any_iff]
  simp only [isWithdraw_iff]

theorem tensionsOk_iff (s : State) : s.tensionsOk = true ↔ ∀ j w, (s.segs.get j).engaged = true →
    (s.fmu.get j).tension = some w → w ≤ (s.segs.get j).active.tensionLimit := by
  rw [State.tensionsOk, List.all_eq_true]
  refine ⟨fun h j => ?_, fun h j _ => ?_⟩
  · have hj := h j (mem_segIndices j)
    cases ht : (s.fmu.get j).tension with
    | none => exact fun _ _ h => absurd h (by simp)
    | some v =>
      simp only [ht, Bool.or_eq_true, Bool.not_eq_true', decide_eq_true_eq] at hj
      intro w he hw
      obtain rfl := Option.some.inj hw
      exact hj.resolve_left (by rw [he]; decide)
  · have hj := h j
    cases he : (s.segs.get j).engaged with
    | false => simp [he]
    | true =>
      cases ht : (s.fmu.get j).tension with
      | none => simp
      | some w => simpa [he] using hj w he ht

/-- R71: every engaged blade withdrawn and the counts of a backoff grown. -/
def State.backedOff (i : Fin 6) (s : State) : State :=
  ((s.commandEngaged fun _ => .withdraw).countBackoff i).setPhase .backoff

theorem beginBackoff_eq (i : Fin 6) (s : State) : s.beginBackoff i =
    if 4 ≤ s.seq.backoffs + 1 then (s.backedOff i).segmentFault i .backoffLimit else s.backedOff i := rfl

theorem commandEngaged_get (d : Fin 6 → Drive) (s : State) (i : Fin 6) : (s.commandEngaged d).segs.get i =
    if (s.segs.get i).engaged = true then { s.segs.get i with drive := d i } else s.segs.get i :=
  Six.get_tabulate ..

theorem commandEngaged_eq (d : Fin 6 → Drive) (s : State) : s.commandEngaged d = { s with
    segs := Six.tabulate fun j =>
      if (s.segs.get j).engaged = true then { s.segs.get j with drive := d j } else s.segs.get j } := rfl

theorem backedOff_eq {i : Fin 6} {s : State} {x : StepRec} (h : s.seq.step = some x) : s.backedOff i =
    let segs := (s.commandEngaged fun _ => .withdraw).segs
    { s with
      segs := segs.set i { segs.get i with
        retryNow := min 4 ((s.segs.get i).retryNow + 1), retryTotal := min 65535 ((s.segs.get i).retryTotal + 1) }
      track := s.track.map fun p =>
        if p.state = .forming then { p with backoffs := min 65535 (p.backoffs + 1) } else p
      seq := { s.seq with backoffs := s.seq.backoffs + 1, step := some { x with phase := .backoff } } } := by
  have hstep : s.seq.step.map (fun x => { x with phase := Phase.backoff }) = some { x with phase := .backoff } := by
    rw [h]
    rfl
  have hnow : ((s.commandEngaged fun _ => .withdraw).segs.get i).retryNow = (s.segs.get i).retryNow := by
    rw [commandEngaged_get]
    split <;> rfl
  have htotal : ((s.commandEngaged fun _ => .withdraw).segs.get i).retryTotal = (s.segs.get i).retryTotal := by
    rw [commandEngaged_get]
    split <;> rfl
  rw [← hstep, ← hnow, ← htotal]
  simp only [State.backedOff, State.countBackoff, mapForming_eq, satAdd_one]
  rfl

theorem backedOff_get_same {i : Fin 6} {s : State} {x : StepRec} (h : s.seq.step = some x)
    (he : (s.segs.get i).engaged = true) : (s.backedOff i).segs.get i = { s.segs.get i with
      drive := .withdraw, retryNow := min 4 ((s.segs.get i).retryNow + 1)
      retryTotal := min 65535 ((s.segs.get i).retryTotal + 1) } := by
  rw [backedOff_eq h]
  refine (Six.get_set_same ..).trans ?_
  rw [commandEngaged_get, if_pos he]

/-! ## Strokes taken up -/

/-- R65: the stroke phase commanded. -/
theorem beginStroke_eq {dir : Direction} {s : State} {x : StepRec} (h : s.seq.step = some x) : s.beginStroke dir =
    { s with
      segs := (s.commandEngaged fun i => .stroke (s.fmu.get i).depth dir).segs
      seq := { s.seq with step := some { x with phase := .stroke } } } := by
  have hstep : s.seq.step.map (fun x => { x with phase := Phase.stroke }) = some { x with phase := .stroke } := by
    rw [h]
    rfl
  rw [← hstep]
  rfl

/-- R74: a stroke taken up. -/
theorem takeUpStroke_eq {dir : Direction} {s : State} {x : StepRec} (h : s.seq.step = some x) : s.takeUpStroke dir =
    { s with
      segs := (s.clearRetries.commandEngaged fun i => .stroke (s.fmu.get i).depth dir).segs
      seq := { s.seq with
        backoffs := 0, pace := .running s.pacePeriod, step := some { x with phase := .stroke } } } :=
  beginStroke_eq (s := s.clearRetries.restartPace) h

theorem cutPoint_of_phase {s : State} {x : StepRec} (h : s.seq.step = some x) (hf : x.phase ≠ .feedCut)
    (hs : x.phase ≠ .strokeCut) : s.cutPoint = s := by
  unfold State.cutPoint
  rw [h]
  cases hp : x.phase with
  | feedCut => exact absurd hp hf
  | strokeCut => exact absurd hp hs
  | feed | fed | stroke | backoff => simp only [hp]

/-- R74: the withdraws of a cut stroke run on. -/
theorem cutPoint_of_withdraws {s : State} {x : StepRec} (h : s.seq.step = some x) (hf : x.phase ≠ .feedCut)
    (hw : s.withdrawsOut = true) : s.cutPoint = s := by
  by_cases hs : x.phase = .strokeCut
  · have htake : s.takeUp = s := by
      unfold State.takeUp
      rw [h]
      cases hk : x.kind with
      | stroke dir =>
        simp only [hs, hk]
        exact if_pos hw
      | flat | gap => simp only [hs, hk]
    unfold State.cutPoint
    simp only [h, hs, htake, ite_self]
  · exact cutPoint_of_phase h hf hs

/-- R74: the point of cut of a stroke. -/
theorem cutPoint_strokeCut {s : State} {dir : Direction} {adv : Nat} (h : s.seq.step = some ⟨.stroke dir, adv, .strokeCut⟩)
    (hw : s.withdrawsOut = false) : s.cutPoint = if s.seq.line.moving = true then s.takeUpStroke dir else s := by
  have htake : s.takeUp = s.takeUpStroke dir := by
    unfold State.takeUp
    rw [h]
    exact if_neg (by rw [hw]; decide)
  unfold State.cutPoint
  simp only [h, htake]

/-- Settles O57. -/
theorem backoffFollowsTensions : Obligations.BackoffFollowsTensions := by
  unfold Obligations.BackoffFollowsTensions
  constructor
  · intro i v s g value sampled phase backoff offends
    have htension : ∀ {t : State}, (if g.active.tensionLimit < value then sampled.offend i else sampled).retryTest = t →
        exec (.tensionSample i v) s = .next (State.served t) := fun h => finish_of_eq h
    have hjam : ∀ {t : State}, s.offend i = t → exec (.jamReport i) s = .next (State.served t) := fun h => finish_of_eq h
    have hbegins : ∀ {c t x u}, offends c t → g.engaged = true → s.seq.step = some x → x.phase = .stroke →
        t.beginBackoff i = u → u.retryTest = u → exec c s = .next (State.served u) := by
      rintro c t x u hc he hs hx rfl hu
      have hstroke : s.seq.step.map (·.phase) = some .stroke := by rw [hs, ← hx]; rfl
      rcases hc with ⟨rfl, rfl⟩ | ⟨rfl, rfl, hlt⟩
      · exact hjam (offend_begins hstroke he)
      · refine htension ?_
        rw [if_pos hlt, offend_begins (s := sampled) hstroke he]
        exact hu
    have hstands : ∀ {c t}, offends c t → t.segs = s.segs ∧ t.seq = s.seq ∧ t.track = s.track := by
      rintro c t (⟨-, rfl⟩ | ⟨-, rfl, -⟩) <;> exact ⟨rfl, rfl, rfl⟩
    refine ⟨fun hb h => htension ?_, fun h => hjam (offend_of_not h), fun c t x hc he hs hx hfew => ?_,
      fun c t x hc he hs hx hmany hl => ?_, fun dir adv hs hdrive => ?_⟩
    · have hsame : (if g.active.tensionLimit < value then sampled.offend i else sampled) = sampled := by
        split
        · next hlt => exact offend_of_not (h.resolve_left (by omega))
        · rfl
      rw [hsame]
      exact retryTest_of_phase hb
    · obtain ⟨hsegs, hseq, htrack⟩ := hstands hc
      have hstep : t.seq.step = some x := by rw [hseq, hs]
      have hengaged : (t.segs.get i).engaged = true := by rw [hsegs]; exact he
      have hbacked : t.beginBackoff i = t.backedOff i := by
        rw [beginBackoff_eq, if_neg (by rw [hseq]; omega)]
      have heq : t.backedOff i = backoff t x := by
        rw [backedOff_eq hstep, hseq, htrack, commandEngaged_eq, hsegs]
      rw [← heq]
      refine hbegins hc he hs hx hbacked (retryTest_of_withdraws ((withdrawsOut_iff _).mpr ⟨i, ?_⟩))
      rw [backedOff_get_same hstep hengaged]
    · obtain ⟨hsegs, hseq, -⟩ := hstands hc
      have hstep : t.seq.step = some x := by rw [hseq, hs]
      have hengaged : (t.segs.get i).engaged = true := by rw [hsegs]; exact he
      have hstate : ((t.backedOff i).segs.get i).state ≠ .faulted := by
        rw [backedOff_get_same hstep hengaged]
        rcases (engaged_iff _).mp hengaged with h | h <;> simp [h]
      have hbstep : (t.backedOff i).seq = { t.seq with
          backoffs := t.seq.backoffs + 1, step := some { x with phase := .backoff } } := by rw [backedOff_eq hstep]
      have hstops : (t.backedOff i).seq.line.stops := by
        rw [hbstep, hseq]
        exact .inr hl
      have hfault := segmentFault_backoff (c := .backoffLimit) hstate hstops (by rw [hbstep]) rfl
      have hheld := faultHeld_seq_of_stops (c := .backoffLimit) hstate hstops
      have hbacked : t.beginBackoff i = ((t.backedOff i).faultHeld i .backoffLimit).setPhase .strokeCut := by
        rw [beginBackoff_eq, if_pos (by rw [hseq]; omega), hfault]
      have hget := faultHeld_get_of_stops (c := .backoffLimit) hstate hstops i
      rw [if_pos rfl] at hget
      refine ⟨_, hbegins hc he hs hx hbacked (retryTest_of_phase ?_), ?_, ?_, ?_, ?_⟩
      · rw [State.setPhase, setSeq_seq, hheld, hbstep]
        exact fun h => Phase.noConfusion (Option.some.inj h)
      · rw [State.setPhase, setSeq_seq, hheld]
      · rw [State.setPhase, setSeq_seq, hheld]
      · rw [State.setPhase, setSeq_segs, hget]
        rfl
      · rw [State.setPhase, setSeq_segs, hget]
        rfl
    · intro tensionsOk
      have hnone : sampled.withdrawsOut = false := by
        rw [← Bool.not_eq_true, withdrawsOut_iff]
        rintro ⟨j, hj⟩
        exact hdrive j hj
      have hok : sampled.tensionsOk = true ↔ tensionsOk := tensionsOk_iff sampled
      have hsame : (if g.active.tensionLimit < value then sampled.offend i else sampled) = sampled := by
        split
        · refine offend_of_not (.inl ?_)
          show s.seq.step.map (·.phase) ≠ some .stroke
          rw [hs]
          exact fun h => Phase.noConfusion (Option.some.inj h)
        · rfl
      have hretry : sampled.retryTest = _ := retryTest_backoff (s := sampled) hs
      refine ⟨fun hn => htension ?_, fun h => htension ?_⟩
      · rw [hsame, hretry, if_neg fun h => hn (hok.mp h.2)]
      · have hdepth : (fun j => Drive.stroke (sampled.fmu.get j).depth dir) =
            fun j => .stroke (s.fmu.get j).depth dir := by
          funext j
          by_cases hj : j = i
          · subst hj
            show Drive.stroke ((s.fmu.set j _).get j).depth dir = _
            rw [Six.get_set_same]
          · exact congrArg (fun f => Drive.stroke (FeedSeg.depth f) dir) (Six.get_set_of_ne _ _ hj)
        rw [hsame, hretry, if_pos ⟨hnone, hok.mpr h⟩, beginStroke_eq (s := sampled) hs, hdepth]
        rfl
  · intro i s g run out after tensionsOk stroking
    have hrun : ∀ {t : State}, g.drive = .withdraw → after.retryTest.cutPoint = t → run = .next (State.served t) :=
      fun hg h => finish_of_eq ((if_pos ((isWithdraw_iff _).mpr hg)).trans h)
    have hout : ∀ j, j ≠ i → out.get j = s.segs.get j := fun j hj => Six.get_set_of_ne _ _ hj
    have hown : out.get i = { g with drive := .none } := Six.get_set_same ..
    refine ⟨fun hg => finish_of_eq (if_neg (mt (isWithdraw_iff _).mp hg)), fun j x hg hj hd hs hx => hrun hg ?_,
      fun dir adv hg hd => ?_⟩
    · have hw : after.withdrawsOut = true := (withdrawsOut_iff _).mpr ⟨j, by rw [← hd, ← hout j hj]⟩
      rw [retryTest_of_withdraws hw]
      refine cutPoint_of_withdraws (s := after) hs ?_ hw
      rcases hx with hx | hx <;> rw [hx] <;> exact Phase.noConfusion
    · have hw : after.withdrawsOut = false := by
        rw [← Bool.not_eq_true, withdrawsOut_iff]
        rintro ⟨j, hj⟩
        by_cases hji : j = i
        · subst hji
          rw [hown] at hj
          exact Drive.noConfusion hj
        · exact hd j hji ((congrArg Segment.drive (hout j hji)).symm.trans hj)
      refine ⟨fun hs => ?_, fun hs => ?_⟩
      · have hok : after.tensionsOk = true ↔ tensionsOk := by
          rw [tensionsOk_iff]
          refine forall_congr' fun j => ?_
          by_cases hj : j = i
          · subst hj
            rw [hown]
            rfl
          · rw [hout j hj]
        have hretry := retryTest_backoff (s := after) hs
        refine ⟨fun hn => hrun hg ?_, fun h => hrun hg ?_⟩
        · rw [hretry, if_neg fun h => hn (hok.mp h.2)]
          exact cutPoint_of_phase (s := after) hs Phase.noConfusion Phase.noConfusion
        · rw [hretry, if_pos ⟨hw, hok.mpr h⟩, beginStroke_eq (s := after) hs]
          exact cutPoint_of_phase rfl Phase.noConfusion Phase.noConfusion
      · have hretry : after.retryTest = after := retryTest_of_phase (by
          show s.seq.step.map (·.phase) ≠ some .backoff
          rw [hs]
          exact fun h => Phase.noConfusion (Option.some.inj h))
        have hcut := cutPoint_strokeCut (s := after) hs hw
        refine ⟨fun hm => hrun hg ?_, fun hm => hrun hg ?_⟩
        · rw [hretry, hcut]
          exact if_neg (Bool.eq_false_iff.mp hm)
        · rw [hretry, hcut]
          refine (if_pos hm).trans ?_
          rw [takeUpStroke_eq (s := after) hs]
          rfl

end Sys2Proof.Machine
end

section
/-! PROOFS. Flags stand: what raises flags clears none. The crossings of the seams at a feed end. -/

namespace Sys2Proof.Machine

/-! ## Flags stand -/

/-- R194: every flag of `s` stands in `t`. -/
structure State.Grows (s t : State) : Prop where
  flag : ∀ f, s.flagSet f = true → t.flagSet f = true

namespace State.Grows

theorem refl (s : State) : s.Grows s := ⟨fun _ h => h⟩

theorem trans {s t u : State} (h : s.Grows t) (k : t.Grows u) : s.Grows u :=
  ⟨fun f hf => k.flag f (h.flag f hf)⟩

theorem of_link {s t : State} (h : t.link = s.link) : s.Grows t :=
  ⟨fun _ hf => (flagSet_of_link h).trans hf⟩

theorem raise (f : Flag) (s : State) : s.Grows (s.raise f) := ⟨fun _ => flagSet_raise_of_set⟩

theorem raise? (f : Option Flag) (s : State) : s.Grows (s.raise? f) := by
  cases f with
  | none => exact refl s
  | some f => exact raise f s

theorem ite {p : Prop} [Decidable p] {s t u : State} (h : s.Grows t) (k : s.Grows u) : s.Grows (if p then t else u) := by
  split
  · exact h
  · exact k

theorem foldl {op : State → Fin 6 → State} (h : ∀ (s : State) i, s.Grows (op s i)) (l : List (Fin 6))
    (s : State) : s.Grows (l.foldl op s) := ⟨fun f => flagSet_foldl (fun t i => (h t i).flag f) l⟩

theorem setSeg (i : Fin 6) (g : Segment) (s : State) : s.Grows (s.setSeg i g) := of_link rfl

theorem setSeq (f : Seq → Seq) (s : State) : s.Grows (s.setSeq f) := of_link rfl

theorem setRcc (f : RollChange → RollChange) (s : State) : s.Grows (s.setRcc f) := of_link rfl

theorem setSegState (i : Fin 6) (st : SegState) (s : State) : s.Grows (s.setSegState i st) :=
  ite (refl s) ((setSeg ..).trans (raise ..))

theorem setStatus (i : Fin 6) (st : ConfigStatus) (s : State) : s.Grows (s.setStatus i st) :=
  ite ((setSeg ..).trans (raise ..)) (setSeg ..)

theorem standReady (s : State) : s.Grows s.standReady := foldl (fun s i => ite (setSegState i _ s) (refl s)) _ s

theorem evalStandby (s : State) : s.Grows s.evalStandby := ite ((setRcc ..).trans (raise ..)) (setRcc ..)

theorem triggerTest (s : State) : s.Grows s.triggerTest := ite (setRcc ..) (refl s)

theorem fire (s : State) : s.Grows s.fire := by
  unfold State.fire
  split
  · exact (setRcc _ s).trans (evalStandby _)
  · exact refl s

theorem pressTest (s : State) : s.Grows s.pressTest := by
  unfold State.pressTest
  split
  · exact ite (fire s) (refl s)
  · exact refl s

theorem enter (l : LineState) (s : State) : s.Grows (s.enter l) := by
  have hentry : s.Grows (((s.setSeq (Seq.enterLine l)).raise .lineState).raise? l.entryFlag) :=
    ((setSeq ..).trans (raise ..)).trans (raise? ..)
  refine ite (refl s) ?_
  cases l with
  | idle | held => exact hentry.trans (standReady _)
  | waiting | running | holding | draining | estop => exact hentry

theorem confirmSplice (how : ConfirmedBy) (s : State) : s.Grows (s.confirmSplice how) := by
  have hrecord : s.Grows (s.recordSeam how) := by
    unfold State.recordSeam
    split
    · exact setRcc _ s
    · exact refl s
  exact (hrecord.trans (setRcc ..)).trans (raise ..)

theorem detectTest (s : State) : s.Grows s.detectTest := by
  unfold State.detectTest
  split
  · split
    · exact ite (ite (confirmSplice _ s) (setRcc _ s)) (refl s)
    · exact refl s
  · exact refl s

theorem endHeadPanel (s : State) : s.Grows s.endHeadPanel := by
  unfold State.endHeadPanel
  split
  · exact refl s
  · refine ite (trans ?_ (raise ..)) (of_link rfl)
    exact of_link rfl

theorem endForming (early : Bool) (f : Reasons → Reasons) (s : State) : s.Grows (s.endForming early f) := by
  cases h : s.forming? with
  | none => rw [endForming_of_none h]; exact refl s
  | some x =>
    obtain ⟨point, request, -, heq⟩ := endForming_cases early f h
    rw [heq]
    refine trans ?_ (endHeadPanel _)
    exact of_link rfl

theorem dropPanelStep (s : State) : s.Grows s.dropPanelStep := by
  unfold State.dropPanelStep
  split
  · exact ite (refl s) (of_link rfl)
  · exact refl s

end State.Grows

/-- R54: the flags of an entry into a line state. -/
theorem enter_flags {l : LineState} {s : State} (h : s.seq.line ≠ l) :
    (s.enter l).flagSet .lineState = true ∧ ∀ f, l.entryFlag = some f → (s.enter l).flagSet f = true := by
  have hset : ∀ f, (((s.setSeq (Seq.enterLine l)).raise .lineState).raise? l.entryFlag).flagSet f = true →
      (s.enter l).flagSet f = true := by
    intro f hf
    rw [State.enter, if_neg h]
    cases l with
    | idle | held => exact (State.Grows.standReady _).flag f hf
    | waiting | running | holding | draining | estop => exact hf
  have hraised (f : Flag) (t : State) : (t.raise f).flagSet f = true := by rw [flagSet_raise]; simp
  refine ⟨hset _ ((State.Grows.raise? _ _).flag _ (hraised ..)), fun f hf => hset _ ?_⟩
  rw [hf]
  exact hraised ..

/-! ## Crossings -/

/-- R132: the track with the FORMING record SEAMED. -/
def State.seamMarked (s : State) : List Panel :=
  s.track.map fun p => if p.state = .forming then { p with reasons := { p.reasons with seamed := true } } else p

theorem map_forming_of_none {s : State} (h : s.forming? = none) (f : Panel → Panel) :
    (s.track.map fun p => if p.state = .forming then f p else p) = s.track := by
  refine (List.map_congr_left fun p hp => if_neg ?_).trans (List.map_id _)
  exact fun hs => not_forming_of_none h p hp (decide_eq_true hs)

/-- R132, R133: SEAMED and its flag. -/
theorem seamInPanel_eq (s : State) : s.seamInPanel = if s.forming?.isSome = true then
    State.raise .seamInPanel { s with track := s.seamMarked } else { s with track := s.seamMarked } := by
  unfold State.seamInPanel
  cases h : s.forming? with
  | some x =>
    dsimp only
    rw [mapForming_eq]
    rfl
  | none => exact congrArg (fun track => { s with track := track }) (map_forming_of_none h _).symm

/-- A record written where it is FORMING, its state kept, stays the FORMING record. -/
theorem forming?_map {s t : State} {f : Panel → Panel} (hf : ∀ p, (f p).state = p.state)
    (ht : t.track = s.track.map fun p => if p.state = .forming then f p else p) :
    t.forming? = s.forming?.map f := by
  rw [State.forming?, State.forming?, ht, List.find?_map]
  have hpred : (Panel.forming ∘ fun p : Panel => if p.state = .forming then f p else p) = Panel.forming := by
    funext p
    show decide ((if p.state = .forming then f p else p).state = .forming) = decide (p.state = .forming)
    split
    · rw [hf]
    · rfl
  rw [hpred]
  cases h : s.track.find? Panel.forming with
  | none => rfl
  | some x => exact congrArg some (if_pos (of_decide_eq_true (List.find?_some h :)))

theorem seamMarked_forming? {s t : State} (ht : t.track = s.seamMarked) : t.forming?.isSome = s.forming?.isSome := by
  rw [forming?_map (f := fun p => { p with reasons := { p.reasons with seamed := true } }) (fun _ => rfl) ht,
    Option.isSome_map]

theorem seamMarked_seamMarked {s t : State} (ht : t.track = s.seamMarked) : t.seamMarked = s.seamMarked := by
  rw [State.seamMarked, ht, State.seamMarked, List.map_map]
  refine List.map_congr_left fun p _ => ?_
  simp only [Function.comp_apply]
  split
  · rfl
  · rfl

/-- R132: a seam of the list is crossed at the web count. -/
def State.seamHit (s : State) : Bool := s.rcc.seams.any fun m => decide (m.position ≤ s.web)

/-- R133: the unconfirmed seam is crossed at the web count. -/
def State.unconfirmedHit (s : State) : Bool :=
  match s.rcc.unconfirmed with
  | some u => !u.crossed && decide (u.position ≤ s.web)
  | none => false

/-- R132, R133: SEAMED and its flag where `hit` says so. -/
def State.markedIf (hit : Bool) (s : State) : State :=
  if (hit && s.forming?.isSome) = true then
    State.raise .seamInPanel { s with track := if hit = true then s.seamMarked else s.track }
  else { s with track := if hit = true then s.seamMarked else s.track }

theorem markedIf_true (s : State) : s.markedIf true = s.seamInPanel := (seamInPanel_eq s).symm

theorem markedIf_false (s : State) : s.markedIf false = s := rfl

/-- R133: the controller with the unconfirmed seam tested at a web count. -/
def RollChange.unconfirmedAt (w : Nat) (r : RollChange) : RollChange :=
  { r with unconfirmed := r.unconfirmed.map fun u => { u with crossed := u.crossed || decide (u.position ≤ w) } }

theorem crossSeams_eq (s : State) : s.crossSeams =
    State.markedIf s.seamHit { s with rcc := { s.rcc with
      seams := s.rcc.seams.filter fun m => decide (s.web < m.position) } } := by
  unfold State.crossSeams
  cases h : s.seamHit with
  | true =>
    rw [markedIf_true]
    exact if_pos h
  | false => exact if_neg (Bool.eq_false_iff.mp h)

theorem crossUnconfirmed_eq (s : State) : s.crossUnconfirmed =
    State.markedIf s.unconfirmedHit { s with rcc := s.rcc.unconfirmedAt s.web } := by
  unfold State.crossUnconfirmed RollChange.unconfirmedAt State.unconfirmedHit
  have hrcc {x : Option Unconfirmed} (hx : s.rcc.unconfirmed = x) : s = { s with rcc := { s.rcc with unconfirmed := x } } :=
    congrArg (fun x => { s with rcc := { s.rcc with unconfirmed := x } }) hx
  cases hu : s.rcc.unconfirmed with
  | none => exact hrcc hu
  | some u =>
    dsimp only
    rw [Option.map_some]
    by_cases hit : (!u.crossed && decide (u.position ≤ s.web)) = true
    · rw [if_pos hit, hit, markedIf_true]
      obtain ⟨-, hpos⟩ := Bool.and_eq_true_iff.mp hit
      rw [hpos, Bool.or_true]
      rfl
    · rw [if_neg hit, Bool.eq_false_iff.mpr hit, markedIf_false]
      have hsame : (u.crossed || decide (u.position ≤ s.web)) = u.crossed := by
        revert hit
        cases u.crossed <;> cases decide (u.position ≤ s.web) <;> simp
      rw [hsame]
      exact hrcc hu

/-- R132, R133: the roll change controller after the crossings. -/
def State.crossedRcc (s : State) : RollChange :=
  RollChange.unconfirmedAt s.web { s.rcc with seams := s.rcc.seams.filter fun m => decide (s.web < m.position) }

theorem markedIf_markedIf (a b : Bool) (s : State) : State.markedIf b (s.markedIf a) = s.markedIf (a || b) := by
  cases b with
  | false => rw [Bool.or_false]; exact markedIf_false _
  | true =>
    rw [Bool.or_true, markedIf_true, markedIf_true]
    cases a with
    | false => rfl
    | true =>
      rw [markedIf_true, seamInPanel_eq s]
      by_cases h : s.forming?.isSome = true
      · have hform := seamMarked_forming? (t := State.raise .seamInPanel { s with track := s.seamMarked }) rfl
        rw [if_pos h, seamInPanel_eq, hform, if_pos h,
          seamMarked_seamMarked (t := State.raise .seamInPanel { s with track := s.seamMarked }) rfl]
        exact raise_raise .seamInPanel { s with track := s.seamMarked }
      · have hform := seamMarked_forming? (t := { s with track := s.seamMarked }) rfl
        rw [if_neg h, seamInPanel_eq, hform, if_neg h,
          seamMarked_seamMarked (t := { s with track := s.seamMarked }) rfl]

theorem markedIf_rcc (a : Bool) (r : RollChange) (s : State) :
    { s.markedIf a with rcc := r } = State.markedIf a { s with rcc := r } := by
  unfold State.markedIf
  by_cases h : (a && s.forming?.isSome) = true
  · exact (congrArg (fun v : State => { v with rcc := r }) (if_pos h)).trans (if_pos h).symm
  · exact (congrArg (fun v : State => { v with rcc := r }) (if_neg h)).trans (if_neg h).symm

/-- R132, R133: the crossings at a feed end. -/
theorem crossings_eq (s : State) : s.crossSeams.crossUnconfirmed =
    State.markedIf (s.seamHit || s.unconfirmedHit) { s with rcc := s.crossedRcc } := by
  have hfields (a : Bool) (v : State) : (v.markedIf a).rcc = v.rcc ∧ (v.markedIf a).web = v.web := by
    unfold State.markedIf
    split <;> exact ⟨rfl, rfl⟩
  have hhit {t : State} (hrcc : t.rcc.unconfirmed = s.rcc.unconfirmed) (hweb : t.web = s.web) :
      t.unconfirmedHit = s.unconfirmedHit := by
    rw [State.unconfirmedHit, State.unconfirmedHit, hrcc, hweb]
  rw [crossSeams_eq]
  obtain ⟨hrcc, hweb⟩ := hfields s.seamHit { s with rcc := { s.rcc with
    seams := s.rcc.seams.filter fun m => decide (s.web < m.position) } }
  rw [crossUnconfirmed_eq, hhit (congrArg RollChange.unconfirmed hrcc :) hweb, markedIf_rcc, hrcc, hweb, markedIf_markedIf]
  rfl

end Sys2Proof.Machine
end

section
/-! PROOFS. Feed ends in a line that stands, and a segment fault in any line state (O31). -/

namespace Sys2Proof.Machine

/-! ## The feed end, part by part -/

/-- R117 step 1: the web count advanced and the ACTIVE roll debited. -/
def State.debited (s : State) : State :=
  { s with web := s.web + s.webAdvance, rcc := s.rcc.mapSpindles (Spindle.debit s.webAdvance) }

/-- R117: the feed end up to the fire tests. -/
def State.crossed (s : State) : State := s.debited.crossSeams.crossUnconfirmed

/-- R118: the spindles and the splice of a roll that has run out. -/
def State.ranOut (s : State) : State :=
  let spent := State.raise .rollOut (s.setRcc (RollChange.mapSpindles fun x =>
    match x with
    | .active r => .spent r
    | y => y))
  let back := if s.rcc.splice = .preparing ∨ s.rcc.splice = .slotted then spent.setRcc RollChange.takeBack else spent
  if s.rcc.pressDue.isSome then back.setSeq fun q => { q with hold := { q.hold with splice := false } } else back

theorem feedEndRcc_eq (s : State) :
    s.feedEndRcc = s.crossed.fireTests.detectTest.rollOutTest.evalStandby.triggerTest := rfl

theorem rollOutTest_of_none {s : State} (h : s.rcc.activeRoll = none) : s.rollOutTest = s := by
  unfold State.rollOutTest
  rw [h]

theorem rollOutTest_of_left {s : State} {a : Roll} (h : s.rcc.activeRoll = some a) (ha : a.remaining ≠ 0) :
    s.rollOutTest = s := by
  unfold State.rollOutTest
  rw [h]
  exact if_neg ha

theorem rollOutTest_out {s : State} {a : Roll} (h : s.rcc.activeRoll = some a) (ha : a.remaining = 0) :
    s.rollOutTest = s.ranOut.breakPanel.addHoldAtOnce fun h => { h with rollOut := true } := by
  unfold State.rollOutTest
  rw [h]
  exact (if_pos ha)

/-! ## What a feed end leaves in a line that stands -/

/-- What a cut and a feed end in a line that stands keep: the conveyor count, the line, FAULT, the segments but for the
drives, the flags, and SEGMENT_LOST of every record. -/
structure State.Settled (s t : State) : Prop where
  conv : t.conv = s.conv
  line : t.seq.line = s.seq.line
  fault : t.seq.hold.fault = s.seq.hold.fault
  segs : ∀ j, ∃ d, t.segs.get j = { s.segs.get j with drive := d } ∧
    ((s.segs.get j).engaged = false → (s.segs.get j).drive = .none → d = .none)
  grows : s.Grows t
  lost : ∀ x ∈ s.track, ∃ y ∈ t.track, y.number = x.number ∧ (x.reasons.segmentLost = true → y.reasons.segmentLost = true)

namespace State.Settled

theorem of_segs {s t : State} (h : t.segs = s.segs) (j : Fin 6) :
    ∃ d, t.segs.get j = { s.segs.get j with drive := d } ∧
    ((s.segs.get j).engaged = false → (s.segs.get j).drive = .none → d = .none) :=
  ⟨(s.segs.get j).drive, by rw [h], fun _ => id⟩

theorem of_track {s t : State} (h : t.track = s.track) : ∀ x ∈ s.track, ∃ y ∈ t.track, y.number = x.number ∧
    (x.reasons.segmentLost = true → y.reasons.segmentLost = true) := fun x hx => ⟨x, h ▸ hx, rfl, id⟩

/-- A record written only where it is FORMING keeps its number and SEGMENT_LOST. -/
theorem of_map {s t : State} {f : Panel → Panel}
    (hf : ∀ p, (f p).number = p.number ∧ (p.reasons.segmentLost = true → (f p).reasons.segmentLost = true))
    (h : t.track = s.track.map fun p => if p.state = .forming then f p else p) :
    ∀ x ∈ s.track, ∃ y ∈ t.track, y.number = x.number ∧
      (x.reasons.segmentLost = true → y.reasons.segmentLost = true) := by
  intro x hx
  refine ⟨_, h ▸ List.mem_map_of_mem hx, ?_⟩
  split
  · exact hf x
  · exact ⟨rfl, id⟩

theorem refl (s : State) : s.Settled s := ⟨rfl, rfl, rfl, of_segs rfl, .refl s, of_track rfl⟩

theorem trans {s t u : State} (h : s.Settled t) (k : t.Settled u) : s.Settled u where
  conv := k.conv.trans h.conv
  line := k.line.trans h.line
  fault := k.fault.trans h.fault
  segs := fun j => by
    obtain ⟨d, hd, hnone⟩ := h.segs j
    obtain ⟨e, he, hnone'⟩ := k.segs j
    rw [hd] at he hnone'
    exact ⟨e, he, fun hn hs => hnone' hn (hnone hn hs)⟩
  grows := h.grows.trans k.grows
  lost := fun x hx => by
    obtain ⟨y, hy, hnum, hlost⟩ := h.lost x hx
    obtain ⟨z, hz, hnum', hlost'⟩ := k.lost y hy
    exact ⟨z, hz, hnum'.trans hnum, fun hx => hlost' (hlost hx)⟩

theorem of_rcc {s t : State} (h : s.RccAlone t) (hg : s.Grows t) : s.Settled t :=
  ⟨h.conv, by rw [h.seq], by rw [h.seq], of_segs h.segs, hg, of_track h.track⟩

/-- A hold requester other than FAULT joins the set of a line that stands. -/
theorem setHold {f : HoldSet → HoldSet} (hf : ∀ h, (f h).fault = h.fault) (s : State) :
    s.Settled (s.setSeq fun q => { q with hold := f q.hold }) :=
  ⟨rfl, rfl, hf _, of_segs rfl, .of_link rfl, of_track rfl⟩

theorem ite {p : Prop} [Decidable p] {s t u : State} (h : s.Settled t) (k : s.Settled u) :
    s.Settled (if p then t else u) := by
  split
  · exact h
  · exact k

theorem crossings (s : State) : s.Settled s.crossSeams.crossUnconfirmed := by
  have hmap : ∀ b, ∀ x ∈ s.track, ∃ y ∈ (if b = true then s.seamMarked else s.track), y.number = x.number ∧
      (x.reasons.segmentLost = true → y.reasons.segmentLost = true) := by
    intro b
    cases b with
    | true =>
      exact of_map (t := { s with track := s.seamMarked })
        (f := fun p => { p with reasons := { p.reasons with seamed := true } }) (fun _ => ⟨rfl, id⟩) rfl
    | false => exact of_track (t := s) rfl
  rw [crossings_eq]
  unfold State.markedIf
  split
  · refine ⟨rfl, rfl, rfl, of_segs rfl, .trans ?_ (.raise _ _), hmap _⟩
    exact .of_link rfl
  · exact ⟨rfl, rfl, rfl, of_segs rfl, .of_link rfl, hmap _⟩

theorem fireTests {s : State} (h : s.seq.line = .idle ∨ s.seq.line = .held ∨ s.seq.line = .estop) :
    s.Settled s.fireTests := by
  have hpress : ∀ t : State, s.Settled t → s.Settled t.pressTest :=
    fun t h => h.trans (of_rcc (rccAlone_pressTest t) (.pressTest t))
  unfold State.fireTests
  refine ite (ite (hpress s (refl s)) (ite ?_ (refl s))) (refl s)
  split
  · exact of_rcc (rccAlone_fire s) (.fire s)
  · have hdue : s.Settled s.pressMadeDue := of_rcc (rccAlone_setRcc _ s) (.setRcc _ s)
    have hstands := addHold_stands (f := fun h => { h with splice := true }) (s := s.pressMadeDue)
      (by rw [hdue.line]; exact h.imp_right .inr)
    have hheld : s.Settled (s.pressMadeDue.addHold fun h => { h with splice := true }) := by
      rw [hstands]
      exact hdue.trans (setHold (f := fun h => { h with splice := true }) (fun _ => rfl) _)
    exact hpress _ hheld

theorem ranOut (s : State) : s.Settled s.ranOut := by
  unfold State.ranOut
  have hspent := of_rcc ((rccAlone_setRcc (RollChange.mapSpindles fun x =>
    match x with
    | .active r => .spent r
    | y => y) s).trans (rccAlone_raise .rollOut _)) ((Grows.setRcc _ s).trans (Grows.raise .rollOut _))
  have hback : s.Settled (if s.rcc.splice = .preparing ∨ s.rcc.splice = .slotted then _ else _) :=
    ite (hspent.trans (of_rcc (rccAlone_setRcc RollChange.takeBack _) (.setRcc _ _))) hspent
  exact ite (hback.trans (setHold (f := fun h => { h with splice := false }) (fun _ => rfl) _)) hback

theorem endForming (s : State) : s.Settled (s.endForming true Reasons.addInterrupted) := by
  cases hf : s.forming? with
  | none => rw [endForming_of_none hf]; exact refl s
  | some x =>
    have h := endForming_ended true Reasons.addInterrupted hf
    obtain ⟨gap, hseq⟩ := panelEnded_cases s.seq
    have hended := h.seq.trans hseq
    exact ⟨h.conv, (congrArg Seq.line hended :), (congrArg (fun q => q.hold.fault) hended :), of_segs h.segs,
      .endForming .., of_map (f := Panel.endedAt s.conv Reasons.addInterrupted) (fun _ => ⟨rfl, id⟩) h.track⟩

theorem dropPanelStep (s : State) : s.Settled s.dropPanelStep := by
  unfold State.dropPanelStep
  split
  · refine ite (refl s) ⟨rfl, rfl, rfl, fun j => ?_, .of_link rfl, of_track rfl⟩
    rw [State.clearStepDrives, setSeq_segs, Six.get_map]
    split
    · exact ⟨.none, rfl, fun _ _ => rfl⟩
    · exact ⟨_, rfl, fun _ => id⟩
  · exact refl s

theorem breakPanel (s : State) : s.Settled s.breakPanel :=
  ite ((endForming s).trans (dropPanelStep _)) (refl s)

theorem rollOutTest {s : State} (h : s.seq.line = .idle ∨ s.seq.line = .held ∨ s.seq.line = .estop) :
    s.Settled s.rollOutTest := by
  have hcut : s.Settled s.ranOut.breakPanel := (ranOut s).trans (breakPanel _)
  cases ha : s.rcc.activeRoll with
  | none => rw [rollOutTest_of_none ha]; exact refl s
  | some a =>
    by_cases hzero : a.remaining = 0
    · rw [rollOutTest_out ha hzero, addHoldAtOnce_stands (by rwa [hcut.line])]
      exact hcut.trans (setHold (f := fun h => { h with rollOut := true }) (fun _ => rfl) _)
    · rw [rollOutTest_of_left ha hzero]
      exact refl s

theorem debited (s : State) : s.Settled s.debited := ⟨rfl, rfl, rfl, of_segs rfl, .of_link rfl, of_track rfl⟩

theorem setPhase (ph : Phase) (s : State) : s.Settled (s.setPhase ph) :=
  ⟨rfl, rfl, rfl, of_segs rfl, .of_link rfl, of_track rfl⟩

/-- R64, R117: a feed end in a line that stands. -/
theorem feedEndRcc {s : State} (h : s.seq.line = .idle ∨ s.seq.line = .held ∨ s.seq.line = .estop) :
    s.Settled s.feedEndRcc := by
  have hcrossed : s.Settled s.crossed := (debited s).trans (crossings _)
  have hfire := hcrossed.trans (fireTests (by rwa [hcrossed.line]))
  have hdetect := hfire.trans (of_rcc (rccAlone_detectTest _) (.detectTest _))
  have hroll := hdetect.trans (rollOutTest (by rwa [hdetect.line]))
  rw [feedEndRcc_eq]
  exact (hroll.trans (of_rcc (rccAlone_evalStandby _) (.evalStandby _))).trans
    (of_rcc (rccAlone_triggerTest _) (.triggerTest _))

end State.Settled

/-! ## The web count of a feed end -/

theorem crossings_web (s : State) : s.crossSeams.crossUnconfirmed.web = s.web := by
  rw [crossings_eq]
  unfold State.markedIf
  split <;> rfl

theorem breakPanel_web (s : State) : s.breakPanel.web = s.web := by
  have hdrop (t : State) : t.dropPanelStep.web = t.web := by
    unfold State.dropPanelStep
    split
    · split <;> rfl
    · rfl
  unfold State.breakPanel
  split
  · next h =>
    obtain ⟨x, hx⟩ := Option.isSome_iff_exists.mp h
    exact (hdrop _).trans (endForming_ended true Reasons.addInterrupted hx).web
  · rfl

theorem ranOut_web (s : State) : s.ranOut.web = s.web := by
  unfold State.ranOut
  split <;> split <;> rfl

theorem rollOutTest_web (s : State) : s.rollOutTest.web = s.web := by
  cases ha : s.rcc.activeRoll with
  | none => rw [rollOutTest_of_none ha]
  | some a =>
    by_cases hzero : a.remaining = 0
    · rw [rollOutTest_out ha hzero, (State.lineAlone_addHoldAtOnce _ _).web, breakPanel_web, ranOut_web]
    · rw [rollOutTest_of_left ha hzero]

/-- R117 step 1: the web count advances by the largest completed feed. -/
theorem feedEndRcc_web (s : State) : s.feedEndRcc.web = s.web + s.webAdvance := by
  rw [feedEndRcc_eq, (State.rccAlone_triggerTest _).web, (State.rccAlone_evalStandby _).web, rollOutTest_web,
    (State.rccAlone_detectTest _).web, (State.lineAlone_fireTests _).web]
  exact crossings_web _

/-! ## The roll at a feed end -/

theorem debit_active? (w : Nat) (x : Spindle) :
    (x.debit w).active? = x.active?.map fun a => { a with remaining := a.remaining - w } := by cases x <;> rfl

/-- R117 step 1: the ACTIVE roll is debited. -/
theorem activeRoll_debit (w : Nat) (r : RollChange) :
    (r.mapSpindles (Spindle.debit w)).activeRoll = r.activeRoll.map fun a => { a with remaining := a.remaining - w } := by
  have h := congrArg₂ Option.or (debit_active? w r.u1) (debit_active? w r.u2)
  refine Eq.trans (b := (r.u1.debit w).active?.or (r.u2.debit w).active?) rfl (h.trans ?_)
  rw [RollChange.activeRoll]
  cases r.u1.active? <;> rfl

theorem markedIf_fields (b : Bool) (s : State) : (s.markedIf b).rcc = s.rcc ∧ (s.markedIf b).seq = s.seq := by
  unfold State.markedIf
  split <;> exact ⟨rfl, rfl⟩

theorem crossed_rcc (s : State) : s.crossed.rcc = s.debited.crossedRcc :=
  (congrArg State.rcc (crossings_eq s.debited)).trans (markedIf_fields ..).1

theorem crossed_seq (s : State) : s.crossed.seq = s.seq :=
  (congrArg State.seq (crossings_eq s.debited)).trans (markedIf_fields ..).2

theorem crossed_activeRoll (s : State) : s.crossed.rcc.activeRoll =
    s.rcc.activeRoll.map fun a => { a with remaining := a.remaining - s.webAdvance } := by
  rw [crossed_rcc]
  exact activeRoll_debit ..

/-- R128: the detect point's test touches no spindle. -/
theorem detectTest_spindles (s : State) : s.detectTest.rcc.u1 = s.rcc.u1 ∧ s.detectTest.rcc.u2 = s.rcc.u2 := by
  have hconfirm (how : ConfirmedBy) :
      (s.confirmSplice how).rcc.u1 = s.rcc.u1 ∧ (s.confirmSplice how).rcc.u2 = s.rcc.u2 := by
    unfold State.confirmSplice State.recordSeam
    split <;> exact ⟨rfl, rfl⟩
  unfold State.detectTest
  split
  · split
    · split
      · split
        · exact hconfirm _
        · exact ⟨rfl, rfl⟩
      · exact ⟨rfl, rfl⟩
    · exact ⟨rfl, rfl⟩
  · exact ⟨rfl, rfl⟩

theorem detectTest_activeRoll (s : State) : s.detectTest.rcc.activeRoll = s.rcc.activeRoll := by
  obtain ⟨h₁, h₂⟩ := detectTest_spindles s
  rw [RollChange.activeRoll, RollChange.activeRoll, h₁, h₂]

/-- R117: a feed end without a fire and with some roll left. -/
theorem feedEndRcc_quiet {s : State} (hfire : s.crossed.fireTests = s.crossed)
    (hleft : ∀ a, s.rcc.activeRoll = some a → s.webAdvance < a.remaining) :
    s.feedEndRcc = s.crossed.detectTest.evalStandby.triggerTest := by
  have hroll : s.crossed.detectTest.rollOutTest = s.crossed.detectTest := by
    have hdebited := (detectTest_activeRoll s.crossed).trans (crossed_activeRoll s)
    cases ha : s.rcc.activeRoll with
    | none => exact rollOutTest_of_none (by rw [hdebited, ha]; rfl)
    | some a => exact rollOutTest_of_left (by rw [hdebited, ha]; rfl) (Nat.sub_ne_zero_of_lt (hleft a ha))
  rw [feedEndRcc_eq, hfire, hroll]

theorem feedEndRcc_quiet_seq {s : State} (hfire : s.crossed.fireTests = s.crossed)
    (hleft : ∀ a, s.rcc.activeRoll = some a → s.webAdvance < a.remaining) : s.feedEndRcc.seq = s.seq := by
  rw [feedEndRcc_quiet hfire hleft, (State.rccAlone_triggerTest _).seq, (State.rccAlone_evalStandby _).seq,
    (State.rccAlone_detectTest _).seq, crossed_seq]

/-! ## The cut of a step -/

/-- R72: the phase of a step once it is cut. -/
def Phase.cut : Phase → Phase
  | .feed | .feedCut => .feedCut
  | .stroke | .backoff | .strokeCut => .strokeCut
  | .fed => .fed

theorem cutStep_eq {s : State} {x : StepRec} (h : s.seq.step = some x) : s.cutStep = { s with
    segs := if x.phase = .stroke then (s.commandEngaged fun _ => .withdraw).segs else s.segs
    seq := { s.seq with step := some { x with phase := x.phase.cut } } } := by
  obtain ⟨kind, advance, phase⟩ := x
  have hmap (ph : Phase) : s.seq.step.map (fun y => { y with phase := ph }) = some ⟨kind, advance, ph⟩ := by
    rw [h]
    rfl
  unfold State.cutStep
  rw [h]
  cases phase with
  | feed => exact congrArg (fun st => { s with seq := { s.seq with step := st } }) (hmap .feedCut)
  | stroke =>
    exact congrArg (fun st => { s with
      segs := (s.commandEngaged fun _ => .withdraw).segs, seq := { s.seq with step := st } }) (hmap .strokeCut)
  | backoff => exact congrArg (fun st => { s with seq := { s.seq with step := st } }) (hmap .strokeCut)
  | feedCut | fed | strokeCut => exact congrArg (fun st => { s with seq := { s.seq with step := st } }) h

theorem State.Settled.cutStep (s : State) : s.Settled s.cutStep := by
  cases h : s.seq.step with
  | none => rw [cutStep_of_none h]; exact refl s
  | some x =>
    rw [cutStep_eq h]
    refine ⟨rfl, rfl, rfl, fun j => ?_, .of_link rfl, of_track rfl⟩
    dsimp only
    split
    · rw [commandEngaged_get]
      split
      · next he => exact ⟨.withdraw, rfl, fun hn => absurd he (by rw [hn]; decide)⟩
      · exact ⟨_, rfl, fun _ => id⟩
    · exact ⟨_, rfl, fun _ => id⟩

theorem feedsOut_iff (s : State) : s.feedsOut = true ↔ ∃ j, (s.segs.get j).drive.isFeed = true := six_any_iff

theorem cutPoint_feedCut {s : State} {x : StepRec} (h : s.seq.step = some x) (hx : x.phase = .feedCut) :
    s.cutPoint = if s.feedsOut = true then s else s.feedEndCut := by
  unfold State.cutPoint
  simp only [h, hx]

/-- R74: the feed end of a cut phase in a line that stands. -/
theorem feedEndCut_stands {s : State} (h : s.seq.line = .idle ∨ s.seq.line = .held ∨ s.seq.line = .estop) :
    s.feedEndCut = s.feedEndRcc.setPhase .fed := by
  refine if_neg ?_
  rw [show (s.feedEndRcc.setPhase .fed).seq.line = s.feedEndRcc.seq.line from rfl, (State.Settled.feedEndRcc h).line]
  rcases h with h | h | h <;> rw [h] <;> decide

theorem State.Settled.cutPoint {s : State} (h : s.seq.line = .idle ∨ s.seq.line = .held ∨ s.seq.line = .estop) :
    s.Settled s.cutPoint := by
  cases hs : s.seq.step with
  | none => rw [cutPoint_of_none hs]; exact refl s
  | some x =>
    by_cases hx : x.phase = .feedCut
    · rw [cutPoint_feedCut hs hx, feedEndCut_stands h]
      exact ite (refl s) ((feedEndRcc h).trans (setPhase .fed _))
    · rw [cutPoint_of_not_moving hs hx (by rcases h with h | h | h <;> rw [h] <;> rfl)]
      exact refl s

/-! ## Segment faults -/

theorem faultMarked_flags {i : Fin 6} {c : FaultCause} {s : State} (h : (s.segs.get i).state ≠ .faulted) :
    (s.faultMarked i c).flagSet (.segFault i) = true ∧ (s.faultMarked i c).flagSet (.segState i) = true
      ∧ ((s.segs.get i).status = .pending ∨ (s.segs.get i).status = .inProgress →
        (s.faultMarked i c).flagSet (.applyDone i) = true) := by
  have hraised (f : Flag) (t : State) : (t.raise f).flagSet f = true := by rw [flagSet_raise]; simp
  rw [faultMarked_eq h]
  refine ⟨hraised .., (State.Grows.raise ..).flag _ (hraised ..), fun hbusy => ?_⟩
  rw [if_pos hbusy]
  exact (State.Grows.raise ..).flag _ ((State.Grows.raise ..).flag _ (hraised ..))

theorem faultMarked_track {i : Fin 6} {c : FaultCause} {s : State} (h : (s.segs.get i).state ≠ .faulted) :
    (s.faultMarked i c).track = if (s.segs.get i).state = .ready ∨ (s.segs.get i).state = .active then
        s.track.map fun p => if p.state = .forming then { p with reasons := p.reasons.addSegmentLost } else p
      else s.track := by
  rw [faultMarked_eq h]
  split <;> rfl

theorem faultHeld_stands_after {i : Fin 6} {c : FaultCause} {s : State} (h : (s.segs.get i).state ≠ .faulted) :
    (s.faultHeld i c).seq.line = .idle ∨ (s.faultHeld i c).seq.line = .held ∨ (s.faultHeld i c).seq.line = .estop := by
  by_cases hl : s.seq.line.stops
  · rw [faultHeld_seq_of_stops h hl]
    exact .inr (.inl rfl)
  · rw [faultHeld_seq_of_stands h hl]
    exact stands_of_not_stops hl

theorem faultHeld_step {i : Fin 6} {c : FaultCause} {s : State} (h : (s.segs.get i).state ≠ .faulted) :
    (s.faultHeld i c).seq.step = s.seq.step ∧ (s.faultHeld i c).seq.hold.fault = true := by
  by_cases hl : s.seq.line.stops
  · rw [faultHeld_seq_of_stops h hl]
    exact ⟨rfl, rfl⟩
  · rw [faultHeld_seq_of_stands h hl]
    exact ⟨rfl, rfl⟩

theorem faultHeld_get_same {i : Fin 6} {c : FaultCause} {s : State} (h : (s.segs.get i).state ≠ .faulted) :
    (s.faultHeld i c).segs.get i = (s.segs.get i).faultedBy c := by
  by_cases hl : s.seq.line.stops
  · rw [faultHeld_get_of_stops h hl, if_pos rfl]
  · rw [faultHeld_get_of_stands h hl, if_pos rfl]

/-- R72: the other segments of a line that a fault holds. -/
theorem faultHeld_get_of_ne {i j : Fin 6} {c : FaultCause} {s : State} (h : (s.segs.get i).state ≠ .faulted)
    (hj : j ≠ i) : ((s.faultHeld i c).segs.get j).drive = (s.segs.get j).drive
      ∧ ((s.faultHeld i c).segs.get j).engaged = (s.segs.get j).engaged := by
  by_cases hl : s.seq.line.stops
  · rw [faultHeld_get_of_stops h hl, if_neg hj]
    split
    · next hact => exact ⟨rfl, by rw [Segment.engaged, Segment.engaged, hact]; rfl⟩
    · exact ⟨rfl, rfl⟩
  · rw [faultHeld_get_of_stands h hl, if_neg hj]
    exact ⟨rfl, rfl⟩

theorem faultHeld_grows {i : Fin 6} {c : FaultCause} {s : State} (h : (s.segs.get i).state ≠ .faulted) :
    (s.faultMarked i c).Grows (s.faultHeld i c) := by
  by_cases hl : s.seq.line.stops
  · rw [faultHeld_stops h hl]
    exact ((State.Grows.setSeq ..).trans (.enter ..)).trans (.pressTest _)
  · rw [faultHeld_stands h hl]
    exact .setSeq ..

theorem faultHeld_flags {i : Fin 6} {c : FaultCause} {s : State} (h : (s.segs.get i).state ≠ .faulted)
    (hl : s.seq.line.stops) :
    (s.faultHeld i c).flagSet .held = true ∧ (s.faultHeld i c).flagSet .lineState = true := by
  have hline : (s.faultMarked i c).seq.line ≠ .held := by
    rw [faultMarked_seq i c h]
    rcases hl with hl | hl | hl | hl <;> rw [hl] <;> decide
  obtain ⟨hstate, hentry⟩ := enter_flags
    (s := (s.faultMarked i c).setSeq fun q => { q with hold := { q.hold with fault := true } }) hline
  rw [faultHeld_stops h hl]
  exact ⟨(State.Grows.pressTest _).flag _ (hentry _ rfl), (State.Grows.pressTest _).flag _ hstate⟩

theorem faultHeld_rcc {i : Fin 6} {c : FaultCause} {s : State} (h : (s.segs.get i).state ≠ .faulted)
    (hslot : s.rcc.splice ≠ .slotted) : (s.faultHeld i c).rcc = s.rcc := by
  have hmarked : (s.faultMarked i c).rcc = s.rcc := by
    rw [faultMarked_eq h]
    split <;> rfl
  by_cases hl : s.seq.line.stops
  · have hpress (t : State) (ht : t.rcc = s.rcc) : t.pressTest = t := by
      unfold State.pressTest
      rw [ht, decide_eq_false hslot]
      cases s.rcc.pressDue <;> rfl
    have hentered : (((s.faultMarked i c).setSeq fun q => { q with hold := { q.hold with fault := true } }).enter
        .held).rcc = s.rcc := (enter_rcc _ _).trans hmarked
    rw [faultHeld_stops h hl, State.enterHeld, hpress _ hentered, hentered]
  · rw [faultHeld_stands h hl]
    exact hmarked

theorem faultHeld_alone (i : Fin 6) (c : FaultCause) (s : State) : (s.faultMarked i c).LineAlone (s.faultHeld i c) :=
  State.lineAlone_addHoldAtOnce _ _

theorem faultMarked_fmu {i : Fin 6} {c : FaultCause} {s : State} (h : (s.segs.get i).state ≠ .faulted) :
    (s.faultMarked i c).fmu = s.fmu ∧ (s.faultMarked i c).web = s.web ∧ (s.faultMarked i c).conv = s.conv
      ∧ (s.faultMarked i c).rcc = s.rcc := by
  rw [faultMarked_eq h]
  simp only [raise_fmu, raise_web, raise_conv, raise_rcc, apply_ite State.fmu, apply_ite State.web, apply_ite State.conv,
    apply_ite State.rcc, ite_self]
  exact ⟨rfl, rfl, rfl, rfl⟩

/-- R72: in the cut phase of a feed, the segments that feed on are the others that fed. -/
theorem cutFeedsOut_iff {i : Fin 6} {c : FaultCause} {s : State} {x : StepRec} (h : (s.segs.get i).state ≠ .faulted)
    (hs : s.seq.step = some x) (hx : x.phase = .feed ∨ x.phase = .feedCut) :
    (s.faultHeld i c).cutStep.feedsOut = true ↔ ∃ j, j ≠ i ∧ (s.segs.get j).drive.isFeed = true := by
  have hstroke : x.phase ≠ .stroke := by rcases hx with hx | hx <;> rw [hx] <;> exact Phase.noConfusion
  rw [feedsOut_iff, cutStep_eq ((faultHeld_step h).1.trans hs), if_neg hstroke]
  refine exists_congr fun j => ?_
  by_cases hj : j = i
  · subst hj
    rw [faultHeld_get_same h]
    exact iff_of_false (fun hf => Bool.noConfusion hf) fun hf => hf.1 rfl
  · rw [(faultHeld_get_of_ne h hj).1]
    exact (and_iff_right hj).symm

theorem cut_feedCut {p : Phase} (h : p = .feed ∨ p = .feedCut) : p.cut = .feedCut := by
  rcases h with rfl | rfl <;> rfl

/-- R72: without a feed end, a cut only marks the step and withdraws a stroke's blades. -/
theorem segmentFault_cut {i : Fin 6} {c : FaultCause} {s : State} (h : (s.segs.get i).state ≠ .faulted)
    (hno : ∀ x, s.seq.step = some x → x.phase = .feed ∨ x.phase = .feedCut →
      ∃ j, j ≠ i ∧ (s.segs.get j).drive.isFeed = true) : s.segmentFault i c = (s.faultHeld i c).cutStep := by
  rw [segmentFault_held h]
  cases hs : s.seq.step with
  | none => rw [cutPoint_of_none]; rw [cutStep_of_none ((faultHeld_step h).1.trans hs), (faultHeld_step h).1, hs]
  | some x =>
    have hcut := cutStep_eq ((faultHeld_step (c := c) h).1.trans hs)
    have hstep : (s.faultHeld i c).cutStep.seq.step = some { x with phase := x.phase.cut } := by rw [hcut]
    by_cases hx : x.phase = .feed ∨ x.phase = .feedCut
    · rw [cutPoint_feedCut hstep (cut_feedCut hx)]
      exact if_pos ((cutFeedsOut_iff h hs hx).mpr (hno x hs hx))
    · refine cutPoint_of_not_moving hstep ?_ ?_
      · revert hx
        show _ → x.phase.cut ≠ .feedCut
        cases x.phase <;> simp [Phase.cut]
      · rw [(State.Settled.cutStep _).line]
        rcases faultHeld_stands_after (c := c) h with h | h | h <;> rw [h] <;> rfl

/-- R72, R74: a feed end made with the fault. -/
theorem segmentFault_feedEnd {i : Fin 6} {c : FaultCause} {s : State} {x : StepRec} (h : (s.segs.get i).state ≠ .faulted)
    (hs : s.seq.step = some x) (hx : x.phase = .feed ∨ x.phase = .feedCut)
    (hno : ¬ ∃ j, j ≠ i ∧ (s.segs.get j).drive.isFeed = true) :
    s.segmentFault i c = (s.faultHeld i c).cutStep.feedEndRcc.setPhase .fed := by
  have hcut := cutStep_eq ((faultHeld_step (c := c) h).1.trans hs)
  have hstep : (s.faultHeld i c).cutStep.seq.step = some { x with phase := x.phase.cut } := by rw [hcut]
  rw [segmentFault_held h, cutPoint_feedCut hstep (cut_feedCut hx), if_neg (mt (cutFeedsOut_iff h hs hx).mp hno)]
  exact feedEndCut_stands (by rw [(State.Settled.cutStep _).line]; exact faultHeld_stands_after h)

theorem segmentFault_settled {i : Fin 6} {c : FaultCause} {s : State} (h : (s.segs.get i).state ≠ .faulted) :
    (s.faultHeld i c).Settled (s.segmentFault i c) := by
  have hcut := State.Settled.cutStep (s.faultHeld i c)
  rw [segmentFault_held h]
  exact hcut.trans (.cutPoint (by rw [hcut.line]; exact faultHeld_stands_after h))

/-- Settles O31. -/
theorem faultHoldsMovingLine : Obligations.FaultHoldsMovingLine := by
  unfold Obligations.FaultHoldsMovingLine
  intro i c cause s g hc hg stops busy engaged lost marked feedsOn
  have hrun : exec c s = (s.segmentFault i cause).finish := exec_faultEvent hc
  have hset := segmentFault_settled (c := cause) hg
  obtain ⟨hstep, hfault⟩ := faultHeld_step (c := cause) hg
  obtain ⟨hsegFault, hsegState, hdone⟩ := faultMarked_flags (c := cause) hg
  obtain ⟨hfmu, hweb, hconv, hrcc⟩ := faultMarked_fmu (c := cause) hg
  have halone := faultHeld_alone i cause s
  have hgrows := (faultHeld_grows (c := cause) hg).trans hset.grows
  have htrack := faultMarked_track (c := cause) hg
  refine ⟨_, hrun, ?_, hset.fault.trans hfault, ?_, fun j hj => ?_, hgrows.flag _ hsegFault, hgrows.flag _ hsegState,
    fun hb => hgrows.flag _ (hdone hb), fun hl => ?_, fun he x hx => ?_, ?_, ?_, fun hno => ?_,
    fun x hs hx hno => ?_⟩
  · rw [hset.line]
    by_cases hl : stops
    · rw [if_pos hl, faultHeld_seq_of_stops hg hl]
    · rw [if_neg hl, faultHeld_seq_of_stands hg hl]
  · obtain ⟨d, hd, hnone⟩ := hset.segs i
    rw [faultHeld_get_same hg] at hd hnone
    obtain rfl := hnone rfl rfl
    exact hd
  · obtain ⟨d, hd, -⟩ := hset.segs j
    rw [hd]
    by_cases hl : stops
    · rw [faultHeld_get_of_stops hg hl, if_neg hj]
      by_cases hact : (s.segs.get j).state = .active
      · rw [if_pos hact, if_pos ⟨hl, hact⟩]
      · rw [if_neg hact, if_neg fun h => hact h.2]
    · rw [faultHeld_get_of_stands hg hl, if_neg hj, if_neg fun h => hl h.1]
  · obtain ⟨hflag, hline⟩ := faultHeld_flags (c := cause) hg hl
    exact ⟨hset.grows.flag _ hflag, hset.grows.flag _ hline⟩
  · have hforming : x.state = .forming := of_decide_eq_true (List.find?_some hx :)
    have hmem : lost x ∈ (s.faultHeld i cause).track := by
      rw [halone.track, htrack, if_pos he]
      exact List.mem_map.mpr ⟨x, List.mem_of_find?_eq_some hx, if_pos hforming⟩
    obtain ⟨y, hy, hnum, hlost⟩ := hset.lost _ hmem
    exact ⟨y, hy, hnum, hlost rfl⟩
  · exact hset.conv.trans (halone.conv.trans hconv)
  · exact State.segmentFault_standing ..
  · rw [segmentFault_cut hg hno]
    cases hs : s.seq.step with
    | none =>
      rw [cutStep_of_none (hstep.trans hs)]
      refine ⟨halone.web.trans hweb, halone.track.trans htrack, hstep.trans hs, fun j hj => ?_⟩
      rw [if_neg fun h => absurd h.1 (by simp)]
      exact (faultHeld_get_of_ne hg hj).1
    | some x =>
      rw [cutStep_eq (hstep.trans hs)]
      refine ⟨halone.web.trans hweb, halone.track.trans htrack, ?_, fun j hj => ?_⟩
      · cases hx : x.phase <;> simp [Phase.cut, hx]
      · obtain ⟨hdrive, hengaged⟩ := faultHeld_get_of_ne (c := cause) hg hj
        dsimp only
        by_cases hx : x.phase = .stroke
        · rw [if_pos hx, commandEngaged_get, hengaged]
          by_cases he : (s.segs.get j).engaged = true
          · rw [if_pos he, if_pos ⟨congrArg some hx, he⟩]
          · rw [if_neg he, if_neg fun h => he h.2]
            exact hdrive
        · rw [if_neg hx, if_neg fun h => hx (Option.some.inj h.1)]
          exact hdrive
  · rw [segmentFault_feedEnd hg hs hx hno]
    have hcut := cutStep_eq (hstep.trans hs)
    have hadv : (s.faultHeld i cause).cutStep.webAdvance = s.webAdvance := by
      rw [hcut, State.webAdvance, State.webAdvance, halone.fmu, hfmu]
    have hcutweb : (s.faultHeld i cause).cutStep.web = s.web := by
      rw [hcut]
      exact halone.web.trans hweb
    refine ⟨?_, fun hsplice hleft => ?_⟩
    · refine (feedEndRcc_web _).trans ?_
      rw [hadv, hcutweb]
    · have hrcc' : (s.faultHeld i cause).cutStep.rcc = s.rcc := by
        rw [hcut]
        exact faultHeld_rcc hg hsplice
      have hfire : (s.faultHeld i cause).cutStep.crossed.fireTests = (s.faultHeld i cause).cutStep.crossed := by
        refine fireTests_of_not_slotted ?_
        rw [crossed_rcc, State.crossedRcc, RollChange.unconfirmedAt, State.debited, hrcc']
        exact hsplice
      rw [State.setPhase, setSeq_seq, feedEndRcc_quiet_seq hfire (by rwa [hadv, hrcc']), hcut]
      rfl

end Sys2Proof.Machine
end

section
/-! PROOFS. What a delivery writes: the expected folds, the strokes counted, the records that leave at the outlet. -/

namespace Sys2Proof.Machine

/-! ## Folds written -/

/-- `q` is `p` but for what fold outcomes write. -/
structure Panel.Kept (p q : Panel) : Prop where
  number : q.number = p.number
  state : q.state = p.state
  tail : q.tail = p.tail
  strokes : q.strokes = p.strokes
  cls : q.cls = p.cls

theorem Panel.Kept.refl (p : Panel) : p.Kept p := ⟨rfl, rfl, rfl, rfl, rfl⟩

theorem Panel.Kept.trans {p q r : Panel} (h : p.Kept q) (k : q.Kept r) : p.Kept r :=
  ⟨k.number.trans h.number, k.state.trans h.state, k.tail.trans h.tail, k.strokes.trans h.strokes, k.cls.trans h.cls⟩

/-- `t` differs from `s` in its verifier, in what fold outcomes write into its records, and in its link alone. -/
structure State.FoldsAlone (s t : State) : Prop where
  frame : t = { s with track := t.track, verify := t.verify, link := t.link }
  window : t.verify.window = s.verify.window
  track : ∃ f : Panel → Panel, (∀ p, Panel.Kept p (f p)) ∧ t.track = s.track.map f
  grows : s.Grows t

namespace State.FoldsAlone

theorem refl (s : State) : s.FoldsAlone s :=
  ⟨rfl, rfl, ⟨id, fun p => .refl p, (List.map_id _).symm⟩, .refl s⟩

theorem trans {s t u : State} (h : s.FoldsAlone t) (k : t.FoldsAlone u) : s.FoldsAlone u := by
  obtain ⟨f, hf, htrack⟩ := h.track
  obtain ⟨g, hg, htrack'⟩ := k.track
  refine ⟨?_, k.window.trans h.window, ⟨g ∘ f, fun p => (hf p).trans (hg _), ?_⟩, h.grows.trans k.grows⟩
  · have hk := k.frame
    rw [h.frame] at hk
    exact hk
  · rw [htrack', htrack, List.map_map]

theorem foldl {op : State → Fin 6 → State} (h : ∀ (s : State) i, s.FoldsAlone (op s i)) (l : List (Fin 6)) (s : State) :
    s.FoldsAlone (l.foldl op s) := by
  induction l generalizing s with
  | nil => exact refl s
  | cons i l ih => exact (h s i).trans (ih _)

theorem setChecker (i : Fin 6) (k : Checker) (s : State) : s.FoldsAlone (s.setChecker i k) :=
  ⟨rfl, rfl, ⟨id, fun p => .refl p, (List.map_id _).symm⟩, .of_link rfl⟩

theorem writePanel (n : Nat) {f : Panel → Panel} (hf : ∀ p, Panel.Kept p (f p)) (s : State) :
    s.FoldsAlone (s.writePanel n f) := by
  refine ⟨rfl, rfl, ⟨fun p => if p.number = n then f p else p, fun p => ?_, rfl⟩, .of_link rfl⟩
  beta_reduce
  split
  · exact hf p
  · exact .refl p

theorem raise (f : Flag) (s : State) : s.FoldsAlone (s.raise f) :=
  ⟨rfl, rfl, ⟨id, fun p => .refl p, (List.map_id _).symm⟩, .raise f s⟩

theorem recordOutcome (i : Fin 6) (o : FoldOutcome) (panel : Option Nat) (s : State) :
    s.FoldsAlone (s.recordOutcome i o panel) := by
  have hwrite : ∀ b p, Panel.Kept p (o.write b p) := by
    intro b p
    rw [write_eq_adds]
    exact ⟨rfl, rfl, rfl, rfl, rfl⟩
  have hwritten (k : Checker) : s.FoldsAlone { s with
      track := s.writtenTrack o panel (!(s.verify.checkers.get i).locked)
      verify := { s.verify with checkers := s.verify.checkers.set i k } } := by
    refine ⟨rfl, rfl, ⟨_, fun p => ?_, rfl⟩, .of_link rfl⟩
    split
    · exact hwrite _ p
    · exact .refl p
  rw [recordOutcome_eq]
  dsimp only
  split
  · exact hwritten _
  · exact (hwritten _).trans (raise _ _)

theorem sweepFrom (i : Fin 6) (c : Nat) (l : List ExpectedFold) (s : State) : s.FoldsAlone (s.sweepFrom i c l) := by
  induction l generalizing s with
  | nil => exact refl s
  | cons e l ih =>
    unfold State.sweepFrom
    split
    · exact ((setChecker i _ s).trans (recordOutcome i .missing _ _)).trans (ih _)
    · exact refl s

theorem sweepAll (c : Nat) (s : State) : s.FoldsAlone (s.sweepAll c) := foldl (fun s i => sweepFrom i c _ s) _ s

theorem pushFolds (spacing : Nat) (s : State) : s.FoldsAlone (s.pushFolds spacing) := by
  unfold State.pushFolds
  split
  · exact refl s
  · refine foldl (fun s i => ?_) _ s
    unfold State.pushFold
    dsimp only
    split
    · exact (setChecker i _ s).trans
        (writePanel _ (f := fun p => { p with verified := p.verified.set i true }) (fun _ => ⟨rfl, rfl, rfl, rfl, rfl⟩) _)
    · exact refl s

end State.FoldsAlone

/-! ## Queues of expected folds -/

/-- R160: an expected fold is overdue at conveyor count `c`. -/
def ExpectedFold.overdue (window c : Nat) (e : ExpectedFold) : Bool := decide (e.count + window < c)

theorem recordOutcome_checkers (i : Fin 6) (o : FoldOutcome) (panel : Option Nat) (s : State) :
    (s.recordOutcome i o panel).verify.checkers =
      s.verify.checkers.set i (o.after s.verify.frozen (s.verify.checkers.get i)) := by
  rw [recordOutcome_eq]
  dsimp only
  split <;> rfl

/-- R160: the sweep drops the overdue entries at the front, and touches no other checker. -/
theorem sweepFrom_queue (i : Fin 6) (c : Nat) {l : List ExpectedFold} {s : State}
    (hq : (s.verify.checkers.get i).queue = l) :
    ((s.sweepFrom i c l).verify.checkers.get i).queue = l.dropWhile (ExpectedFold.overdue s.verify.window c)
      ∧ ∀ j, j ≠ i → (s.sweepFrom i c l).verify.checkers.get j = s.verify.checkers.get j := by
  induction l generalizing s with
  | nil => exact ⟨hq, fun _ _ => rfl⟩
  | cons e l ih =>
    by_cases hdue : e.count + s.verify.window < c
    · have hqueue := recordOutcome_queue i .missing (some e.panel)
        { s.verify.checkers.get i with queue := l, last := none } s
      have hwindow := ((State.FoldsAlone.setChecker i { s.verify.checkers.get i with queue := l, last := none } s).trans
        (State.FoldsAlone.recordOutcome i .missing (some e.panel) _)).window
      have hother : ∀ j, j ≠ i → ((s.setChecker i { s.verify.checkers.get i with
          queue := l, last := none }).recordOutcome i .missing (some e.panel)).verify.checkers.get j =
            s.verify.checkers.get j := by
        intro j hj
        rw [recordOutcome_checkers, Six.get_set_of_ne _ _ hj]
        exact Six.get_set_of_ne _ _ hj
      obtain ⟨hown, hrest⟩ := ih hqueue
      rw [hwindow] at hown
      rw [State.sweepFrom, if_pos hdue,
        List.dropWhile_cons_of_pos (show ExpectedFold.overdue s.verify.window c e = true from decide_eq_true hdue)]
      exact ⟨hown, fun j hj => (hrest j hj).trans (hother j hj)⟩
    · rw [State.sweepFrom, if_neg hdue, List.dropWhile_cons_of_neg (by simpa [ExpectedFold.overdue] using hdue)]
      exact ⟨hq, fun _ _ => rfl⟩

/-- R160: every checker's overdue entries leave. -/
theorem sweepAll_queue (c : Nat) (s : State) (j : Fin 6) : ((s.sweepAll c).verify.checkers.get j).queue =
    (s.verify.checkers.get j).queue.dropWhile (ExpectedFold.overdue s.verify.window c) := by
  have hfold := foldl_get (get := fun s i => (s.verify.window, (s.verify.checkers.get i).queue))
    (f := fun s i => s.sweep i c) (h := fun x => (x.1, x.2.dropWhile (ExpectedFold.overdue x.1 c)))
    (fun t i => Prod.ext (State.FoldsAlone.sweepFrom i c _ t).window (sweepFrom_queue i c rfl).1)
    (fun t i k hk => Prod.ext (State.FoldsAlone.sweepFrom i c _ t).window
      (congrArg Checker.queue ((sweepFrom_queue i c rfl).2 k hk))) nodup_segIndices s j
  exact congrArg Prod.snd (hfold.trans (if_pos (mem_segIndices j)))

/-- R159: the entry of an expected fold in each engaged verifying segment's queue. -/
theorem pushFolds_queue {spacing : Nat} {s : State} {p : Panel} {e : ExpectedFold} (hp : s.forming? = some p)
    (he : e = { panel := p.number, spacing := spacing, count := s.conv + s.geometry.verifyDist
                first := decide (p.strokes = 0), tol := (s.classFields p.cls).pitchTol }) (j : Fin 6) :
    ((s.pushFolds spacing).verify.checkers.get j).queue = (s.verify.checkers.get j).queue ++
      if (s.segs.get j).engaged = true ∧ (s.segs.get j).active.verify = true then [e] else [] := by
  have hfold := foldl_get (get := fun s i => (s.segs.get i, (s.verify.checkers.get i).queue))
    (f := State.pushFold e) (h := fun x => (x.1, x.2 ++ if x.1.engaged = true ∧ x.1.active.verify = true then [e] else []))
    (fun t i => by
      unfold State.pushFold
      by_cases h : (t.segs.get i).engaged = true ∧ (t.segs.get i).active.verify = true
      · rw [if_pos h, if_pos (Bool.and_eq_true_iff.mpr h)]
        exact Prod.ext rfl (congrArg Checker.queue (Six.get_set_same ..))
      · rw [if_neg h, if_neg (mt Bool.and_eq_true_iff.mp h), List.append_nil])
    (fun t i k hk => by
      unfold State.pushFold
      dsimp only
      split
      · exact Prod.ext rfl (congrArg Checker.queue (Six.get_set_of_ne _ _ hk))
      · rfl) nodup_segIndices s j
  have hpush : s.pushFolds spacing = segIndices.foldl (State.pushFold e) s := by
    unfold State.pushFolds
    rw [hp, he]
  rw [hpush]
  exact congrArg Prod.snd (hfold.trans (if_pos (mem_segIndices j)))

/-! ## Strokes counted -/

/-- R66: the state with a step's delivery counted: the conveyor count, and for a stroke the folds and the strokes. -/
def State.stepCounted (x : StepRec) (s : State) : State :=
  State.setSeq (fun q => { q with step := none }) (match x.kind with
    | .stroke _ =>
      ((({ s with conv := s.conv + x.advance }.sweepAll (s.conv + x.advance)).pushFolds x.advance).mapForming
        fun p => { p with strokes := satAdd 2000 p.strokes 1 })
    | .flat | .gap => { s with conv := s.conv + x.advance })

/-- R66: the panel's place after the step, and the panel's end after its last. -/
def State.stepPlaced (x : StepRec) (s : State) : State :=
  match x.kind, s.seq.plan with
  | .gap, _ => s
  | _, some p =>
    if p.advance.finished then (s.setSeq fun q => { q with plan := some p.advance }).endForming false id
    else s.setSeq fun q => { q with plan := some p.advance }
  | _, none => s

theorem deliver_eq {s : State} {x : StepRec} (h : s.seq.step = some x) :
    s.deliver = ((s.stepCounted x).stepPlaced x).exitsAndStall := by
  unfold State.deliver
  rw [h]
  unfold State.stepCounted State.stepPlaced
  obtain ⟨kind, advance, phase⟩ := x
  cases kind with
  | stroke dir =>
    dsimp only <;> (generalize State.mapForming _ _ = u; rfl)
  | flat | gap => rfl

theorem stepCounted_of_not_stroke {s : State} {x : StepRec} (h : x.kind = .flat ∨ x.kind = .gap) :
    s.stepCounted x = { s with conv := s.conv + x.advance, seq := { s.seq with step := none } } := by
  unfold State.stepCounted
  rcases h with h | h <;> rw [h] <;> rfl

/-- Records written with their state kept. -/
theorem forming?_of_kept {s t : State} {f : Panel → Panel} (hf : ∀ p, (f p).state = p.state)
    (ht : t.track = s.track.map f) : t.forming? = s.forming?.map f := by
  have hpred : Panel.forming ∘ f = Panel.forming := by
    funext p
    show decide ((f p).state = .forming) = decide (p.state = .forming)
    rw [hf]
  rw [State.forming?, State.forming?, ht, List.find?_map]
  exact congrArg (fun q => (s.track.find? q).map f) hpred

/-- What a delivery counted leaves of a stroke's panel. -/
theorem stepCounted_stroke {s : State} {x : StepRec} {dir : Direction} (h : x.kind = .stroke dir) :
    ∃ (f : Panel → Panel) (verify : Verifier) (link : Link),
      s.stepCounted x = { s with
        conv := s.conv + x.advance, seq := { s.seq with step := none }
        track := s.track.map fun p => if p.state = .forming then
          { f p with strokes := min 2000 (p.strokes + 1) } else f p
        verify := verify, link := link }
      ∧ (∀ p, Panel.Kept p (f p)) ∧ s.Grows (s.stepCounted x)
      ∧ ∀ p, s.forming? = some p → ∀ j, (verify.checkers.get j).queue =
        ((s.verify.checkers.get j).queue.dropWhile (ExpectedFold.overdue s.verify.window (s.conv + x.advance))) ++
          if (s.segs.get j).engaged = true ∧ (s.segs.get j).active.verify = true then [{
            panel := p.number, spacing := x.advance, count := s.conv + x.advance + s.geometry.verifyDist
            first := decide (p.strokes = 0), tol := (s.classFields p.cls).pitchTol }] else [] := by
  have hswept := State.FoldsAlone.sweepAll (s.conv + x.advance) { s with conv := s.conv + x.advance }
  have hqueue := sweepAll_queue (s.conv + x.advance) { s with conv := s.conv + x.advance }
  have hcounted : s.stepCounted x = State.setSeq (fun q => { q with step := none })
      ((State.pushFolds x.advance (State.sweepAll (s.conv + x.advance) { s with conv := s.conv + x.advance })).mapForming
        fun p => { p with strokes := satAdd 2000 p.strokes 1 }) := by
    unfold State.stepCounted
    rw [h]
  generalize State.sweepAll (s.conv + x.advance) { s with conv := s.conv + x.advance } = u at *
  have hpushed := State.FoldsAlone.pushFolds x.advance u
  have hall := hswept.trans hpushed
  have hframe := hswept.frame
  obtain ⟨g, hg, hgtrack⟩ := hswept.track
  obtain ⟨f, hf, htrack⟩ := hall.track
  have hpush : ∀ p, s.forming? = some p → ∀ j, ((u.pushFolds x.advance).verify.checkers.get j).queue =
      (u.verify.checkers.get j).queue ++
        if (u.segs.get j).engaged = true ∧ (u.segs.get j).active.verify = true then [{
          panel := (g p).number, spacing := x.advance, count := u.conv + u.geometry.verifyDist
          first := decide ((g p).strokes = 0), tol := (u.classFields (g p).cls).pitchTol }] else [] := by
    intro p hp j
    refine pushFolds_queue ?_ rfl j
    rw [forming?_of_kept (fun p => (hg p).state) hgtrack]
    exact congrArg (Option.map g) hp
  generalize u.pushFolds x.advance = v at *
  refine ⟨f, v.verify, v.link, ?_, hf, ?_, fun p hp j => ?_⟩
  · rw [hcounted, mapForming_eq, htrack, List.map_map, hall.frame]
    refine congrArg (fun track => { s with
      conv := s.conv + x.advance, seq := { s.seq with step := none }, track := track, verify := v.verify
      link := v.link }) (List.map_congr_left fun p _ => ?_)
    simp only [Function.comp_apply, (hf p).state, (hf p).strokes, satAdd_one]
  · rw [hcounted, mapForming_eq]
    have hlink : s.Grows { s with conv := s.conv + x.advance } := .of_link rfl
    exact (hlink.trans hall.grows).trans (.of_link rfl)
  · rw [hpush p hp j, hqueue j, (hg p).number, (hg p).strokes, (hg p).cls, hframe]
    rfl

/-! ## Exits -/

theorem reportExit_frame (x : ExitRecord) (s : State) : ∃ (outlets : Outlets) (link : Link),
    s.reportExit x = { s with outlets := outlets, link := link } ∧ s.Grows (s.reportExit x) := by
  unfold State.reportExit
  split
  · exact ⟨_, _, rfl, ⟨fun _ h => h⟩⟩
  · refine ⟨_, _, rfl, .trans ?_ (.raise _ _)⟩
    exact .of_link rfl

theorem handOver_frame (p : Panel) (s : State) : ∃ (outlets : Outlets) (link : Link),
    s.handOver p = { s with outlets := outlets, link := link } ∧ s.Grows (s.handOver p) := by
  rw [handOver_eq (x := s.exitRecord p) rfl]
  generalize ({ s.outlets.setCounts _ _ with port := _, exits := _, nextExit := _ } : Outlets) = o
  obtain ⟨outlets, link, heq, hgrows⟩ := reportExit_frame (s.exitRecord p) { s with outlets := o }
  have hstart : s.Grows { s with outlets := o } := .of_link rfl
  exact ⟨outlets, link, heq, hstart.trans hgrows⟩

/-- R44, R45: the records at the front that have reached the outlet leave. -/
theorem exitFrom_frame (l : List Panel) {s : State} (hl : s.track = l) : ∃ (outlets : Outlets) (link : Link),
    s.exitFrom l = { s with track := l.dropWhile fun p => s.atOutlet p, outlets := outlets, link := link }
      ∧ s.Grows (s.exitFrom l) := by
  induction l generalizing s with
  | nil => exact ⟨s.outlets, s.link, congrArg (fun track => { s with track := track }) hl, .refl s⟩
  | cons p rest ih =>
    unfold State.exitFrom
    by_cases h : s.atOutlet p = true
    · obtain ⟨outlets, link, hand, hgrows⟩ := handOver_frame p { s with track := rest }
      have hout (q : Panel) : (State.handOver p { s with track := rest }).atOutlet q = s.atOutlet q :=
        atOutlet_handOver p q { s with track := rest }
      obtain ⟨outlets', link', hexit, hgrows'⟩ := ih (s := State.handOver p { s with track := rest }) (by rw [hand])
      simp only [hout] at hexit
      have hstart : s.Grows { s with track := rest } := .of_link rfl
      rw [if_pos h, List.dropWhile_cons_of_pos (p := fun p => s.atOutlet p) h]
      refine ⟨outlets', link', ?_, (hstart.trans hgrows).trans hgrows'⟩
      rw [hexit, hand]
    · rw [if_neg h, List.dropWhile_cons_of_neg (p := fun p => s.atOutlet p) h, ← hl]
      exact ⟨s.outlets, s.link, rfl, .refl s⟩

/-- R44: the track after the exit test. -/
def State.exited (s : State) : List Panel := s.track.dropWhile fun p => s.atOutlet p

/-- R44, R151, R153: what follows every delivery. -/
theorem exitsAndStall_frame (s : State) : ∃ (outlets : Outlets) (link : Link), s.exitsAndStall = { s with
      track := s.exited, outlets := outlets, link := link
      steam := { s.steam with
        stalled := false
        stallTimer := if s.exited.any (fun p => s.probeInTunnel p) = true then some 0 else none } }
    ∧ s.Grows s.exitsAndStall := by
  obtain ⟨outlets, link, hexit, hgrows⟩ := exitFrom_frame s.track rfl
  refine ⟨outlets, link, ?_, ?_⟩
  · unfold State.exitsAndStall State.exitTest State.stallAfterDelivery
    rw [hexit]
    rfl
  · exact hgrows.trans (.of_link rfl)

theorem mem_exited {s : State} {p : Panel} (hp : p ∈ s.track) (h : s.atOutlet p = false) : p ∈ s.exited := by
  rw [← List.takeWhile_append_dropWhile (p := fun p => s.atOutlet p) (l := s.track)] at hp
  rcases List.mem_append.mp hp with hp | hp
  · exact absurd (List.mem_takeWhile_imp hp) (by simp [h])
  · exact hp

theorem atOutlet_of_forming {s : State} {p : Panel} (h : p.state = .forming) : s.atOutlet p = false := by
  rw [← Bool.not_eq_true, atOutlet_iff, h]
  exact fun hf => PanelState.noConfusion hf.1

/-- R44: the FORMING record stays. -/
theorem exited_forming? {s t : State} (h : t.track = s.exited) : t.forming? = s.forming? := by
  have hgone : (s.track.takeWhile fun p => s.atOutlet p).find? Panel.forming = none := by
    refine List.find?_eq_none.mpr fun p hp hf => ?_
    have hout := List.mem_takeWhile_imp hp
    rw [atOutlet_of_forming (of_decide_eq_true hf)] at hout
    exact absurd hout (by decide)
  have hsplit := List.find?_append (xs := s.track.takeWhile fun p => s.atOutlet p) (ys := s.exited) (p := Panel.forming)
  rw [State.exited, List.takeWhile_append_dropWhile, hgone, Option.none_or] at hsplit
  rw [State.forming?, State.forming?, h]
  exact hsplit.symm

/-- R44: a record whose tail lies at the conveyor count is not at the outlet. -/
theorem atOutlet_of_tail {s : State} {p : Panel} (ht : p.tail = some s.conv) (hd : 0 < s.geometry.outletDist) :
    s.atOutlet p = false := by
  rw [← Bool.not_eq_true, atOutlet_iff]
  rintro ⟨-, t, htail, hle⟩
  obtain rfl := Option.some.inj (htail.symm.trans ht)
  rw [Nat.sub_self] at hle
  omega

end Sys2Proof.Machine
end

section
/-! PROOFS. What the line does at a boundary keeps: counts, folds, records and the rolls. Panel starts. -/

namespace Sys2Proof.Machine

/-! ## Panel starts -/

theorem enter_running_eq (s : State) : ∃ link, s.enter .running =
    { s with seq := { s.seq with line := .running }, link := link } := by
  by_cases h : s.seq.line = .running
  · exact ⟨s.link, (enter_same h).trans (congrArg (fun l => { s with seq := { s.seq with line := l } }) h)⟩
  · exact ⟨_, if_neg h⟩

/-- R58: the state in which the first step of a new panel starts. -/
def State.panelReady (o : Order) (rest : List Order) (r : Roll) (out : Outlet) (p : Plan) (link : Link) (s : State) :
    State :=
  { s with
    track := s.track ++ [s.newPanel o r out p], nextPanel := s.nextPanel + 1
    orders := { o with started := o.started + 1 } :: rest
    outlets := s.outlets.setCounts out { s.outlets.counts out with reserved := (s.outlets.counts out).reserved + 1 }
    rcc := if p.slotFirm = true then { s.rcc with
        firePoint := some (p.plannedEnd + s.rcc.settings.clearance - s.geometry.seamPath), slotRequest := false }
      else s.rcc
    fmu := s.fmu.map fun f => { f with panelCarry := Config.carryStart }
    seq := { s.seq with line := .running, plan := some p, inhibits := Inhibits.empty }
    link := link }

theorem reserve_eq (out : Outlet) (s : State) : ∃ link, s.reserve out = { s with
    outlets := s.outlets.setCounts out { s.outlets.counts out with reserved := (s.outlets.counts out).reserved + 1 }
    link := link } := by
  unfold State.reserve State.raise?
  dsimp only
  split
  · split <;> exact ⟨_, rfl⟩
  · exact ⟨_, rfl⟩

theorem startPanel_eq (o : Order) (rest : List Order) (r : Roll) (out : Outlet) (p : Plan) (s : State) :
    ∃ link, s.startPanel o rest r out p = (s.panelReady o rest r out p link).nextStep := by
  obtain ⟨l, hreserve⟩ := reserve_eq out s
  obtain ⟨link, henter⟩ := enter_running_eq { s with
    track := s.track ++ [s.newPanel o r out p], nextPanel := s.nextPanel + 1
    orders := { o with started := o.started + 1 } :: rest
    outlets := s.outlets.setCounts out { s.outlets.counts out with reserved := (s.outlets.counts out).reserved + 1 }
    rcc := if p.slotFirm = true then { s.rcc with
        firePoint := some (p.plannedEnd + s.rcc.settings.clearance - s.geometry.seamPath), slotRequest := false }
      else s.rcc
    fmu := s.fmu.map fun f => { f with panelCarry := Config.carryStart }
    seq := { s.seq with plan := some p, inhibits := Inhibits.empty }
    link := l }
  refine ⟨link, ?_⟩
  unfold State.startPanel
  rw [hreserve]
  dsimp only
  refine congrArg State.nextStep (Eq.trans (congrArg (State.enter .running) ?_) henter)
  by_cases h : p.slotFirm = true
  · simp only [if_pos h]
    rfl
  · simp only [if_neg h]
    rfl

/-! ## What goes on at a boundary -/

/-- What the line does at a boundary keeps: both counts, the verifier, every record's number and strokes, and, but for a
splice whose slot is offered or fired, the roll change controller apart from the edge seen and the slot. -/
structure State.GoesOn (s t : State) : Prop where
  conv : t.conv = s.conv
  web : t.web = s.web
  verify : t.verify = s.verify
  track : ∀ y ∈ s.track, ∃ z ∈ t.track, z.number = y.number ∧ z.strokes = y.strokes
  rcc : s.rcc.splice ≠ .slotted → ∃ (e : Bool) (p : Option Nat) (r : Bool),
    t.rcc = { s.rcc with edgeSeen := e, firePoint := p, slotRequest := r }
      ∧ (s.rcc.firePoint = none → p = none ∧ r = s.rcc.slotRequest)

namespace State.GoesOn

theorem same_rcc {s t : State} (h : t.rcc = s.rcc) : ∃ (e : Bool) (p : Option Nat) (r : Bool),
    t.rcc = { s.rcc with edgeSeen := e, firePoint := p, slotRequest := r }
      ∧ (s.rcc.firePoint = none → p = none ∧ r = s.rcc.slotRequest) :=
  ⟨s.rcc.edgeSeen, s.rcc.firePoint, s.rcc.slotRequest, h, fun hp => ⟨hp, rfl⟩⟩

theorem same_track {s t : State} (h : t.track = s.track) :
    ∀ y ∈ s.track, ∃ z ∈ t.track, z.number = y.number ∧ z.strokes = y.strokes := fun y hy => ⟨y, h ▸ hy, rfl, rfl⟩

theorem map_track {s t : State} {f : Panel → Panel} (hf : ∀ p, (f p).number = p.number ∧ (f p).strokes = p.strokes)
    (h : t.track = s.track.map fun p => if p.state = .forming then f p else p) :
    ∀ y ∈ s.track, ∃ z ∈ t.track, z.number = y.number ∧ z.strokes = y.strokes := by
  intro y hy
  refine ⟨_, h ▸ List.mem_map_of_mem hy, ?_⟩
  split
  · exact hf y
  · exact ⟨rfl, rfl⟩

theorem refl (s : State) : s.GoesOn s := ⟨rfl, rfl, rfl, same_track rfl, fun _ => same_rcc rfl⟩

theorem trans {s t u : State} (h : s.GoesOn t) (k : t.GoesOn u) : s.GoesOn u where
  conv := k.conv.trans h.conv
  web := k.web.trans h.web
  verify := k.verify.trans h.verify
  track := fun y hy => by
    obtain ⟨z, hz, hnum, hstr⟩ := h.track y hy
    obtain ⟨x, hx, hnum', hstr'⟩ := k.track z hz
    exact ⟨x, hx, hnum'.trans hnum, hstr'.trans hstr⟩
  rcc := fun hs => by
    obtain ⟨e, p, r, hrcc, hpoint⟩ := h.rcc hs
    obtain ⟨e', p', r', hrcc', hpoint'⟩ := k.rcc (by rw [hrcc]; exact hs)
    rw [hrcc] at hrcc' hpoint'
    refine ⟨e', p', r', hrcc', fun hnone => ?_⟩
    obtain ⟨hp, hr⟩ := hpoint hnone
    obtain ⟨hp', hr'⟩ := hpoint' hp
    exact ⟨hp', hr'.trans hr⟩

theorem ite {c : Prop} [Decidable c] {s t u : State} (h : s.GoesOn t) (k : s.GoesOn u) : s.GoesOn (if c then t else u) := by
  split
  · exact h
  · exact k

theorem of_line {s t : State} (h : s.LineAlone t) (hr : s.rcc.splice ≠ .slotted → t.rcc = s.rcc) : s.GoesOn t :=
  ⟨h.conv, h.web, h.verify, same_track h.track, fun hs => same_rcc (hr hs)⟩

theorem enter (l : LineState) (s : State) : s.GoesOn (s.enter l) :=
  of_line (lineAlone_enter l s) fun _ => enter_rcc l s

theorem pressTest (s : State) : s.GoesOn s.pressTest := by
  refine of_line (rccAlone_pressTest s).toLineAlone fun hs => ?_
  have hno : s.pressTest = s := by
    unfold State.pressTest
    split
    · exact if_neg (by simp [hs])
    · rfl
  rw [hno]

theorem enterIdle (s : State) : s.GoesOn s.enterIdle := (enter .idle s).trans (pressTest _)

theorem enterHeld (s : State) : s.GoesOn s.enterHeld := (enter .held s).trans (pressTest _)

theorem fireTests (s : State) : s.GoesOn s.fireTests :=
  of_line (lineAlone_fireTests s) fun hs => by rw [fireTests_of_not_slotted hs]

/-- R123: without a fire point a slot is not withdrawn. -/
theorem endForming_rcc (early : Bool) (f : Reasons → Reasons) {s : State} (h : s.rcc.firePoint = none) :
    (s.endForming early f).rcc = s.rcc := by
  cases early with
  | false => exact endForming_rcc_late f
  | true =>
    have hhead (t : State) : t.endHeadPanel.rcc = t.rcc := by
      obtain ⟨orders, link, heq⟩ := endHeadPanel_cases t
      rw [heq]
    unfold State.endForming
    split
    · rfl
    · rw [hhead]
      dsimp only
      split
      · next p hp =>
        have hkeep (t : State) (ht : t.rcc.firePoint = none) : t.withdrawSlot p = t := by
          unfold State.withdrawSlot
          rw [ht]
        exact (congrArg State.rcc (hkeep (State.mapForming _ s) h) :)
      · rfl

theorem endForming (early : Bool) {f : Reasons → Reasons} (s : State) : s.GoesOn (s.endForming early f) := by
  cases hx : s.forming? with
  | none => rw [endForming_of_none hx]; exact refl s
  | some x =>
    have h := endForming_ended early f hx
    refine ⟨h.conv, h.web, h.verify, map_track (f := Panel.endedAt s.conv f) (fun _ => ⟨rfl, rfl⟩) h.track, fun _ => ?_⟩
    by_cases hp : s.rcc.firePoint = none
    · exact same_rcc (endForming_rcc early f hp)
    · obtain ⟨p, r, hrcc⟩ := h.rcc
      exact ⟨s.rcc.edgeSeen, p, r, hrcc, fun hn => absurd hn hp⟩

theorem abandonTest (s : State) : s.GoesOn s.abandonTest := by
  unfold State.abandonTest
  split
  · exact ite (endForming true s) (refl s)
  · exact refl s

theorem stepBegun {kind : StepKind} {advance cls : Nat} {figures : Fin 6 → StepFigures} {s t : State}
    (h : State.StepBegun kind advance cls figures s t) : s.GoesOn t :=
  ⟨h.conv, h.web, (congrArg State.verify h.frame :), same_track h.track, fun _ =>
    ⟨false, s.rcc.firePoint, s.rcc.slotRequest, (congrArg State.rcc h.frame :), fun hp => ⟨hp, rfl⟩⟩⟩

theorem markClamped (taper : Six Nat) (s : State) : s.GoesOn (s.markClamped taper) := by
  rw [markClamped_eq]
  refine ite ⟨rfl, rfl, rfl, ?_, fun _ => same_rcc rfl⟩ (refl s)
  exact map_track (f := fun p => { p with depthClamped := true }) (fun _ => ⟨rfl, rfl⟩) rfl

theorem nextStep (s : State) : s.GoesOn s.nextStep := by
  cases hg : s.seq.gap with
  | some g =>
    have hfreed : s.GoesOn { s with seq := { s.seq with gap := none } } :=
      ⟨rfl, rfl, rfl, same_track rfl, fun _ => same_rcc rfl⟩
    exact hfreed.trans (stepBegun (nextStep_gap hg))
  | none =>
    cases hp : s.seq.plan with
    | none =>
      unfold State.nextStep
      simp only [hg, hp]
      exact refl s
    | some p =>
      cases hr : p.runs[p.run]? with
      | none =>
        unfold State.nextStep
        simp only [hg, hp, hr]
        exact refl s
      | some run =>
        cases run with
        | flat length need => exact stepBegun (nextStep_flat hg hp hr)
        | pleat n form locked spacing taper planned need =>
          obtain ⟨u, hu, heq⟩ := nextStep_pleat hg hp hr
          rw [heq]
          exact (stepBegun hu).trans (markClamped taper u)

theorem pacedNext (s : State) : s.GoesOn s.pacedNext := by
  unfold State.pacedNext
  split
  · exact refl s
  all_goals exact nextStep s

theorem waitWith (b : Inhibits) (s : State) : s.GoesOn (s.waitWith b) :=
  (of_line (lineAlone_setSeq _ s) fun _ => rfl).trans (enter .waiting _)

theorem slotFirm_makePlan {o : Order} {s : State} (h : s.rcc.splice ≠ .slotted) : (s.makePlan o).slotFirm = false := by
  show s.slotAccepts _ = false
  unfold State.slotAccepts
  simp [h]

theorem startPanel (o : Order) (rest : List Order) (r : Roll) (out : Outlet) {p : Plan} {s : State}
    (hp : s.rcc.splice ≠ .slotted → p.slotFirm = false) : s.GoesOn (s.startPanel o rest r out p) := by
  obtain ⟨link, heq⟩ := startPanel_eq o rest r out p s
  have hready : s.GoesOn (s.panelReady o rest r out p link) := by
    refine ⟨rfl, rfl, rfl, fun y hy => ⟨y, List.mem_append_left _ hy, rfl, rfl⟩, fun hs => same_rcc ?_⟩
    exact if_neg (by rw [hp hs]; decide)
  rw [heq]
  exact hready.trans (nextStep _)

theorem startAttempt (s : State) : s.GoesOn s.startAttempt := by
  have hcopies := State.segsAlone_boundaryCopies s.boundaryWaiting s
  have hstart : s.GoesOn (s.boundaryCopies s.boundaryWaiting) :=
    of_line hcopies.toLineAlone fun _ => hcopies.rcc
  unfold State.startAttempt
  dsimp only
  split
  · exact hstart.trans (waitWith _ _)
  · split
    · split
      · refine ite (hstart.trans (startPanel _ _ _ _ fun hs => slotFirm_makePlan hs)) (hstart.trans (waitWith _ _))
      · exact hstart.trans (waitWith _ _)
    · exact hstart.trans (waitWith _ _)

theorem fireTestsAgain (s : State) : s.GoesOn s.fireTestsAgain :=
  ite ((fireTests s).trans (startAttempt _)) (fireTests s)

theorem panelStart (s : State) : s.GoesOn s.panelStart := (startAttempt s).trans (fireTestsAgain _)

theorem stopAtBoundary (s : State) : s.GoesOn s.stopAtBoundary :=
  ite (ite (enterIdle s) (enterHeld s)) (refl s)

theorem openBoundary (s : State) : s.GoesOn s.openBoundary := by
  unfold State.openBoundary
  split
  · exact stopAtBoundary s
  · exact ite (enterIdle s) (pacedNext s)
  · exact ite (panelStart s) (pacedNext s)
  all_goals exact refl s

/-- R68, R69: whatever the line does at a boundary. -/
theorem boundary (s : State) : s.GoesOn s.boundary :=
  ite (ite (pacedNext s) (refl s)) ((abandonTest s).trans (openBoundary _))

end State.GoesOn

end Sys2Proof.Machine
end

section
/-! PROOFS. "Stroke done" (O56): the delivery of a stroke and what the line does at the boundary after it. -/

namespace Sys2Proof.Machine

/-! ## The place of the panel -/

theorem advance_pleat {p : Plan} {n : Nat} {form : Form} {locked : Bool} {spacing : Nat} {taper : Six Nat}
    {planned : Six (Option Nat)} {need : Nat} (h : p.runs[p.run]? = some (.pleat n form locked spacing taper planned need)) :
    p.advance = if p.stroke + 1 < n then { p with stroke := p.stroke + 1 } else { p with run := p.run + 1, stroke := 0 } := by
  unfold Plan.advance
  rw [h]

/-- R66: the pattern's last stroke. -/
theorem advance_finished_iff {p : Plan} {n : Nat} {form : Form} {locked : Bool} {spacing : Nat} {taper : Six Nat}
    {planned : Six (Option Nat)} {need : Nat} (h : p.runs[p.run]? = some (.pleat n form locked spacing taper planned need)) :
    p.advance.finished = true ↔ n ≤ p.stroke + 1 ∧ p.runs.length ≤ p.run + 1 := by
  obtain ⟨hlt, -⟩ := List.getElem?_eq_some_iff.mp h
  rw [advance_pleat h, Plan.finished, decide_eq_true_eq]
  split
  · dsimp only
    omega
  · dsimp only
    omega

/-- R19, R20: the boundary after a stroke is closed inside a pleat of two strokes and inside a locked group. -/
theorem advance_closed_iff {p : Plan} {n : Nat} {form : Form} {locked : Bool} {spacing : Nat} {taper : Six Nat}
    {planned : Six (Option Nat)} {need : Nat} (h : p.runs[p.run]? = some (.pleat n form locked spacing taper planned need)) :
    p.advance.closed = true ↔
      p.stroke + 1 < n ∧ (locked = true ∨ (form = .box ∨ form = .inverted) ∧ p.stroke % 2 = 0) := by
  have htwo : form.twoStroke = true ↔ form = .box ∨ form = .inverted := by cases form <;> decide
  have hodd : (p.stroke + 1) % 2 = 1 ↔ p.stroke % 2 = 0 := by omega
  rw [advance_pleat h]
  by_cases hlt : p.stroke + 1 < n
  · rw [if_pos hlt]
    unfold Plan.closed
    simp only [h, closedAfter, Bool.and_eq_true, Bool.or_eq_true, decide_eq_true_eq, htwo, hodd]
    exact ⟨fun ⟨⟨_, h⟩, k⟩ => ⟨h, k⟩, fun ⟨h, k⟩ => ⟨⟨Nat.succ_pos _, h⟩, k⟩⟩
  · rw [if_neg hlt]
    refine iff_of_false ?_ fun hc => hlt hc.1
    unfold Plan.closed closedAfter
    dsimp only
    split <;> simp

/-! ## Lines that stop -/

/-- R69: a line that stops at a boundary without a step. -/
theorem openBoundary_stops {s : State} {l : LineState} (hstep : s.seq.step = none) (hopen : s.boundaryClosed = false)
    (hl : s.seq.line = .holding ∨ s.seq.line = .draining ∧ s.forming? = none)
    (hto : l = if s.seq.line = .draining ∨ s.seq.stop = .now then .idle else .held) :
    s.LineAlone s.openBoundary ∧ s.Grows s.openBoundary ∧ s.openBoundary.seq.line = l
      ∧ s.openBoundary.seq.plan = s.seq.plan ∧ s.openBoundary.seq.gap = s.seq.gap
      ∧ s.openBoundary.seq.step = none := by
  have hentered (l : LineState) : s.LineAlone (s.enter l).pressTest ∧ s.Grows (s.enter l).pressTest
      ∧ (s.enter l).pressTest.seq.line = l ∧ (s.enter l).pressTest.seq.plan = s.seq.plan
      ∧ (s.enter l).pressTest.seq.gap = s.seq.gap ∧ (s.enter l).pressTest.seq.step = none := by
    have hseq := (State.rccAlone_pressTest (s.enter l)).seq
    refine ⟨(State.lineAlone_enter l s).trans (State.rccAlone_pressTest _).toLineAlone,
      (State.Grows.enter l s).trans (.pressTest _), ?_, ?_, ?_, ?_⟩
    all_goals rw [hseq]
    · exact enter_line l s
    · exact enter_plan l s
    · exact enter_gap l s
    · exact (enter_step l s).trans hstep
  have hopenBoundary : s.openBoundary = (s.enter l).pressTest := by
    unfold State.openBoundary
    subst hto
    rcases hl with hl | ⟨hl, hf⟩
    · simp only [hl, stopAtBoundary_of_open hl hstep hopen]
      by_cases hnow : s.seq.stop = .now
      · rw [if_pos hnow, if_pos (.inr hnow)]
        rfl
      · rw [if_neg hnow, if_neg (by simp [hnow])]
        rfl
    · simp only [hl, (atPanelBoundary_iff s).mpr ⟨hf, hstep⟩]
      rfl
  rw [hopenBoundary]
  exact hentered l

/-! ## A stroke delivered -/

theorem stepPlaced_within {s : State} {x : StepRec} {dir : Direction} {p : Plan} (hk : x.kind = .stroke dir)
    (hp : s.seq.plan = some p) (hfin : ¬ p.advance.finished = true) :
    s.stepPlaced x = s.setSeq fun q => { q with plan := some p.advance } := by
  unfold State.stepPlaced
  rw [hk, hp]
  exact if_neg hfin

theorem stepPlaced_last {s : State} {x : StepRec} {dir : Direction} {p : Plan} (hk : x.kind = .stroke dir)
    (hp : s.seq.plan = some p) (hfin : p.advance.finished = true) :
    s.stepPlaced x = (s.setSeq fun q => { q with plan := some p.advance }).endForming false id := by
  unfold State.stepPlaced
  rw [hk, hp]
  exact if_pos hfin

theorem stepPlaced_free {s : State} {x : StepRec} (hp : s.seq.plan = none) : s.stepPlaced x = s := by
  unfold State.stepPlaced
  rw [hp]
  obtain ⟨kind, advance, phase⟩ := x
  cases kind with
  | stroke | flat | gap => rfl

theorem forming_of_forming? {s : State} {y : Panel} (h : s.forming? = some y) : y.state = .forming :=
  of_decide_eq_true (List.find?_some (p := Panel.forming) h)

/-- What a stroke's panel becomes: it goes on FORMING, or ends with its tail at the conveyor count. -/
theorem stepPlaced_record {s : State} {x : StepRec} {dir : Direction} {y : Panel} (hk : x.kind = .stroke dir)
    (hy : s.forming? = some y) : s.GoesOn (s.stepPlaced x) ∧ (s.stepPlaced x).geometry = s.geometry ∧
      ∃ z ∈ (s.stepPlaced x).track, z.number = y.number ∧ z.strokes = y.strokes
        ∧ (z.state = .forming ∨ z.tail = some s.conv) := by
  have hmem := List.mem_of_find?_eq_some hy
  have hforming := forming_of_forming? hy
  cases hp : s.seq.plan with
  | none =>
    rw [stepPlaced_free hp]
    exact ⟨.refl s, rfl, y, hmem, rfl, rfl, .inl hforming⟩
  | some p =>
    have hgoes : s.GoesOn (s.setSeq fun q => { q with plan := some p.advance }) :=
      .of_line (State.lineAlone_setSeq _ s) fun _ => rfl
    by_cases hfin : p.advance.finished = true
    · rw [stepPlaced_last hk hp hfin]
      have hended := endForming_ended false id (s := s.setSeq fun q => { q with plan := some p.advance }) hy
      refine ⟨hgoes.trans (.endForming false _), hended.geometry, y.endedAt s.conv id, ?_, rfl, rfl, .inr rfl⟩
      rw [hended.track]
      exact List.mem_map.mpr ⟨y, hmem, if_pos hforming⟩
    · rw [stepPlaced_within hk hp hfin]
      exact ⟨hgoes, rfl, y, hmem, rfl, rfl, .inl hforming⟩

/-- R51: an order that leaves raises ORDER_DONE. -/
theorem endHeadPanel_orderDone {s : State} (h : s.endHeadPanel.orders.length < s.orders.length) :
    s.endHeadPanel.flagSet .orderDone = true := by
  cases ho : s.orders with
  | nil =>
    rw [endHeadPanel_of_empty ho] at h
    omega
  | cons o rest =>
    by_cases hdone : o.ended + 1 = o.panels ∨ o.cancel ≠ .none
    · rw [endHeadPanel_leaves ho hdone]
      generalize ({ s with orders := rest } : State) = u
      exact (flagSet_raise ..).trans (by simp)
    · rw [endHeadPanel_stays ho hdone, ho] at h
      exact absurd h (Nat.lt_irrefl _)

theorem endForming_orderDone {early : Bool} {f : Reasons → Reasons} {s : State}
    (h : (s.endForming early f).orders.length < s.orders.length) : (s.endForming early f).flagSet .orderDone = true := by
  cases hf : s.forming? with
  | none =>
    rw [endForming_of_none hf] at h
    omega
  | some x =>
    obtain ⟨point, request, -, heq⟩ := endForming_cases early f hf
    rw [heq] at h ⊢
    exact endHeadPanel_orderDone h

/-- R151, R153: what a delivery leaves of the stall. -/
def State.StallEnded (s t : State) : Prop := t.steam = { s.steam with
  stalled := false, stallTimer := if t.track.any (fun q => t.probeInTunnel q) = true then some 0 else none }

theorem State.StallEnded.line {s t u : State} (h : s.StallEnded t) (k : t.LineAlone u) : s.StallEnded u := by
  have hprobe (q : Panel) : u.probeInTunnel q = t.probeInTunnel q := by
    unfold State.probeInTunnel State.probeIn State.leadIn State.tailIn State.distance
    rw [k.geometry, k.conv]
  unfold State.StallEnded
  simp only [hprobe, k.steam, k.track]
  exact h

theorem exitsAndStall_stallEnded (s : State) : s.StallEnded s.exitsAndStall := by
  obtain ⟨outlets, link, heq, -⟩ := exitsAndStall_frame s
  rw [heq]
  rfl

/-- R37, R66, R159, R160: what the delivery counted leaves of a stroke's panel. -/
theorem stepCounted_panels {s : State} {x : StepRec} {dir : Direction} (h : x.kind = .stroke dir) :
    ∃ (g : Panel → Panel) (verify : Verifier) (link : Link),
      s.stepCounted x = { s with
        conv := s.conv + x.advance, seq := { s.seq with step := none }, track := s.track.map g, verify := verify
        link := link }
      ∧ (∀ p, (g p).number = p.number) ∧ (∀ p, (g p).state = p.state)
      ∧ (∀ p, p.state = .forming → (g p).strokes = min 2000 (p.strokes + 1))
      ∧ ∀ p, s.forming? = some p → ∀ j, (verify.checkers.get j).queue =
        ((s.verify.checkers.get j).queue.dropWhile (ExpectedFold.overdue s.verify.window (s.conv + x.advance))) ++
          if (s.segs.get j).engaged = true ∧ (s.segs.get j).active.verify = true then [{
            panel := p.number, spacing := x.advance, count := s.conv + x.advance + s.geometry.verifyDist
            first := decide (p.strokes = 0), tol := (s.classFields p.cls).pitchTol }] else [] := by
  obtain ⟨f, verify, link, heq, hkept, -, hqueue⟩ := stepCounted_stroke (s := s) h
  refine ⟨_, verify, link, heq, fun p => ?_, fun p => ?_, fun p hp => ?_, hqueue⟩
  · rw [apply_ite Panel.number, (hkept p).number, ite_self]
  · rw [apply_ite Panel.state, (hkept p).state, ite_self]
  · rw [if_pos hp]

/-- A stroke delivered inside the panel's work. -/
structure State.StrokeWithin (x : StepRec) (place : Plan) (s t : State) : Prop where
  conv : t.conv = s.conv + x.advance
  orders : t.orders = s.orders
  seq : t.seq = { s.seq with step := none, plan := some place }
  stall : s.StallEnded t
  forming : ∀ y, s.forming? = some y → ∃ z, t.forming? = some z ∧ z.number = y.number

/-- A stroke delivered, and the panel's end; `why` holds of the reasons of its record. -/
structure State.StrokeEnded (x : StepRec) (place : Plan) (why : Reasons → Prop) (s t : State) : Prop where
  conv : t.conv = s.conv + x.advance
  orders : t.orders = s.endHeadPanel.orders
  seq : t.seq = { s.seq with
    step := none, plan := none, gap := if place.gap = 0 then none else some ⟨place.gap, place.cls⟩ }
  forming : t.forming? = none
  orderDone : t.orders.length < s.orders.length → t.flagSet .orderDone = true
  record : ∀ y, s.forming? = some y → 0 < s.geometry.outletDist →
    ∃ z ∈ t.track, z.number = y.number ∧ z.state = .travelling ∧ z.tail = some t.conv ∧ why z.reasons

theorem deliver_within {s : State} {x : StepRec} {dir : Direction} {p : Plan} (hstep : s.seq.step = some x)
    (hk : x.kind = .stroke dir) (hp : s.seq.plan = some p) (hfin : ¬ p.advance.finished = true) :
    s.StrokeWithin x p.advance s.deliver := by
  obtain ⟨g, verify, link, hcounted, hnumber, hstate, -, -⟩ := stepCounted_panels (s := s) hk
  rw [deliver_eq hstep, hcounted, stepPlaced_within hk (by exact hp) hfin]
  generalize hv : State.setSeq (fun q => { q with plan := some p.advance }) _ = v
  obtain ⟨outlets, link', hexits, -⟩ := exitsAndStall_frame v
  have hsteam : v.steam = s.steam := by rw [← hv]; rfl
  have hforming : v.forming? = s.forming?.map g := forming?_of_kept (hstate) (by rw [← hv]; rfl)
  refine ⟨?_, ?_, ?_, ?_, fun y hy => ?_⟩
  · rw [hexits, ← hv]; rfl
  · rw [hexits, ← hv]; rfl
  · rw [hexits, ← hv]; rfl
  · have hstall := exitsAndStall_stallEnded v
    unfold State.StallEnded at *
    rwa [hsteam] at hstall
  · rw [exited_forming? (s := v) (by rw [hexits]), hforming, hy]
    exact ⟨_, rfl, hnumber y⟩

theorem deliver_last {s : State} {x : StepRec} {dir : Direction} {p : Plan} {y : Panel} (hstep : s.seq.step = some x)
    (hk : x.kind = .stroke dir) (hp : s.seq.plan = some p) (hfin : p.advance.finished = true) (hy : s.forming? = some y) :
    s.StrokeEnded x p.advance (fun _ => True) s.deliver ∧ s.StallEnded s.deliver := by
  obtain ⟨g, verify, link, hcounted, hnumber, hstate, -, -⟩ := stepCounted_panels (s := s) hk
  rw [deliver_eq hstep, hcounted, stepPlaced_last hk (by exact hp) hfin]
  generalize hu : State.setSeq (fun q => { q with plan := some p.advance }) _ = u
  have hforming : u.forming? = some (g y) :=
    (forming?_of_kept (hstate) (by rw [← hu]; rfl)).trans (congrArg (Option.map g) hy)
  have horders : u.orders = s.orders := by rw [← hu]; rfl
  have hended := endForming_ended false id hforming
  have hdone := endForming_orderDone (early := false) (f := id) (s := u)
  generalize u.endForming false id = v at *
  obtain ⟨outlets, link', hexits, hexitsGrow⟩ := exitsAndStall_frame v
  refine ⟨⟨?_, ?_, ?_, ?_, fun hlt => ?_, fun z hz hd => ?_⟩, ?_⟩
  · rw [hexits]
    refine hended.conv.trans ?_
    rw [← hu]
    rfl
  · rw [hexits]
    exact hended.orders.trans (endHeadPanel_orders horders)
  · rw [hexits]
    refine hended.seq.trans ?_
    rw [← hu]
    rfl
  · rw [exited_forming? (s := v) (by rw [hexits])]
    exact hended.forming
  · refine hexitsGrow.flag _ (hdone ?_)
    rw [horders]
    rwa [hexits] at hlt
  · obtain rfl := Option.some.inj (hz.symm.trans hy)
    have hrecord : (g z).endedAt u.conv id ∈ v.track := by
      rw [hended.track]
      exact List.mem_map.mpr ⟨g z, List.mem_of_find?_eq_some hforming, if_pos (forming_of_forming? hforming)⟩
    have hgeometry : v.geometry = s.geometry := by rw [hended.geometry, ← hu]; rfl
    have hout := atOutlet_of_tail (s := v) (p := (g z).endedAt u.conv id) (congrArg some hended.conv.symm)
      (by rwa [hgeometry])
    refine ⟨(g z).endedAt u.conv id, ?_, hnumber z, rfl, ?_, trivial⟩
    · rw [hexits]
      exact mem_exited hrecord hout
    · rw [hexits]
      exact congrArg some hended.conv.symm
  · have hstall := exitsAndStall_stallEnded v
    have hsteam : v.steam = s.steam := by rw [hended.steam, ← hu]; rfl
    unfold State.StallEnded at *
    rwa [hsteam] at hstall

/-- R69: the panel abandoned at the boundary after a stroke. -/
theorem State.StrokeWithin.abandoned {s t : State} {x : StepRec} {place : Plan} {y : Panel}
    (h : s.StrokeWithin x place t) (hy : s.forming? = some y) :
    s.StrokeEnded x place (fun r => r.abandoned = true) (t.endForming true Reasons.addAbandoned) := by
  obtain ⟨y', hy', hnumber⟩ := h.forming y hy
  have hended := endForming_ended true Reasons.addAbandoned hy'
  have hdone := endForming_orderDone (early := true) (f := Reasons.addAbandoned) (s := t)
  rw [h.orders] at hdone
  refine ⟨hended.conv.trans h.conv, hended.orders.trans (endHeadPanel_orders h.orders), ?_, hended.forming, hdone,
    fun z hz _ => ⟨y'.endedAt t.conv Reasons.addAbandoned, ?_, ?_, rfl, congrArg some hended.conv.symm, rfl⟩⟩
  · rw [hended.seq, panelEnded_of_plan (p := place) (by rw [h.seq]), h.seq]
  · rw [hended.track]
    exact List.mem_map.mpr ⟨y', List.mem_of_find?_eq_some hy', if_pos (forming_of_forming? hy')⟩
  · obtain rfl := Option.some.inj (hz.symm.trans hy)
    exact hnumber

/-! ## The boundary after a stroke -/

theorem boundaryClosed_of_plan {s : State} {p : Plan} (h : s.seq.plan = some p) : s.boundaryClosed = p.closed := by
  rw [State.boundaryClosed, h]

theorem pacedNext_running {s : State} {k : Nat} (h : s.seq.pace = .running k) : s.pacedNext = s := by
  rw [State.pacedNext, h]

theorem pacedNext_next {s : State} (h : ¬ ∃ k, s.seq.pace = .running k) : s.pacedNext = s.nextStep := by
  unfold State.pacedNext
  split
  · next k hk => exact absurd ⟨k, hk⟩ h
  · rfl
  · rfl

/-- R63, R69: a line that makes steps goes on at an open boundary inside a panel, or before its gap. -/
theorem openBoundary_paced {s : State} (h : s.seq.line = .running ∧ s.atPanelStart = false
    ∨ s.seq.line = .draining ∧ s.atPanelBoundary = false) : s.openBoundary = s.pacedNext := by
  unfold State.openBoundary
  rcases h with ⟨hl, hat⟩ | ⟨hl, hat⟩
  · simp only [hl, hat, Bool.false_eq_true, if_false]
  · simp only [hl, hat, Bool.false_eq_true, if_false]

/-- R63, R65: the panel's next step begins. -/
theorem nextStep_begins {s : State} {p : Plan} (hgap : s.seq.gap = none) (hp : s.seq.plan = some p)
    (hfin : ¬ p.finished = true) : s.nextStep.seq.line = s.seq.line ∧ s.nextStep.seq.plan = some p
      ∧ ∃ kind advance, s.nextStep.seq.step = some ⟨kind, advance, .feed⟩ := by
  have hlt : p.run < p.runs.length := by
    rw [Plan.finished, decide_eq_true_eq] at hfin
    omega
  cases hrun : p.runs[p.run] with
  | flat length need =>
    have h := nextStep_flat hgap hp (List.getElem?_eq_some_iff.mpr ⟨hlt, hrun⟩)
    exact ⟨h.line, h.plan.trans hp, _, _, h.step⟩
  | pleat n form locked spacing taper planned need =>
    obtain ⟨u, h, heq⟩ := nextStep_pleat hgap hp (List.getElem?_eq_some_iff.mpr ⟨hlt, hrun⟩)
    have hmarked : s.nextStep.seq = u.seq := by
      rw [heq, markClamped_eq]
      split
      · rfl
      · rfl
    rw [hmarked]
    exact ⟨h.line, h.plan.trans hp, _, _, h.step⟩

/-- R51: the orders after a panel's end. -/
theorem endHeadPanel_counted (s : State) : s.endHeadPanel.orders = match s.orders with
    | o :: rest => if o.ended + 1 = o.panels ∨ o.cancel ≠ .none then rest else { o with ended := o.ended + 1 } :: rest
    | [] => [] := by
  cases ho : s.orders with
  | nil =>
    rw [endHeadPanel_of_empty ho]
    exact ho
  | cons o rest =>
    by_cases hdone : o.ended + 1 = o.panels ∨ o.cancel ≠ .none
    · rw [endHeadPanel_leaves ho hdone]
      exact (if_pos hdone).symm
    · rw [endHeadPanel_stays ho hdone]
      exact (if_neg hdone).symm

/-- "Stroke done" of the last blade out. -/
theorem exec_strokeDone_last {i : Fin 6} {s after t : State} {x : StepRec}
    (hafter : after = s.setDrive i .none) (hi : (s.segs.get i).drive.isStroke = true)
    (hout : ∀ j, j ≠ i → (s.segs.get j).drive.isStroke = false) (hstep : s.seq.step = some x) (hx : x.phase = .stroke)
    (ht : after.deliver.boundary = t) : exec (.strokeDone i) s = .next (State.served t) := by
  refine finish_of_eq ((if_pos hi).trans (.trans ?_ ht))
  subst hafter
  have hnone : (s.setDrive i .none).strokesOut = false := by
    rw [State.strokesOut, ← Bool.not_eq_true, six_any_iff]
    rintro ⟨j, hj⟩
    by_cases hji : j = i
    · subst hji
      rw [State.setDrive, setSeg_get_same] at hj
      exact Bool.noConfusion hj
    · rw [State.setDrive, setSeg_get_of_ne _ _ hji, hout j hji] at hj
      exact absurd hj (by decide)
  have hphase : (s.setDrive i .none).phase? = some .stroke :=
    (congrArg (Option.map StepRec.phase) hstep).trans (congrArg some hx)
  exact if_pos (by rw [hphase, hnone]; rfl)

/-- R69: a line that is to stop stops at the boundary at which the panel has ended. -/
theorem State.StrokeEnded.stops {s t : State} {x : StepRec} {place : Plan} {why : Reasons → Prop} {l : LineState}
    (h : s.StrokeEnded x place why t) (hl : s.seq.line = .holding ∨ s.seq.line = .draining)
    (hto : l = if s.seq.line = .draining ∨ s.seq.stop = .now then .idle else .held) :
    t.LineAlone t.openBoundary ∧ t.Grows t.openBoundary ∧ t.openBoundary.seq.line = l
      ∧ t.openBoundary.seq.plan = t.seq.plan ∧ t.openBoundary.seq.gap = t.seq.gap ∧ t.openBoundary.seq.step = none :=
  openBoundary_stops (by rw [h.seq]) (by rw [State.boundaryClosed, h.seq])
    (by rw [h.seq]; exact hl.imp_right fun hd => ⟨hd, h.forming⟩) (by rw [h.seq]; exact hto)

theorem State.StrokeEnded.result {s t u : State} {x : StepRec} {place : Plan} {why cause : Reasons → Prop} {y : Panel}
    {counted : List Order} (h : s.StrokeEnded x place why t) (hy : s.forming? = some y) (hd : 0 < s.geometry.outletDist)
    (hcounted : s.endHeadPanel.orders = counted) (hcause : ∀ r, why r → cause r) (hconv : u.conv = t.conv)
    (horders : u.orders = t.orders) (htrack : u.track = t.track) (hgrows : t.Grows u) (hplan : u.seq.plan = t.seq.plan) :
    u.conv = s.conv + x.advance ∧ u.seq.plan = none ∧ u.orders = counted
      ∧ (counted.length < s.orders.length → u.flagSet .orderDone = true)
      ∧ ∃ z ∈ u.track, z.number = y.number ∧ z.state = .travelling ∧ z.tail = some (s.conv + x.advance)
        ∧ cause z.reasons := by
  obtain ⟨z, hz, hnumber, hstate, htail, hreasons⟩ := h.record y hy hd
  refine ⟨hconv.trans h.conv, hplan.trans (by rw [h.seq]), horders.trans (h.orders.trans hcounted), fun hlt => ?_,
    z, htrack ▸ hz, hnumber, hstate, htail.trans (congrArg some h.conv), hcause _ hreasons⟩
  refine hgrows.flag _ (h.orderDone ?_)
  rwa [h.orders, hcounted]

namespace State.Grows

theorem nowCopies (s : State) : s.Grows s.nowCopies :=
  foldl (fun s i => ite ((setSeg i _ s).trans (setStatus i _ _)) (refl s)) _ s

theorem nextStep_gap {s : State} {g : Gap} (h : s.seq.gap = some g) : s.Grows s.nextStep := by
  have hstart : s.Grows (s.setSeq fun q => { q with gap := none }) := setSeq _ s
  have hcopies := nowCopies (s.setSeq fun q => { q with gap := none })
  unfold State.nextStep
  rw [h]
  refine hstart.trans (hcopies.trans ?_)
  unfold State.beginStep
  dsimp only
  generalize State.nowCopies _ = u
  rw [startFeeds_eq]
  exact of_link rfl

end State.Grows

/-- R37, R66, R159, R160: a stroke delivered, and what the line does then. -/
theorem deliver_stroke {s : State} {x : StepRec} {dir : Direction} {y : Panel} (hstep : s.seq.step = some x)
    (hk : x.kind = .stroke dir) (hy : s.forming? = some y) (hd : 0 < s.geometry.outletDist) :
    let t := s.deliver.boundary
    t.conv = s.conv + x.advance ∧ t.web = s.web
      ∧ (∃ z ∈ t.track, z.number = y.number ∧ z.strokes = min 2000 (y.strokes + 1))
      ∧ ∀ j, (t.verify.checkers.get j).queue =
        ((s.verify.checkers.get j).queue.dropWhile (ExpectedFold.overdue s.verify.window (s.conv + x.advance))) ++
          if (s.segs.get j).engaged = true ∧ (s.segs.get j).active.verify = true then [{
            panel := y.number, spacing := x.advance, count := s.conv + x.advance + s.geometry.verifyDist
            first := decide (y.strokes = 0), tol := (s.classFields y.cls).pitchTol }] else [] := by
  obtain ⟨g, verify, link, hcounted, hnumber, hstate, hstrokes, hqueue⟩ := stepCounted_panels (s := s) hk
  rw [deliver_eq hstep, hcounted]
  generalize hu : ({ s with conv := _, seq := _, track := s.track.map g, verify := _, link := _ } : State) = u
  have hforming : u.forming? = some (g y) :=
    (forming?_of_kept hstate (by rw [← hu])).trans (congrArg (Option.map g) hy)
  obtain ⟨hplaced, hgeometry, z, hz, hznumber, hzstrokes, hzplace⟩ := stepPlaced_record hk hforming
  generalize u.stepPlaced x = v at *
  obtain ⟨outlets, link', hexits, -⟩ := exitsAndStall_frame v
  have hgoes := State.GoesOn.boundary v.exitsAndStall
  have hconv : v.exitsAndStall.conv = s.conv + x.advance := by
    rw [hexits]
    refine hplaced.conv.trans ?_
    rw [← hu]
  have hstays : v.atOutlet z = false := by
    rcases hzplace with hz | hz
    · exact atOutlet_of_forming hz
    · refine atOutlet_of_tail (by rw [hz, hplaced.conv]) ?_
      rw [hgeometry, ← hu]
      exact hd
  have hrecord : z ∈ v.exitsAndStall.track := by
    rw [hexits]
    exact mem_exited hz hstays
  obtain ⟨z', hz', hz'number, hz'strokes⟩ := hgoes.track z hrecord
  refine ⟨hgoes.conv.trans hconv, ?_, ⟨z', hz', ?_, ?_⟩, fun j => ?_⟩
  · rw [hgoes.web, hexits]
    refine hplaced.web.trans ?_
    rw [← hu]
  · rw [hz'number, hznumber, hnumber]
  · rw [hz'strokes, hzstrokes, hstrokes y (forming_of_forming? hy)]
  · have hverify : v.exitsAndStall.boundary.verify = verify := by
      rw [hgoes.verify, hexits]
      refine hplaced.verify.trans ?_
      rw [← hu]
    rw [hverify, hqueue y hy j]

theorem setDrive_get (i j : Fin 6) (d : Drive) (s : State) :
    ((s.setDrive i d).segs.get j).engaged = (s.segs.get j).engaged
      ∧ ((s.setDrive i d).segs.get j).active = (s.segs.get j).active := by
  by_cases h : j = i
  · subst h
    rw [State.setDrive, setSeg_get_same]
    exact ⟨rfl, rfl⟩
  · rw [State.setDrive, setSeg_get_of_ne _ _ h]
    exact ⟨rfl, rfl⟩

/-- Settles O56. -/
theorem strokeDoneDelivers : Obligations.StrokeDoneDelivers := by
  unfold Obligations.StrokeDoneDelivers
  intro i s g run after
  have hrun : ∀ {x t}, g.drive.isStroke = true → (∀ j, j ≠ i → (s.segs.get j).drive.isStroke = false) →
      s.seq.step = some x → x.phase = .stroke → after.deliver.boundary = t → run = .next (State.served t) :=
    fun hi hout hstep hx ht => exec_strokeDone_last rfl hi hout hstep hx ht
  refine ⟨fun hi => ?_, fun j hi hji hj => ?_, fun dir adv x hi hout hstep hf hd => ?_,
    fun dir adv x p n form locked spacing taper planned need hi hout hstep hf hd hp hrunp hgap => ?_⟩
  · exact finish_of_eq (if_neg (by rw [hi]; decide))
  · refine finish_of_eq ((if_pos hi).trans ?_)
    have hstrokes : (s.setDrive i .none).strokesOut = true := by
      refine six_any_iff.mpr ⟨j, ?_⟩
      rw [State.setDrive, setSeg_get_of_ne _ _ hji]
      exact hj
    exact if_neg (by rw [hstrokes]; simp)
  · obtain ⟨hconv, hweb, hrecord, hqueues⟩ := deliver_stroke (s := after) hstep rfl hf hd
    refine ⟨_, hrun hi hout hstep rfl rfl, hconv, hweb, hrecord, fun j => (hqueues j).trans ?_⟩
    obtain ⟨hengaged, hactive⟩ : (after.segs.get j).engaged = (s.segs.get j).engaged
      ∧ (after.segs.get j).active = (s.segs.get j).active := setDrive_get i j .none s
    rw [hengaged, hactive]
    rfl
  · intro last place closed abandon stopsIn counted ended gap stall
    have hfin : p.advance.finished = true ↔ last := advance_finished_iff hrunp
    have hplace : p.advance = place := advance_pleat hrunp
    have hclosed : p.advance.closed = true ↔ closed := advance_closed_iff hrunp
    have hgap' : (if p.advance.gap = 0 then none else some ⟨p.advance.gap, p.advance.cls⟩) = gap := by
      rw [advance_pleat hrunp, apply_ite Plan.gap, apply_ite Plan.cls, ite_self, ite_self]
    have hcounted : after.endHeadPanel.orders = counted := endHeadPanel_counted after
    have hrun := fun {t} => @hrun _ t hi hout hstep rfl
    have hends (hl : last) := deliver_last (s := after) hstep rfl hp (hfin.mpr hl) hf
    have hwithin (hl : ¬ last) := deliver_within (s := after) hstep rfl hp (mt hfin.mp hl)
    generalize after.deliver = t at *
    refine ⟨fun hcase hline => ?_, fun hl hline hne => ?_, fun hl hc ha hline => ?_, fun hl hcase => ?_⟩
    · by_cases hl : last
      · obtain ⟨hended, hstall⟩ := hends hl
        obtain ⟨halone, hgrows, hto, hplan, hgap, hstep⟩ := hended.stops hline rfl
        have hopen : t.boundary = t.openBoundary := by
          rw [boundary_of_open (by rw [State.boundaryClosed, hended.seq]), abandonTest_of_not (.inl hended.forming)]
        have hresult := hended.result (cause := fun r => last ∨ r.abandoned = true) hf hd hcounted
          (fun _ _ => .inl hl) halone.conv halone.orders halone.track hgrows hplan
        refine ⟨_, hrun hopen, hresult, hgap.trans ?_, hstep, halone.forming?.trans hended.forming, hto,
          fun _ => hstall.line halone⟩
        rw [hended.seq]
        exact hgap'
      · obtain ⟨hopen, o, rest, ho, hc⟩ := hcase.resolve_left hl
        have hdelivered := hwithin hl
        obtain ⟨y, hy, -⟩ := hdelivered.forming x hf
        have hended := hdelivered.abandoned hf
        obtain ⟨halone, hgrows, hto, hplan, hgap, hstep⟩ := hended.stops hline rfl
        have hboundary : t.boundary = (t.endForming true Reasons.addAbandoned).openBoundary := by
          rw [boundary_of_open, abandonTest_ends (hdelivered.orders.trans ho) hc hy]
          rw [boundaryClosed_of_plan (by rw [hdelivered.seq]), ← Bool.not_eq_true, hclosed]
          exact hopen
        have hresult := hended.result (cause := fun r => last ∨ r.abandoned = true) hf hd hcounted
          (fun _ h => .inr h) halone.conv halone.orders halone.track hgrows hplan
        refine ⟨_, hrun hboundary, hresult, hgap.trans ?_, hstep, halone.forming?.trans hended.forming, hto,
          fun h => absurd h hl⟩
        rw [hended.seq]
        exact hgap'
    · obtain ⟨hended, hstall⟩ := hends hl
      have hgapped : t.seq.gap = some ⟨p.gap, p.cls⟩ := by
        rw [hended.seq]
        exact hgap'.trans (if_neg hne)
      have hpaced : t.boundary = t.pacedNext := by
        rw [boundary_of_open (by rw [State.boundaryClosed, hended.seq]), abandonTest_of_not (.inl hended.forming)]
        exact openBoundary_paced (.inl ⟨by rw [hended.seq]; exact hline, by simp [State.atPanelStart, hgapped]⟩)
      have hpace : t.seq.pace = s.seq.pace := by rw [hended.seq]
      have hresult {u : State} (hconv : u.conv = t.conv) (horders : u.orders = t.orders) (htrack : u.track = t.track)
          (hgrows : t.Grows u) (hplan : u.seq.plan = t.seq.plan) := hended.result
        (cause := fun r => last ∨ r.abandoned = true) hf hd hcounted (fun _ _ => .inl hl) hconv horders htrack hgrows hplan
      by_cases hk : ∃ k, s.seq.pace = .running k
      · obtain ⟨k, hk⟩ := hk
        refine ⟨t, hrun (hpaced.trans (pacedNext_running (hpace.trans hk))), hresult rfl rfl rfl (.refl t) rfl, ?_,
          hended.forming, fun _ _ => ⟨hgapped.trans (if_neg hne).symm, ?_, hstall⟩, fun h => ?_⟩
        · rw [hended.seq]
          exact hline
        · rw [hended.seq]
        · exact PaceTimer.noConfusion (hk.symm.trans h)
      · have hnext : t.pacedNext = t.nextStep := pacedNext_next (by rwa [hpace])
        have hbegun := nextStep_gap hgapped
        refine ⟨t.nextStep, hrun (hpaced.trans hnext), hresult hbegun.conv hbegun.orders hbegun.track
          (.nextStep_gap hgapped) hbegun.plan, hbegun.line.trans ?_, (forming?_of_track hbegun.track).trans hended.forming,
          fun k h => absurd ⟨k, h⟩ hk, fun _ => ⟨hbegun.gap, hbegun.step⟩⟩
        show t.seq.line = .running
        rw [hended.seq]
        exact hline
    · have hdelivered := hwithin hl
      obtain ⟨y, hy, -⟩ := hdelivered.forming x hf
      have hopen : t.boundaryClosed = false := by
        rw [boundaryClosed_of_plan (by rw [hdelivered.seq]), ← Bool.not_eq_true, hclosed]
        exact hc
      have hboundary : t.boundary = t.openBoundary := by
        rw [boundary_of_open hopen, abandonTest_of_not (.inr fun o rest ho hab => ha ⟨o, rest, ?_, hab⟩)]
        exact hdelivered.orders.symm.trans ho
      obtain ⟨halone, -, hto, hplan, -, hstep⟩ := openBoundary_stops (l := stopsIn) (by rw [hdelivered.seq]) hopen
        (.inl (by rw [hdelivered.seq]; exact hline)) (by rw [hdelivered.seq])
      refine ⟨_, hrun hboundary, hto, hplan.trans ?_, hstep, ?_, hdelivered.stall.line halone⟩
      · rw [hdelivered.seq, hplace]
      · rw [halone.forming?, hy]
        rfl
    · have hdelivered := hwithin hl
      obtain ⟨y, hy, -⟩ := hdelivered.forming x hf
      have hpaced : t.boundary = t.pacedNext := by
        have hline : t.seq.line = s.seq.line := by rw [hdelivered.seq]
        by_cases hc : closed
        · refine boundary_of_closed ((boundaryClosed_of_plan (by rw [hdelivered.seq])).trans (hclosed.mpr hc)) ?_
          rw [hline, moving_iff]
          rcases hcase with ⟨h, -⟩ | ⟨h | h, -⟩
          · exact (moving_iff _).mp h
          · exact .inl h
          · exact .inr (.inr h)
        · obtain ⟨hmoves, ha⟩ := hcase.resolve_left fun h => hc h.2
          have hopen : t.boundaryClosed = false := by
            rw [boundaryClosed_of_plan (by rw [hdelivered.seq]), ← Bool.not_eq_true, hclosed]
            exact hc
          rw [boundary_of_open hopen, abandonTest_of_not (.inr fun o rest ho hab => ha ⟨o, rest, ?_, hab⟩)]
          · have hbound : t.atPanelBoundary = false := by simp [State.atPanelBoundary, hy]
            rw [← hline] at hmoves
            exact openBoundary_paced (hmoves.imp (⟨·, by simp [State.atPanelStart, hbound]⟩) (⟨·, hbound⟩))
          · exact hdelivered.orders.symm.trans ho
      have hpace : t.seq.pace = s.seq.pace := by rw [hdelivered.seq]
      by_cases hk : ∃ k, s.seq.pace = .running k
      · obtain ⟨k, hk⟩ := hk
        refine ⟨t, hrun (hpaced.trans (pacedNext_running (hpace.trans hk))), ?_, ?_,
          fun j hj => ⟨?_, hpace.trans hj, hdelivered.stall⟩, fun h => PaceTimer.noConfusion (hk.symm.trans h)⟩
        · rw [hdelivered.seq]
        · rw [hdelivered.seq, hplace]
        · rw [hdelivered.seq]
      · have hnext : t.pacedNext = t.nextStep := pacedNext_next (by rwa [hpace])
        obtain ⟨hline, hplan, hbegun⟩ := nextStep_begins (s := t) (p := p.advance) (by rw [hdelivered.seq]; exact hgap)
          (by rw [hdelivered.seq]) (mt hfin.mp hl)
        refine ⟨t.nextStep, hrun (hpaced.trans hnext), hline.trans (by rw [hdelivered.seq]), hplan.trans (by rw [hplace]),
          fun k h => absurd ⟨k, h⟩ hk, fun _ => hbegun⟩

end Sys2Proof.Machine
end

section
/-! PROOFS. Deliveries, and whatever a line does at a boundary, lower no flag. -/

namespace Sys2Proof.Machine

/-! ## Flags at a boundary -/

namespace State.Grows

theorem foldlOn {α : Type} {op : State → α → State} (h : ∀ (s : State) a, s.Grows (op s a)) (l : List α) (s : State) :
    s.Grows (l.foldl op s) := by
  induction l generalizing s with
  | nil => exact refl s
  | cons a l ih => exact (h s a).trans (ih _)

theorem boundaryCopy (i : Fin 6) (s : State) : s.Grows (s.boundaryCopy i) := by
  have hmoved (st : SegState) (d : Drive) (t : State) : t.Grows (((t.setSegState i st).setDrive i d).setStatus i .inProgress) :=
    ((setSegState i st t).trans (setSeg i _ _)).trans (setStatus i _ _)
  have hcopied := setSeg i { s.segs.get i with active := (s.segs.get i).staged } s
  exact ite (hcopied.trans (setStatus i _ _)) (ite (hcopied.trans (hmoved _ _ _)) (hcopied.trans (hmoved _ _ _)))

theorem boundaryCopies (is : List (Fin 6)) (s : State) : s.Grows (s.boundaryCopies is) :=
  foldlOn (fun t i => ite (setStatus i _ t) (boundaryCopy i t)) is s

theorem goActive (s : State) : s.Grows s.goActive :=
  foldl (fun s i => ite (setSegState i _ s) (refl s)) _ s

theorem beginStep (kind : StepKind) (advance cls : Nat) (figures : State → Fin 6 → StepFigures) (s : State) :
    s.Grows (s.beginStep kind advance cls figures) := by
  have hfeeds (u : State) (g c figures) : u.Grows (State.startFeeds g c figures (State.setSeq
      (fun q => { q with step := some ⟨kind, advance, .feed⟩ })
      (State.setRcc (fun r => { r with edgeSeen := false }) u.restartPace))) := by
    rw [startFeeds_eq]
    exact of_link rfl
  cases kind with
  | stroke dir =>
    have hcleared (u : State) : u.Grows u.clearRetries := of_link rfl
    exact (((nowCopies s).trans (goActive _)).trans (hcleared _)).trans (hfeeds _ _ _ _)
  | flat | gap => exact (nowCopies s).trans (hfeeds _ _ _ _)

theorem markClamped (taper : Six Nat) (s : State) : s.Grows (s.markClamped taper) := by
  rw [markClamped_eq]
  exact ite (of_link rfl) (refl s)

theorem nextStep (s : State) : s.Grows s.nextStep := by
  unfold State.nextStep
  split
  · exact (setSeq _ s).trans (beginStep ..)
  · split
    · split
      · exact (beginStep ..).trans (markClamped ..)
      · exact beginStep ..
      · exact refl s
    · exact refl s

theorem pacedNext (s : State) : s.Grows s.pacedNext := by
  unfold State.pacedNext
  split
  · exact refl s
  all_goals exact nextStep s

theorem enterIdle (s : State) : s.Grows s.enterIdle := (enter .idle s).trans (pressTest _)

theorem enterHeld (s : State) : s.Grows s.enterHeld := (enter .held s).trans (pressTest _)

theorem stopAtBoundary (s : State) : s.Grows s.stopAtBoundary := ite (ite (enterIdle s) (enterHeld s)) (refl s)

theorem enterHolding (s : State) : s.Grows s.enterHolding := by
  unfold State.enterHolding
  split
  · exact ((setSeq _ s).trans (enter .holding _)).trans (stopAtBoundary _)
  · exact ((setSeq _ s).trans (enter .holding _)).trans (stopAtBoundary _)
  · exact refl s

theorem addHold (f : HoldSet → HoldSet) (s : State) : s.Grows (s.addHold f) := by
  have hset := setSeq (fun q => { q with hold := f q.hold }) s
  unfold State.addHold
  dsimp only
  split
  · exact hset.trans (enterHolding _)
  · exact hset.trans (enterHolding _)
  · exact hset.trans (enterHeld _)
  all_goals exact hset

theorem addHoldAtOnce (f : HoldSet → HoldSet) (s : State) : s.Grows (s.addHoldAtOnce f) := by
  have hset := setSeq (fun q => { q with hold := f q.hold }) s
  unfold State.addHoldAtOnce
  dsimp only
  split
  iterate 4 exact hset.trans (enterHeld _)
  all_goals exact hset

theorem fireTests (s : State) : s.Grows s.fireTests := by
  unfold State.fireTests
  refine ite (ite (pressTest s) (ite ?_ (refl s))) (refl s)
  split
  · exact fire s
  · exact ((setRcc _ s).trans (addHold _ _)).trans (pressTest _)

theorem waitWith (b : Inhibits) (s : State) : s.Grows (s.waitWith b) := (setSeq _ s).trans (enter .waiting _)

theorem reserve (out : Outlet) (s : State) : s.Grows (s.reserve out) := by
  have hset (o : Outlets) : s.Grows { s with outlets := o } := of_link rfl
  exact ite ((hset _).trans (raise? _ _)) (hset _)

theorem firmSlot (b : Nat) (s : State) : s.Grows (s.firmSlot b) := setRcc _ s

theorem startPanel (o : Order) (rest : List Order) (r : Roll) (out : Outlet) (p : Plan) (s : State) :
    s.Grows (s.startPanel o rest r out p) := by
  have hnew (u : State) : u.Grows { u with track := u.track ++ [u.newPanel o r out p], nextPanel := u.nextPanel + 1 } :=
    of_link rfl
  have hready (u : State) : u.Grows (State.startCarries (State.setSeq
      (fun q => { q with plan := some p, inhibits := Inhibits.empty })
      { u with orders := { o with started := o.started + 1 } :: rest })) := of_link rfl
  have hplaced (u : State) : u.Grows (if p.slotFirm then u.firmSlot p.plannedEnd else u) :=
    ite (firmSlot _ u) (refl u)
  exact (((((reserve out s).trans (hnew _)).trans (hplaced _)).trans (hready _)).trans (enter .running _)).trans
    (nextStep _)

theorem startAttempt (s : State) : s.Grows s.startAttempt := by
  have hcopies := boundaryCopies s.boundaryWaiting s
  unfold State.startAttempt
  dsimp only
  split
  · exact hcopies.trans (waitWith _ _)
  · split
    · split
      · exact ite (hcopies.trans (startPanel _ _ _ _ _ _)) (hcopies.trans (waitWith _ _))
      · exact hcopies.trans (waitWith _ _)
    · exact hcopies.trans (waitWith _ _)

theorem fireTestsAgain (s : State) : s.Grows s.fireTestsAgain :=
  ite ((fireTests s).trans (startAttempt _)) (fireTests s)

theorem panelStart (s : State) : s.Grows s.panelStart := (startAttempt s).trans (fireTestsAgain _)

theorem abandonTest (s : State) : s.Grows s.abandonTest := by
  unfold State.abandonTest
  split
  · exact ite (endForming ..) (refl s)
  · exact refl s

theorem openBoundary (s : State) : s.Grows s.openBoundary := by
  unfold State.openBoundary
  split
  · exact stopAtBoundary s
  · exact ite (enterIdle s) (pacedNext s)
  · exact ite (panelStart s) (pacedNext s)
  all_goals exact refl s

/-- Whatever the line does at a boundary. -/
theorem boundary (s : State) : s.Grows s.boundary :=
  ite (ite (pacedNext s) (refl s)) ((abandonTest s).trans (openBoundary _))

theorem stepPlaced (x : StepRec) (s : State) : s.Grows (s.stepPlaced x) := by
  unfold State.stepPlaced
  split
  · exact refl s
  · exact ite ((setSeq _ s).trans (endForming ..)) (setSeq _ s)
  · exact refl s

theorem deliver {x : StepRec} {s : State} (h : s.seq.step = some x) : s.Grows s.deliver := by
  have hcounted : s.Grows (s.stepCounted x) := by
    cases hk : x.kind with
    | stroke dir =>
      obtain ⟨f, verify, link, -, -, hgrows, -⟩ := stepCounted_stroke (s := s) hk
      exact hgrows
    | flat =>
      rw [stepCounted_of_not_stroke (.inl hk)]
      exact of_link rfl
    | gap =>
      rw [stepCounted_of_not_stroke (.inr hk)]
      exact of_link rfl
  obtain ⟨outlets, link, -, hexits⟩ := exitsAndStall_frame ((s.stepCounted x).stepPlaced x)
  rw [deliver_eq h]
  exact (hcounted.trans (stepPlaced x _)).trans hexits

end State.Grows

end Sys2Proof.Machine
end

section
/-! PROOFS. The drive steps of a feed phase, its end by what the roll change controller does at it, and what follows. -/

namespace Sys2Proof.Machine

/-! ## What follows a feed end -/

/-- R64, R74: what follows the feed end of a phase that ended, or was cut. -/
def State.feedTaken (ph : Phase) (s : State) : State :=
  if ph = .feed then s.afterFeed else if s.seq.line.moving = true then (s.setPhase .fed).takeUp else s.setPhase .fed

theorem setPhase_eq {s : State} {x : StepRec} {ph : Phase} (h : s.seq.step = some x) :
    s.setPhase ph = { s with seq := { s.seq with step := some { x with phase := ph } } } := by
  have hstep : s.seq.step.map (fun x => { x with phase := ph }) = some { x with phase := ph } := by
    rw [h]
    rfl
  rw [← hstep]
  rfl

/-- R74: a line that stands leaves the step fed. -/
theorem feedTaken_stands {s : State} {x : StepRec} (hs : s.seq.step = some x) (hm : ¬ s.seq.line.moving = true) :
    s.feedTaken x.phase = { s with seq := { s.seq with step := some { x with phase := .fed } } } := by
  rw [← setPhase_eq hs]
  unfold State.feedTaken State.afterFeed
  rw [hs, if_neg hm]
  by_cases hx : x.phase = .feed
  · rw [if_pos hx]
    exact if_neg hm
  · exact if_neg hx

/-- R65, R74: a line that makes steps commands a stroke's blades. -/
theorem feedTaken_stroke {s : State} {x : StepRec} {dir : Direction} (hs : s.seq.step = some x) (hk : x.kind = .stroke dir)
    (hm : s.seq.line.moving = true) : s.feedTaken x.phase =
      if x.phase = .feed then s.beginStroke dir else (s.setPhase .fed).takeUpStroke dir := by
  unfold State.feedTaken
  by_cases hx : x.phase = .feed
  · rw [if_pos hx, if_pos hx]
    unfold State.afterFeed
    simp only [hs, hk, hm, if_true]
  · rw [if_neg hx, if_neg hx, if_pos hm]
    unfold State.takeUp
    rw [setPhase_eq hs]
    simp only [hk]

/-- R66, R74: a line that makes steps delivers a step that is no stroke. -/
theorem feedTaken_delivers {s : State} {x : StepRec} (hs : s.seq.step = some x) (hk : x.kind = .flat ∨ x.kind = .gap)
    (hm : s.seq.line.moving = true) : ∃ q y, q.step = some y ∧ y.kind = x.kind ∧ y.advance = x.advance
      ∧ s.feedTaken x.phase = State.deliverAndGo { s with seq := q } := by
  unfold State.feedTaken
  by_cases hx : x.phase = .feed
  · refine ⟨s.seq, x, hs, rfl, rfl, ?_⟩
    rw [if_pos hx]
    unfold State.afterFeed
    rcases hk with hk | hk <;> simp only [hs, hk, hm, if_true]
  · refine ⟨{ s.seq with pace := .running s.pacePeriod, step := some { x with phase := .fed } },
      { x with phase := .fed }, rfl, rfl, rfl, ?_⟩
    rw [if_neg hx, if_pos hm, setPhase_eq hs]
    unfold State.takeUp
    rcases hk with hk | hk <;> simp only [hk] <;> rfl

/-- R66: the delivery of a step that is no stroke. -/
theorem deliver_plain {s : State} {x : StepRec} (hs : s.seq.step = some x) (hk : x.kind = .flat ∨ x.kind = .gap) :
    s.deliver.conv = s.conv + x.advance ∧ s.deliver.web = s.web ∧ s.deliver.rcc = s.rcc := by
  obtain ⟨outlets, link, hexits, -⟩ := exitsAndStall_frame ((s.stepCounted x).stepPlaced x)
  have hplaced (u : State) : (u.stepPlaced x).conv = u.conv ∧ (u.stepPlaced x).web = u.web
      ∧ (u.stepPlaced x).rcc = u.rcc := by
    have hended (v : State) : (v.endForming false id).rcc = v.rcc := endForming_rcc_late id
    have hgoes (v : State) := State.GoesOn.endForming false (f := id) v
    unfold State.stepPlaced
    split
    · exact ⟨rfl, rfl, rfl⟩
    · split
      · exact ⟨(hgoes _).conv, (hgoes _).web, hended _⟩
      · exact ⟨rfl, rfl, rfl⟩
    · exact ⟨rfl, rfl, rfl⟩
  obtain ⟨hconv, hweb, hrcc⟩ := hplaced (s.stepCounted x)
  rw [stepCounted_of_not_stroke hk] at hconv hweb hrcc
  rw [deliver_eq hs, hexits, stepCounted_of_not_stroke hk]
  exact ⟨hconv, hweb, hrcc⟩

/-- What a feed end, once made, is followed by. -/
structure State.Taken (x : StepRec) (s t : State) : Prop where
  web : t.web = s.web
  grows : s.Grows t
  rcc : s.rcc.splice ≠ .slotted → ∃ (e : Bool) (p : Option Nat) (r : Bool),
    t.rcc = { s.rcc with edgeSeen := e, firePoint := p, slotRequest := r }
      ∧ (s.rcc.firePoint = none → p = none ∧ r = s.rcc.slotRequest)
  stands : ¬ s.seq.line.moving = true → t = { s with seq := { s.seq with step := some { x with phase := .fed } } }
  stroke : ∀ dir, x.kind = .stroke dir → s.seq.line.moving = true →
    t = { s with segs := t.segs, seq := t.seq } ∧ t.seq.line = s.seq.line ∧ t.seq.hold = s.seq.hold
      ∧ t.seq.baseRate = s.seq.baseRate ∧ t.seq.step = some { x with phase := .stroke }
      ∧ (∀ j, (s.segs.get j).engaged = true → (t.segs.get j).drive = .stroke (s.fmu.get j).depth dir)
      ∧ (x.phase ≠ .feed → t.seq.backoffs = 0 ∧ t.seq.pace = .running s.pacePeriod)
  delivered : x.kind = .flat ∨ x.kind = .gap → s.seq.line.moving = true → t.conv = s.conv + x.advance

theorem feedTaken_taken {s : State} {x : StepRec} (hs : s.seq.step = some x) : s.Taken x (s.feedTaken x.phase) := by
  by_cases hm : s.seq.line.moving = true
  · have hsame {t : State} (h : t.rcc = s.rcc) := fun (_ : s.rcc.splice ≠ .slotted) => State.GoesOn.same_rcc h
    have hplain (hk : x.kind = .flat ∨ x.kind = .gap) : s.Taken x (s.feedTaken x.phase) := by
      obtain ⟨q, y, hq, hyk, hya, heq⟩ := feedTaken_delivers hs hk hm
      obtain ⟨hconv, hweb, hrcc⟩ := deliver_plain (s := { s with seq := q }) hq (by rwa [hyk])
      have hgoes := State.GoesOn.boundary (State.deliver { s with seq := q })
      have hstart : s.Grows { s with seq := q } := .of_link rfl
      rw [heq]
      refine ⟨hgoes.web.trans hweb, (hstart.trans (.deliver (s := { s with seq := q }) hq)).trans (.boundary _),
        fun hno => ?_, fun h => absurd hm h, fun dir hd => ?_, fun _ _ => (hgoes.conv.trans hconv).trans ?_⟩
      · have hafter := hgoes.rcc (by rw [hrcc]; exact hno)
        rw [hrcc] at hafter
        exact hafter
      · rcases hk with hk | hk
        · exact StepKind.noConfusion (hk.symm.trans hd)
        · exact StepKind.noConfusion (hk.symm.trans hd)
      · rw [hya]
    cases hk : x.kind with
    | flat => exact hplain (.inl hk)
    | gap => exact hplain (.inr hk)
    | stroke dir =>
      rw [feedTaken_stroke hs hk hm]
      by_cases hx : x.phase = .feed
      · rw [if_pos hx, beginStroke_eq hs]
        refine ⟨rfl, .of_link rfl, hsame rfl, fun h => absurd hm h, fun d hd _ => ?_, fun hno _ => ?_⟩
        · obtain rfl := StepKind.stroke.inj (hk.symm.trans hd)
          refine ⟨rfl, rfl, rfl, rfl, rfl, fun j hj => ?_, fun h => absurd hx h⟩
          rw [commandEngaged_get, if_pos hj]
        · exact hno.elim (fun h => StepKind.noConfusion (hk.symm.trans h)) fun h => StepKind.noConfusion (hk.symm.trans h)
      · rw [if_neg hx, setPhase_eq hs, takeUpStroke_eq (x := { x with phase := .fed }) rfl]
        refine ⟨rfl, .of_link rfl, hsame rfl, fun h => absurd hm h, fun d hd _ => ?_, fun hno _ => ?_⟩
        · obtain rfl := StepKind.stroke.inj (hk.symm.trans hd)
          refine ⟨rfl, rfl, rfl, rfl, rfl, fun j hj => ?_, fun _ => ⟨rfl, rfl⟩⟩
          rw [commandEngaged_get, State.clearRetries, Six.get_map]
          exact congrArg Segment.drive (if_pos hj)
        · exact hno.elim (fun h => StepKind.noConfusion (hk.symm.trans h)) fun h => StepKind.noConfusion (hk.symm.trans h)
  · rw [feedTaken_stands hs hm]
    exact ⟨rfl, .of_link rfl, fun _ => State.GoesOn.same_rcc rfl, fun _ => rfl, fun _ _ h => absurd h hm,
      fun _ h => absurd h hm⟩

/-! ## A drive step of the feed -/

/-- R109: a drive step of segment `i` done, the list and the number commanded as given, and the next command. -/
def State.fedTo (i : Fin 6) (len : Nat) (left : List Nat) (n : Nat) (d : Drive) (s : State) : State := { s with
  fmu := s.fmu.set i { s.fmu.get i with completed := (s.fmu.get i).completed + len, left := left, commanded := n }
  segs := s.segs.set i { s.segs.get i with drive := d } }

theorem feedStepDone_more {i : Fin 6} {len next : Nat} {rest : List Nat} {s : State} (hp : s.phase? = some .feed)
    (hl : (s.fmu.get i).left = next :: rest) :
    s.feedStepDone i len = s.fedTo i len rest ((s.fmu.get i).commanded + 1) (.feed next) := by
  unfold State.feedStepDone
  dsimp only
  rw [hp, hl]
  rfl

theorem feedStepDone_last {i : Fin 6} {len : Nat} {s : State}
    (h : s.phase? = some .feed ∧ (s.fmu.get i).left = [] ∨ s.phase? = some .feedCut) :
    s.feedStepDone i len = s.fedTo i len (s.fmu.get i).left (s.fmu.get i).commanded .none := by
  unfold State.feedStepDone
  dsimp only
  rcases h with ⟨hp, hl⟩ | hp
  · rw [hp, hl]
    rfl
  · rw [hp]
    rfl

theorem fedTo_get_same (i : Fin 6) (len : Nat) (left : List Nat) (n : Nat) (d : Drive) (s : State) :
    (s.fedTo i len left n d).segs.get i = { s.segs.get i with drive := d } := Six.get_set_same ..

theorem fedTo_get_of_ne {i j : Fin 6} (len : Nat) (left : List Nat) (n : Nat) (d : Drive) (s : State) (h : j ≠ i) :
    (s.fedTo i len left n d).segs.get j = s.segs.get j := Six.get_set_of_ne _ _ h

theorem fedTo_depth (i j : Fin 6) (len : Nat) (left : List Nat) (n : Nat) (d : Drive) (s : State) :
    ((s.fedTo i len left n d).fmu.get j).depth = (s.fmu.get j).depth
      ∧ ((s.fedTo i len left n d).segs.get j).engaged = (s.segs.get j).engaged := by
  unfold State.fedTo
  by_cases h : j = i
  · subst h
    simp only [Six.get_set_same]
    exact ⟨trivial, rfl⟩
  · simp only [Six.get_set_of_ne _ _ h, and_self]

theorem exec_feedDone {i : Fin 6} {len : Nat} {s t : State} (hd : (s.segs.get i).drive = .feed len)
    (he : (s.segs.get i).engaged = true) (ht : (s.feedStepDone i len).feedEndTest = t) :
    exec (.feedDone i) s = .next (State.served t) := by
  refine finish_of_eq ?_
  unfold State.feedIsDone
  dsimp only
  rw [hd, he]
  exact ht

theorem feedEndTest_waits {s : State} (h : ∃ j, (s.segs.get j).drive.isFeed = true) : s.feedEndTest = s :=
  if_pos ((feedsOut_iff s).mpr h)

/-- R64, R74: the last drive step of the phase makes the feed end. -/
theorem feedEndTest_ends {s : State} {x : StepRec} (hs : s.seq.step = some x) (hx : x.phase = .feed ∨ x.phase = .feedCut)
    (hno : ¬ ∃ j, (s.segs.get j).drive.isFeed = true) : s.feedEndTest = s.feedEndRcc.feedTaken x.phase := by
  have hout : s.feedsOut = false := by rwa [← Bool.not_eq_true, feedsOut_iff]
  have hphase : s.phase? = some x.phase := congrArg (Option.map StepRec.phase) hs
  refine (if_neg (by rw [hout]; decide)).trans ?_
  rcases hx with hx | hx
  · rw [hphase, hx]
    rfl
  · rw [hphase, hx]
    exact (cutPoint_feedCut hs hx).trans (if_neg (by rw [hout]; decide))

/-! ## The crossings of a feed end -/

/-- R132, R133: a seam crosses at the feed end. -/
def State.crosses (s : State) : Bool := s.debited.seamHit || s.debited.unconfirmedHit

/-- R117, R132, R133: the feed end up to the fire tests touches the counts, the roll change controller, the records and
the flags alone. -/
theorem crossed_frame (s : State) : ∃ link, s.crossed = { s with
      web := s.web + s.webAdvance, rcc := s.debited.crossedRcc
      track := if s.crosses = true then s.seamMarked else s.track, link := link }
    ∧ s.Grows s.crossed
    ∧ s.crossed.flagSet .seamInPanel = (s.flagSet .seamInPanel || (s.crosses && s.forming?.isSome)) := by
  have heq := crossings_eq s.debited
  unfold State.crossed
  rw [heq]
  unfold State.markedIf
  by_cases hraise : (s.crosses && s.forming?.isSome) = true
  · rw [if_pos (by exact hraise)]
    refine ⟨_, rfl, .trans ?_ (.raise .seamInPanel _), (flagSet_raise ..).trans ?_⟩
    · exact .of_link rfl
    · rw [hraise]
      simp
  · rw [if_neg (by exact hraise)]
    refine ⟨_, rfl, .of_link rfl, ?_⟩
    rw [Bool.eq_false_iff.mpr hraise, Bool.or_false]
    rfl

theorem spindle_mapSpindles (f : Spindle → Spindle) (r : RollChange) (n : SpindleName) :
    (r.mapSpindles f).spindle n = f (r.spindle n) := by cases n <;> rfl

/-- The ACTIVE roll is on spindle `n` alone. -/
structure RollChange.ActiveOn (n : SpindleName) (a : Roll) (r : RollChange) : Prop where
  here : r.spindle n = .active a
  alone : ∀ b, r.spindle n.other ≠ .active b

namespace RollChange.ActiveOn

theorem other_active? {n : SpindleName} {a : Roll} {r : RollChange} (h : r.ActiveOn n a) :
    (r.spindle n.other).active? = none := by
  have halone := h.alone
  cases hs : r.spindle n.other with
  | active b => exact absurd hs (halone b)
  | empty | standby | expiring | spent => rfl

theorem activeRoll {n : SpindleName} {a : Roll} {r : RollChange} (h : r.ActiveOn n a) : r.activeRoll = some a := by
  rw [activeRoll_of_other h.other_active?, h.here]
  rfl

/-- R117: the ACTIVE roll is debited, and the other record is not touched. -/
theorem debit {n : SpindleName} {a : Roll} {r : RollChange} (h : r.ActiveOn n a) (w : Nat) :
    (r.mapSpindles (Spindle.debit w)).spindle n = .active { a with remaining := a.remaining - w }
      ∧ (r.mapSpindles (Spindle.debit w)).spindle n.other = r.spindle n.other := by
  have halone := h.alone
  rw [spindle_mapSpindles, spindle_mapSpindles, h.here]
  refine ⟨rfl, ?_⟩
  cases hs : r.spindle n.other with
  | active b => exact absurd hs (halone b)
  | empty | standby | expiring | spent => rfl

end RollChange.ActiveOn

/-- R117: the rolls after the feed end's debit. -/
theorem crossed_spindles {n : SpindleName} {a : Roll} {s : State} (h : s.rcc.ActiveOn n a) :
    s.crossed.rcc.spindle n = .active { a with remaining := a.remaining - s.webAdvance }
      ∧ s.crossed.rcc.spindle n.other = s.rcc.spindle n.other := by
  have hkeep (r : RollChange) (k : SpindleName) :
      (RollChange.unconfirmedAt s.debited.web { r with
        seams := r.seams.filter fun m => decide (s.debited.web < m.position) }).spindle k = r.spindle k := by
    cases k <;> rfl
  rw [crossed_rcc, State.crossedRcc, hkeep, hkeep]
  exact h.debit s.webAdvance

theorem crossed_activeOn {n : SpindleName} {a : Roll} {s : State} (h : s.rcc.ActiveOn n a) :
    s.crossed.rcc.ActiveOn n { a with remaining := a.remaining - s.webAdvance } := by
  obtain ⟨hn, hm⟩ := crossed_spindles h
  exact ⟨hn, fun b hb => h.alone b (hm.symm.trans hb)⟩

/-! ## Fire tests at a feed end -/

/-- R124: the tail conditions after the debit. -/
theorem crossed_tailShort {n : SpindleName} {a : Roll} {s : State} (h : s.rcc.ActiveOn n a) :
    s.crossed.tailShort = true ↔
      (∀ f, s.rcc.firePoint = some f → a.remaining - s.webAdvance + (s.web + s.webAdvance) < s.rcc.settings.tailReserve + f)
        ∧ (s.rcc.firePoint = none → a.remaining - s.webAdvance < s.rcc.settings.tailReserve) := by
  have ha := (crossed_activeOn h).activeRoll
  have hweb : s.crossed.web = s.web + s.webAdvance := crossings_web _
  have hpoint : s.crossed.rcc.firePoint = s.rcc.firePoint :=
    (congrArg RollChange.firePoint (crossed_rcc s) :)
  have hsettings : s.crossed.rcc.settings = s.rcc.settings :=
    (congrArg RollChange.settings (crossed_rcc s) :)
  cases hf : s.rcc.firePoint with
  | some f =>
    rw [tailShort_of_point ha (hpoint.trans hf), decide_eq_true_eq, hweb, hsettings]
    exact ⟨fun h => ⟨fun g hg => by rwa [Option.some.inj hg] at h, fun hg => absurd hg (by simp)⟩, fun h => h.1 f rfl⟩
  | none =>
    rw [tailShort_of_no_point ha (hpoint.trans hf), decide_eq_true_eq, hsettings]
    exact ⟨fun h => ⟨fun g hg => absurd hg (by simp), fun _ => h⟩, fun h => h.2 rfl⟩

/-- R124: the fire test after the debit and the crossings. -/
theorem crossed_fireReady (s : State) : s.crossed.fireReady = true ↔
    (s.rcc.seams.filter fun m => decide (s.web + s.webAdvance < m.position)).length < 3
      ∧ (s.crossed.tailShort = true ∨ ((∃ f, s.rcc.firePoint = some f ∧ f ≤ s.web + s.webAdvance)
        ∨ ∃ o rest, s.orders = o :: rest ∧ o.seamPolicy = .mark) ∧ s.rcc.settings.sbNeed ≤ s.steam.grants.sb) := by
  obtain ⟨link, hframe, -⟩ := crossed_frame s
  rw [fireReady_iff]
  generalize s.crossed.tailShort = short
  rw [hframe]
  rfl

/-- R128: the detect point not reached. -/
theorem detectTest_same {s : State} (h : s.rcc.splice = .pressing → s.rcc.settings.mode = .flying →
    s.rcc.confirmTimer = none → ∀ d, s.rcc.detectPoint = some d → s.web < d) : s.detectTest = s := by
  unfold State.detectTest
  split
  · next hq =>
    simp only [Bool.and_eq_true, decide_eq_true_eq, Option.isNone_iff_eq_none] at hq
    obtain ⟨⟨hp, hm⟩, ht⟩ := hq
    split
    · next d hd => exact if_neg (Nat.not_le.mpr (h hp hm ht d hd))
    · rfl
  · rfl

/-- R119, R121: what the two tests at the end of a feed end touch. -/
theorem endTests_rcc (s : State) : ∃ splice timer command,
    s.evalStandby.triggerTest.rcc = { s.rcc with
      standbyNeeded := s.rcc.needsStandby, splice := splice, matchTimer := timer, spindleCommand := command }
    ∧ (splice = s.rcc.splice ∧ timer = s.rcc.matchTimer ∧ command = s.rcc.spindleCommand
      ∨ s.rcc.splice = .armed ∧ splice = .preparing ∧ s.rcc.triggered = true) := by
  have heval : s.evalStandby.rcc = { s.rcc with standbyNeeded := s.rcc.needsStandby } := by
    rw [evalStandby_eq]
    dsimp only
    split
    · rfl
    · rfl
  by_cases h : s.evalStandby.rcc.splice = .armed ∧ s.evalStandby.seq.line ≠ .estop ∧ s.evalStandby.rcc.triggered = true
  · rw [triggerTest_of_passes h]
    rw [heval] at h ⊢
    exact ⟨_, _, _, rfl, .inr ⟨h.1, rfl, h.2.2⟩⟩
  · rw [triggerTest_of_not h, heval]
    exact ⟨_, _, _, rfl, .inl ⟨rfl, rfl, rfl⟩⟩

theorem endTests_alone (s : State) : s.RccAlone s.evalStandby.triggerTest ∧ s.Grows s.evalStandby.triggerTest :=
  ⟨(State.rccAlone_evalStandby s).trans (State.rccAlone_triggerTest _), (State.Grows.evalStandby s).trans (.triggerTest _)⟩

/-- Whatever the tests at the end of a feed end raise is not SEAM_IN_PANEL. -/
theorem endTests_seamInPanel (s : State) :
    s.evalStandby.triggerTest.flagSet .seamInPanel = s.flagSet .seamInPanel := by
  have htrigger : s.evalStandby.triggerTest.link = s.evalStandby.link := by
    rw [triggerTest_eq]
  rw [flagSet_of_link htrigger, evalStandby_eq]
  dsimp only
  split
  · exact (flagSet_raise ..).trans (by rw [show decide (Flag.seamInPanel = .standbyNeeded) = false from rfl, Bool.or_false]; rfl)
  · rfl

theorem State.Taken.rcc_kept {x : StepRec} {s t : State} (h : s.Taken x t)
    (hno : s.rcc.splice ≠ .slotted ∨ (∃ dir, x.kind = .stroke dir) ∨ ¬ s.seq.line.moving = true) :
    ∃ (e : Bool) (p : Option Nat) (r : Bool), t.rcc = { s.rcc with edgeSeen := e, firePoint := p, slotRequest := r }
      ∧ (s.rcc.splice = .slotted → p = s.rcc.firePoint ∧ r = s.rcc.slotRequest) := by
  have hsame (hrcc : t.rcc = s.rcc) : ∃ (e : Bool) (p : Option Nat) (r : Bool),
      t.rcc = { s.rcc with edgeSeen := e, firePoint := p, slotRequest := r }
        ∧ (s.rcc.splice = .slotted → p = s.rcc.firePoint ∧ r = s.rcc.slotRequest) :=
    ⟨s.rcc.edgeSeen, s.rcc.firePoint, s.rcc.slotRequest, hrcc, fun _ => ⟨rfl, rfl⟩⟩
  by_cases hm : s.seq.line.moving = true
  · rcases hno with hno | ⟨dir, hk⟩ | hno
    · obtain ⟨e, p, r, hrcc, -⟩ := h.rcc hno
      exact ⟨e, p, r, hrcc, fun hs => absurd hs hno⟩
    · obtain ⟨hframe, -⟩ := h.stroke dir hk hm
      exact hsame (congrArg State.rcc hframe :)
    · exact absurd hm hno
  · exact hsame (congrArg State.rcc (h.stands hm) :)

/-- R117: a feed end without a fire, with some roll left. -/
structure State.QuietEnd (n : SpindleName) (a : Roll) (s e : State) : Prop where
  web : e.web = s.web + s.webAdvance
  conv : e.conv = s.conv
  seq : e.seq = s.seq
  segs : e.segs = s.segs
  fmu : e.fmu = s.fmu
  here : e.rcc.spindle n = .active { a with remaining := a.remaining - s.webAdvance }
  other : e.rcc.spindle n.other = s.rcc.spindle n.other

theorem spindle_of_records {r q : RollChange} (h₁ : r.u1 = q.u1) (h₂ : r.u2 = q.u2) (n : SpindleName) :
    r.spindle n = q.spindle n := by
  cases n with
  | u1 => exact h₁
  | u2 => exact h₂

theorem feedEndRcc_quietEnd {n : SpindleName} {a : Roll} {s : State} (hact : s.rcc.ActiveOn n a)
    (hfire : s.crossed.fireTests = s.crossed) (hleft : s.webAdvance < a.remaining) :
    s.QuietEnd n a s.feedEndRcc := by
  have hall : ∀ b, s.rcc.activeRoll = some b → s.webAdvance < b.remaining := fun b hb => by
    obtain rfl := Option.some.inj (hact.activeRoll.symm.trans hb)
    exact hleft
  obtain ⟨link, hframe, -⟩ := crossed_frame s
  have halone : s.crossed.RccAlone s.crossed.detectTest.evalStandby.triggerTest :=
    (State.rccAlone_detectTest _).trans (endTests_alone _).1
  obtain ⟨splice, timer, command, hrcc, -⟩ := endTests_rcc s.crossed.detectTest
  obtain ⟨hn, hm⟩ := crossed_spindles hact
  obtain ⟨hu1, hu2⟩ := detectTest_spindles s.crossed
  have hrecords (k : SpindleName) : s.feedEndRcc.rcc.spindle k = s.crossed.rcc.spindle k := by
    rw [feedEndRcc_quiet hfire hall, hrcc]
    exact spindle_of_records (by exact hu1) (by exact hu2) k
  refine ⟨feedEndRcc_web s, ?_, feedEndRcc_quiet_seq hfire hall, ?_, ?_, (hrecords n).trans hn,
    (hrecords n.other).trans hm⟩
  · rw [feedEndRcc_quiet hfire hall, halone.conv, hframe]
  · rw [feedEndRcc_quiet hfire hall, halone.segs, hframe]
  · rw [feedEndRcc_quiet hfire hall, halone.fmu, hframe]

/-- R64, R109, R117: a feed end without a fire, a detection or a roll-out, and what follows it. -/
theorem feedEnd_quiet {s e t : State} {x : StepRec} {n : SpindleName} {a : Roll}
    (hact : s.rcc.ActiveOn n a) (hfire : s.crossed.fireTests = s.crossed) (hleft : s.webAdvance < a.remaining)
    (hdet : s.rcc.splice = .pressing → ∀ d, s.rcc.detectPoint = some d → s.web + s.webAdvance < d)
    (he : s.feedEndRcc = e) (ht : e.Taken x t) :
    t.web = s.web + s.webAdvance
      ∧ (s.rcc.splice ≠ .slotted ∨ (∃ dir, x.kind = .stroke dir) ∨ ¬ s.seq.line.moving = true →
        t.rcc.spindle n = .active { a with remaining := a.remaining - s.webAdvance }
          ∧ t.rcc.spindle n.other = s.rcc.spindle n.other ∧ t.rcc.seams = s.debited.crossedRcc.seams
          ∧ t.rcc.unconfirmed = s.debited.crossedRcc.unconfirmed
          ∧ (s.rcc.splice = .slotted → t.rcc.splice = .slotted ∧ t.rcc.pressDue = s.rcc.pressDue
            ∧ t.rcc.firePoint = s.rcc.firePoint ∧ t.rcc.slotRequest = s.rcc.slotRequest))
      ∧ (∀ dir, x.kind = .stroke dir → s.seq.line.moving = true →
        t.seq.step = some ⟨x.kind, x.advance, .stroke⟩ ∧ t.conv = s.conv
          ∧ t.track = (if s.crosses = true then s.seamMarked else s.track)
          ∧ t.flagSet .seamInPanel = (s.flagSet .seamInPanel || (s.crosses && s.forming?.isSome))
          ∧ (∀ j, (s.segs.get j).engaged = true → (t.segs.get j).drive = .stroke (s.fmu.get j).depth dir)
          ∧ (x.phase ≠ .feed → t.seq.backoffs = 0 ∧ t.seq.pace = .running t.pacePeriod))
      ∧ (x.kind = .flat ∨ x.kind = .gap → s.seq.line.moving = true → t.conv = s.conv + x.advance)
      ∧ (¬ s.seq.line.moving = true → t.seq.step = some ⟨x.kind, x.advance, .fed⟩ ∧ t.conv = s.conv
        ∧ t.track = (if s.crosses = true then s.seamMarked else s.track)) := by
  have hend := feedEndRcc_quietEnd hact hfire hleft
  obtain ⟨link, hframe, -, hflag⟩ := crossed_frame s
  have hdetect : s.crossed.detectTest = s.crossed := by
    refine detectTest_same fun hp _ _ d hd => ?_
    rw [hframe] at hp hd ⊢
    exact hdet hp d hd
  have hquiet : s.feedEndRcc = s.crossed.evalStandby.triggerTest := by
    rw [feedEndRcc_quiet hfire fun b hb => ?_, hdetect]
    obtain rfl := Option.some.inj (hact.activeRoll.symm.trans hb)
    exact hleft
  have htrack : e.track = if s.crosses = true then s.seamMarked else s.track := by
    rw [← he, hquiet, (endTests_alone _).1.track, hframe]
  have hraised : e.flagSet .seamInPanel = (s.flagSet .seamInPanel || (s.crosses && s.forming?.isSome)) := by
    rw [← he, hquiet, endTests_seamInPanel, hflag]
  obtain ⟨splice, timer, command, hrcc, hsplice⟩ := endTests_rcc s.crossed
  rw [← hquiet, he, crossed_rcc] at hrcc
  rw [crossed_rcc] at hsplice
  have hslotted : s.rcc.splice = .slotted → splice = .slotted := fun h =>
    hsplice.elim (fun k => k.1.trans h) fun k => absurd (h.symm.trans k.1) (by decide)
  have hnot : s.rcc.splice ≠ .slotted → splice ≠ .slotted := fun h =>
    hsplice.elim (fun k hk => h (k.1.symm.trans hk)) fun k hk => absurd (k.2.1.symm.trans hk) (by decide)
  rw [he] at hend
  refine ⟨ht.web.trans hend.web, fun hno => ?_, fun dir hk hm => ?_, fun hk hm => ?_, fun hm => ?_⟩
  · have hno' : e.rcc.splice ≠ .slotted ∨ (∃ dir, x.kind = .stroke dir) ∨ ¬ e.seq.line.moving = true := by
      rw [hend.seq, hrcc]
      exact hno.imp_left hnot
    obtain ⟨edge, p, r, hafter, hkept⟩ := ht.rcc_kept hno'
    have hrecords (k : SpindleName) : t.rcc.spindle k = e.rcc.spindle k := by
      rw [hafter]
      cases k <;> rfl
    refine ⟨(hrecords n).trans hend.here, (hrecords n.other).trans hend.other, ?_, ?_, fun hsl => ?_⟩
    · rw [hafter, hrcc]
    · rw [hafter, hrcc]
    · obtain ⟨hp, hr⟩ := hkept (by rw [hrcc]; exact hslotted hsl)
      rw [hafter, hp, hr, hrcc]
      exact ⟨hslotted hsl, rfl, rfl, rfl⟩
  · obtain ⟨hsame, -, -, hbase, hstep, hdrives, hcut⟩ := ht.stroke dir hk (by rwa [hend.seq])
    have hsteam : t.steam = e.steam := (congrArg State.steam hsame :)
    have hroll : t.rcc = e.rcc := (congrArg State.rcc hsame :)
    have hpace : e.pacePeriod = t.pacePeriod := by
      rw [State.pacePeriod, State.pacePeriod, State.effectiveRate, State.effectiveRate, hbase, hsteam, hroll]
    refine ⟨hstep, ?_, ?_, ?_, fun j hj => ?_, fun hx => ?_⟩
    · rw [hsame]
      exact hend.conv
    · rw [hsame]
      exact htrack
    · rw [flagSet_of_link (s := e) (congrArg State.link hsame :)]
      exact hraised
    · rw [hdrives j (by rwa [hend.segs]), hend.fmu]
    · rw [← hpace]
      exact hcut hx
  · rw [ht.delivered hk (by rwa [hend.seq]), hend.conv]
  · rw [ht.stands (by rwa [hend.seq])]
    exact ⟨rfl, hend.conv, htrack⟩

/-! ## A fire at a feed end -/

/-- R124 to R126: a passing fire test fires in FLYING mode, and in a line that is HELD or IDLE. -/
theorem fireTests_fires {n : SpindleName} {a b : Roll} {s : State} (hn : s.rcc.spindle n = .active a)
    (hm : s.rcc.spindle n.other = .standby b) (hs : s.rcc.splice = .slotted) (hd : s.rcc.pressDue = none)
    (hr : s.fireReady = true) (hmode : s.rcc.settings.mode = .flying ∨ s.seq.line = .held ∨ s.seq.line = .idle) :
    ∃ hold link, s.fireTests = { s with
        rcc := s.rcc.firedTo n a b s.web s.geometry, seq := { s.seq with hold := hold }, link := link }
      ∧ (s.rcc.settings.mode = .stopped → hold.splice = true) := by
  have hfire {u : State} (hn : u.rcc.spindle n = .active a) (hm : u.rcc.spindle n.other = .standby b) :
      ∃ link, u.fire = { u with rcc := u.rcc.firedTo n a b u.web u.geometry, link := link } := by
    rw [fire_eq hn hm]
    dsimp only
    split
    · exact ⟨_, rfl⟩
    · exact ⟨_, rfl⟩
  cases hmd : s.rcc.settings.mode with
  | flying =>
    obtain ⟨link, heq⟩ := hfire hn hm
    rw [fireTests_flying hs hd hr hmd]
    exact ⟨s.seq.hold, link, heq, fun h => SpliceMode.noConfusion h⟩
  | stopped =>
    have hline : s.seq.line = .held ∨ s.seq.line = .idle := hmode.resolve_left (by rw [hmd]; decide)
    obtain ⟨-, hpass⟩ := (fireReady_iff s).mp hr
    obtain ⟨link, heq⟩ := hfire (u := s.pressMadeDue.setSeq fun q => { q with hold := { q.hold with splice := true } })
      (by cases n <;> exact hn) (by cases n <;> exact hm)
    have hpress := pressTest_fires (b := s.tailShort)
      (s := s.pressMadeDue.setSeq fun q => { q with hold := { q.hold with splice := true } }) rfl hs hline
      (hpass.elim .inl fun h => .inr (.inr h.2))
    rw [fireTests_stopped hs hd hr hmd, addHold_stands (by exact hline.elim (.inr ∘ .inr ∘ .inl) .inl), hpress, heq]
    refine ⟨{ s.seq.hold with splice := true }, link, ?_, fun _ => rfl⟩
    cases n <;> rfl

theorem firedTo_needsStandby {n : SpindleName} {r : RollChange} {a b : Roll} {web : Nat} {g : Geometry} :
    (r.firedTo n a b web g).needsStandby = decide (b.remaining ≤ r.settings.trigger) := by
  have hsettings : (r.firedTo n a b web g).settings = r.settings := by cases n <;> rfl
  rw [← hsettings]
  refine needsStandby_fired (n := n) (c := .expiring a) ?_ ⟨rfl, rfl⟩ ?_
  · cases n <;> rfl
  · cases n <;> rfl

theorem firedTo_activeOn (n : SpindleName) (r : RollChange) (a b : Roll) (web : Nat) (g : Geometry) :
    (r.firedTo n a b web g).ActiveOn n.other b := by
  refine ⟨?_, fun c hc => ?_⟩
  · cases n <;> rfl
  · cases n <;> exact Spindle.noConfusion hc

theorem endTests_of_not_armed {s : State} (h : s.rcc.splice ≠ .armed) (hneeds : s.rcc.standbyNeeded = s.rcc.needsStandby) :
    s.evalStandby.triggerTest.rcc = s.rcc := by
  obtain ⟨splice, timer, command, hrcc, hsame⟩ := endTests_rcc s
  obtain ⟨rfl, rfl, rfl⟩ := hsame.resolve_right fun k => h k.1
  rw [hrcc, ← hneeds]

/-- R125, R126: a feed end with a fire. -/
theorem feedEndRcc_fires {n : SpindleName} {a b : Roll} {s : State} (hact : s.rcc.ActiveOn n a)
    (hm : s.rcc.spindle n.other = .standby b) (hs : s.rcc.splice = .slotted) (hd : s.rcc.pressDue = none)
    (hr : s.crossed.fireReady = true)
    (hmode : s.rcc.settings.mode = .flying ∨ s.seq.line = .held ∨ s.seq.line = .idle) (hleft : 0 < b.remaining)
    (hpath : 0 < s.geometry.detectPath) :
    ∃ hold, s.feedEndRcc.rcc = s.debited.crossedRcc.firedTo n { a with remaining := a.remaining - s.webAdvance } b
          (s.web + s.webAdvance) s.geometry
      ∧ s.feedEndRcc.seq = { s.seq with hold := hold } ∧ s.feedEndRcc.conv = s.conv
      ∧ (s.rcc.settings.mode = .stopped → hold.splice = true) := by
  obtain ⟨link, hframe, -⟩ := crossed_frame s
  obtain ⟨hn', hm'⟩ := crossed_spindles hact
  obtain ⟨hold, link', hfired, hheld⟩ := fireTests_fires hn' (hm'.trans hm) (by rw [hframe]; exact hs)
    (by rw [hframe]; exact hd) hr (by rw [hframe]; exact hmode)
  rw [hframe] at hfired hheld
  refine ⟨hold, ?_⟩
  rw [feedEndRcc_eq, hframe, hfired]
  generalize hu : ({ s with web := _, rcc := _, track := _, seq := _, link := link' } : State) = u
  have hrcc : u.rcc = s.debited.crossedRcc.firedTo n { a with remaining := a.remaining - s.webAdvance } b
      (s.web + s.webAdvance) s.geometry := by rw [← hu]
  have hweb : u.web = s.web + s.webAdvance := by rw [← hu]
  have hdetect : u.detectTest = u := by
    refine detectTest_same fun _ hmd _ d hdp => ?_
    rw [hrcc] at hmd hdp
    have hflying : s.rcc.settings.mode = .flying := by cases n <;> exact hmd
    obtain rfl := Option.some.inj ((if_pos (by exact hflying)).symm.trans hdp)
    rw [hweb]
    exact Nat.lt_add_of_pos_right hpath
  have hactive : u.rcc.activeRoll = some b := by
    rw [hrcc]
    exact (firedTo_activeOn ..).activeRoll
  have hout : u.rollOutTest = u := rollOutTest_of_left hactive (Nat.ne_of_gt hleft)
  rw [hdetect, hout, (endTests_alone u).1.seq, (endTests_alone u).1.conv, endTests_of_not_armed]
  · refine ⟨hrcc, ?_, ?_, hheld⟩
    · rw [← hu]
    · rw [← hu]
  · rw [hrcc]
    exact fun h => SpliceState.noConfusion h
  · rw [hrcc, firedTo_needsStandby]
    rfl

/-- R125, R126: the roll change controller once the fire's step is taken up. -/
theorem firedTo_kept {n : SpindleName} {r q : RollChange} {a b : Roll} {web : Nat} {g : Geometry} {e : Bool} {p : Option Nat}
    {slot : Bool} (hq : q = { r.firedTo n a b web g with edgeSeen := e, firePoint := p, slotRequest := slot })
    (hp : p = none ∧ slot = false) :
    q.spindle n = .expiring a ∧ q.spindle n.other = .active b ∧ q.splice = .pressing ∧ q.tailTimer = true
      ∧ q.firePoint = none ∧ q.slotRequest = false ∧ q.pressDue = none ∧ q.seams = r.seams
      ∧ q.unconfirmed = some ⟨web + g.seamPath, a.id, b.id, false⟩
      ∧ q.standbyNeeded = decide (b.remaining ≤ r.settings.trigger)
      ∧ (r.settings.mode = .flying → q.pressCommand = some .pressAndKnife
        ∧ q.detectPoint = some (web + g.detectPath) ∧ q.confirmTimer = none)
      ∧ (r.settings.mode = .stopped → q.pressCommand = some .press
        ∧ q.detectPoint = none ∧ q.confirmTimer = some r.settings.confirm) := by
  obtain ⟨rfl, rfl⟩ := hp
  subst hq
  refine ⟨?_, ?_, rfl, rfl, rfl, rfl, rfl, ?_, rfl, rfl, fun hm => ⟨if_pos hm, if_pos hm, if_pos hm⟩, fun hm => ?_⟩
  · cases n <;> rfl
  · cases n <;> rfl
  · cases n <;> rfl
  have hno : r.settings.mode ≠ .flying := by rw [hm]; decide
  exact ⟨if_neg hno, if_neg hno, if_neg hno⟩

/-! ## The detect point at a feed end -/

theorem standbyRoll_debit (w : Nat) (r : RollChange) : (r.mapSpindles (Spindle.debit w)).standbyRoll = r.standbyRoll := by
  have hkeep (x : Spindle) : (x.debit w).standby? = x.standby? := by cases x <;> rfl
  rw [RollChange.standbyRoll, RollChange.standbyRoll]
  unfold RollChange.mapSpindles
  dsimp only
  rw [hkeep, hkeep]

/-- R128, R129: a feed end at which the detect point is reached. -/
theorem feedEndRcc_detects {n : SpindleName} {a : Roll} {s : State} {d : Nat} {u : Unconfirmed}
    (hact : s.rcc.ActiveOn n a) (hleft : s.webAdvance < a.remaining) (hs : s.rcc.splice = .pressing)
    (hmode : s.rcc.settings.mode = .flying) (htimer : s.rcc.confirmTimer = none) (hd : s.rcc.detectPoint = some d)
    (hreach : d ≤ s.web + s.webAdvance) (hu : s.rcc.unconfirmed = some u) :
    (s.rcc.edgeSeen = false → s.feedEndRcc.rcc.splice = .pressing
      ∧ s.feedEndRcc.rcc.confirmTimer = some s.rcc.settings.confirm
      ∧ s.feedEndRcc.rcc.seams = s.debited.crossedRcc.seams)
    ∧ (s.rcc.edgeSeen = true → s.feedEndRcc.flagSet .spliceDone = true ∧ s.feedEndRcc.rcc.unconfirmed = none
      ∧ s.feedEndRcc.rcc.confirmTimer = none ∧ s.feedEndRcc.rcc.detectPoint = none
      ∧ (s.rcc.standbyRoll = none → s.feedEndRcc.rcc.splice = .idle) ∧ s.feedEndRcc.rcc.splice ≠ .slotted
      ∧ s.feedEndRcc.rcc.seams = if u.crossed = true ∨ u.position ≤ s.web + s.webAdvance then s.debited.crossedRcc.seams
        else insertSeam ⟨u.position, u.oldId, u.newId, s.clock, .detector⟩ s.debited.crossedRcc.seams) := by
  have hall : ∀ b, s.rcc.activeRoll = some b → s.webAdvance < b.remaining := fun b hb => by
    obtain rfl := Option.some.inj (hact.activeRoll.symm.trans hb)
    exact hleft
  have hrcc := crossed_rcc s
  obtain ⟨link, hframe, -⟩ := crossed_frame s
  have hfire : s.crossed.fireTests = s.crossed := fireTests_of_not_slotted (by rw [hrcc]; exact hs.trans_ne (by decide))
  have hdetect : s.crossed.detectTest = if s.rcc.edgeSeen = true then s.crossed.confirmSplice .detector
      else s.crossed.setRcc fun r => { r with confirmTimer := some r.settings.confirm } := by
    have hpoint : s.crossed.rcc.detectPoint = some d := by rw [hrcc]; exact hd
    have hedge : s.crossed.rcc.edgeSeen = s.rcc.edgeSeen := by rw [hrcc]; rfl
    have htest : (decide (s.crossed.rcc.splice = .pressing) && decide (s.crossed.rcc.settings.mode = .flying) &&
        s.crossed.rcc.confirmTimer.isNone) = true := by
      rw [hrcc]
      simp only [Bool.and_eq_true, decide_eq_true_eq, Option.isNone_iff_eq_none]
      exact ⟨⟨hs, hmode⟩, htimer⟩
    refine (if_pos htest).trans ?_
    rw [hpoint]
    refine (if_pos ?_).trans (by rw [hedge])
    rw [hframe]
    exact hreach
  rw [feedEndRcc_quiet hfire hall, hdetect]
  refine ⟨fun he => ?_, fun he => ?_⟩
  · rw [he, if_neg (by decide)]
    obtain ⟨splice, timer, command, heq, hsame⟩ := endTests_rcc
      (s.crossed.setRcc fun r => { r with confirmTimer := some r.settings.confirm })
    obtain ⟨rfl, -, -⟩ := hsame.resolve_right fun k => by
      have hk := k.1
      rw [setRcc_rcc, hrcc] at hk
      exact absurd (hk.symm.trans hs) (by decide)
    rw [heq, setRcc_rcc, hrcc]
    exact ⟨hs, rfl, rfl⟩
  · rw [he, if_pos rfl]
    have hconfirm := confirmSplice_eq (how := .detector) (s := s.crossed)
      (u := { u with crossed := u.crossed || decide (u.position ≤ s.web + s.webAdvance) })
      (by rw [hrcc]; exact congrArg (Option.map _) hu)
    have hdone : (s.crossed.confirmSplice .detector).flagSet .spliceDone = true := by
      rw [hconfirm]
      exact (flagSet_raise ..).trans (by simp)
    have hconfirmed : (s.crossed.confirmSplice .detector).rcc = s.debited.crossedRcc.confirmed .detector
        { u with crossed := u.crossed || decide (u.position ≤ s.web + s.webAdvance) } s.clock := by
      rw [hconfirm, hframe]
      rfl
    have hstandby : s.debited.crossedRcc.standbyRoll = s.rcc.standbyRoll := standbyRoll_debit s.webAdvance s.rcc
    obtain ⟨splice, timer, command, heq, hsame⟩ := endTests_rcc (s.crossed.confirmSplice .detector)
    rw [hconfirmed] at heq hsame
    refine ⟨(endTests_alone _).2.flag _ hdone, ?_, ?_, ?_, fun hnone => ?_, ?_, ?_⟩
    · rw [heq]
      rfl
    · rw [heq]
      rfl
    · rw [heq]
      rfl
    · have hidle : (s.debited.crossedRcc.confirmed .detector
          { u with crossed := u.crossed || decide (u.position ≤ s.web + s.webAdvance) } s.clock).splice = .idle :=
        if_neg (by rw [hstandby, hnone]; decide)
      rw [heq]
      exact hsame.elim (fun k => k.1.trans hidle) fun k => absurd (hidle.symm.trans k.1) (by decide)
    · rw [heq]
      rcases hsame with ⟨h, -, -⟩ | ⟨-, h, -⟩
      · show splice ≠ .slotted
        rw [h]
        show (if s.debited.crossedRcc.standbyRoll.isSome = true then SpliceState.armed else SpliceState.idle) ≠ .slotted
        split
        · decide
        · decide
      · exact h.trans_ne (by decide)
    · rw [heq]
      refine Eq.trans (b := if (u.crossed || decide (u.position ≤ s.web + s.webAdvance)) = true then _ else _) rfl ?_
      simp only [Bool.or_eq_true, decide_eq_true_eq]

/-! ## A roll run out at a feed end -/

/-- R118: an ACTIVE record run out is SPENT. -/
def Spindle.runOut : Spindle → Spindle
  | .active r => .spent r
  | x => x

/-- R118: the roll change controller once the ACTIVE roll has run out, no press due. -/
def RollChange.afterRunOut (r : RollChange) : RollChange :=
  if r.splice = .preparing ∨ r.splice = .slotted then (r.mapSpindles Spindle.runOut).takeBack
  else r.mapSpindles Spindle.runOut

theorem ranOut_eq {s : State} (hd : s.rcc.pressDue = none) :
    ∃ link, s.ranOut = { s with rcc := s.rcc.afterRunOut, link := link } ∧ s.ranOut.flagSet .rollOut = true := by
  unfold State.ranOut RollChange.afterRunOut
  dsimp only
  rw [if_neg (by rw [hd]; decide)]
  by_cases h : s.rcc.splice = .preparing ∨ s.rcc.splice = .slotted
  · rw [if_pos h, if_pos h]
    exact ⟨_, rfl, (flagSet_raise ..).trans (by simp)⟩
  · rw [if_neg h, if_neg h]
    exact ⟨_, rfl, (flagSet_raise ..).trans (by simp)⟩

theorem afterRunOut_splice (r : RollChange) :
    r.afterRunOut.splice = (if r.splice = .preparing ∨ r.splice = .slotted then .armed else r.splice)
      ∧ (r.splice = .preparing ∨ r.splice = .slotted → r.afterRunOut.slotRequest = false
        ∧ r.afterRunOut.firePoint = none ∧ r.afterRunOut.matchTimer = false ∧ r.afterRunOut.spindleCommand = none)
      ∧ r.afterRunOut.splice ≠ .slotted ∧ (r.pressDue = none → r.afterRunOut.pressDue = none) := by
  unfold RollChange.afterRunOut
  by_cases h : r.splice = .preparing ∨ r.splice = .slotted
  · rw [if_pos h, if_pos h]
    exact ⟨rfl, fun _ => ⟨rfl, rfl, rfl, rfl⟩, fun hs => SpliceState.noConfusion hs, fun _ => rfl⟩
  · rw [if_neg h, if_neg h]
    exact ⟨rfl, fun hs => absurd hs h, fun hs => h (.inr hs), id⟩

/-- R118: the record run out is SPENT, and the other is not touched. -/
theorem afterRunOut_spindles {n : SpindleName} {a : Roll} {r : RollChange} (h : r.ActiveOn n a) :
    r.afterRunOut.spindle n = .spent a ∧ r.afterRunOut.spindle n.other = r.spindle n.other
      ∧ r.afterRunOut.activeRoll = none := by
  have hkeep (k : SpindleName) : r.afterRunOut.spindle k = (r.spindle k).runOut := by
    unfold RollChange.afterRunOut
    split
    · cases k <;> rfl
    · cases k <;> rfl
  have halone := h.alone
  have hother : (r.spindle n.other).runOut = r.spindle n.other := by
    cases hs : r.spindle n.other with
    | active b => exact absurd hs (halone b)
    | empty | standby | expiring | spent => rfl
  have hspent : r.afterRunOut.spindle n = .spent a := by rw [hkeep, h.here]; rfl
  refine ⟨hspent, (hkeep _).trans hother, ?_⟩
  rw [activeRoll_of_other (n := n) (by rw [hkeep, hother]; exact h.other_active?), hspent]
  rfl

/-- R118: a panel that is FORMING ends INTERRUPTED and its step is dropped; a gap step is kept. -/
theorem breakPanel_breaks {s : State} {x : StepRec} (hs : s.seq.step = some x)
    (hp : s.forming?.isSome = true ∨ x.kind = .gap) (hslot : s.rcc.splice ≠ .slotted) :
    s.breakPanel.conv = s.conv ∧ s.breakPanel.forming? = none
      ∧ s.breakPanel.track = s.trackEnded Reasons.addInterrupted
      ∧ (∃ e p r, s.breakPanel.rcc = { s.rcc with edgeSeen := e, firePoint := p, slotRequest := r }
        ∧ (s.rcc.firePoint = none → p = none ∧ r = s.rcc.slotRequest))
      ∧ s.breakPanel.seq.line = s.seq.line ∧ s.breakPanel.seq.hold = s.seq.hold
      ∧ s.breakPanel.seq.step = (if x.kind = .gap then some x else none) := by
  cases hf : s.forming? with
  | none =>
    have hk : x.kind = .gap := hp.resolve_left (by rw [hf]; decide)
    rw [breakPanel_of_none hf, if_pos hk]
    exact ⟨rfl, hf, (map_forming_of_none hf _).symm, State.GoesOn.same_rcc rfl, rfl, rfl, hs⟩
  | some y =>
    have hended := endForming_ended true Reasons.addInterrupted hf
    have hrcc := (State.GoesOn.endForming true (f := Reasons.addInterrupted) s).rcc hslot
    obtain ⟨gap, hgap⟩ := panelEnded_cases s.seq
    have hseq := hended.seq.trans hgap
    have hbreak : s.breakPanel = (s.endForming true Reasons.addInterrupted).dropPanelStep := if_pos (by rw [hf]; rfl)
    have hstep : (s.endForming true Reasons.addInterrupted).seq.step = some x := by rw [hseq]; exact hs
    rw [hbreak]
    by_cases hk : x.kind = .gap
    · have hkeep : (s.endForming true Reasons.addInterrupted).dropPanelStep = s.endForming true Reasons.addInterrupted := by
        unfold State.dropPanelStep
        rw [hstep]
        exact if_pos hk
      rw [hkeep, if_pos hk]
      refine ⟨hended.conv, hended.forming, hended.track, hrcc, ?_, ?_, hstep⟩
      · rw [hseq]
      · rw [hseq]
    · rw [dropPanelStep_eq hstep hk, if_neg hk]
      refine ⟨hended.conv, hended.forming, hended.track, hrcc, ?_, ?_, rfl⟩
      · show (s.endForming true Reasons.addInterrupted).seq.line = _
        rw [hseq]
      · show (s.endForming true Reasons.addInterrupted).seq.hold = _
        rw [hseq]

end Sys2Proof.Machine
end

section
/-! PROOFS. "Feed done" (O55). -/

namespace Sys2Proof.Machine

/-! ## A roll run out, and a press made due -/

theorem feedTaken_dropped {s : State} {ph : Phase} (hs : s.seq.step = none) (hm : ¬ s.seq.line.moving = true) :
    s.feedTaken ph = s := by
  unfold State.feedTaken
  rw [if_neg hm]
  split
  · unfold State.afterFeed
    rw [hs]
  · unfold State.setPhase State.setSeq
    have hmap : s.seq.step.map (fun x => { x with phase := .fed }) = s.seq.step := by
      rw [hs]
      rfl
    exact congrArg (fun st => { s with seq := { s.seq with step := st } }) hmap

/-- R56, R73: a hold requester that takes effect at once, no press due. -/
theorem addHoldAtOnce_held {f : HoldSet → HoldSet} {s : State} (hd : s.rcc.pressDue = none) (hl : s.seq.line ≠ .waiting) :
    (s.addHoldAtOnce f).rcc = s.rcc ∧ (s.addHoldAtOnce f).seq.hold = f s.seq.hold
      ∧ (s.addHoldAtOnce f).seq.step = s.seq.step
      ∧ (s.addHoldAtOnce f).seq.line = if s.seq.line.moving = true then .held else s.seq.line := by
  by_cases hm : s.seq.line.moving = true
  · rw [if_pos hm, addHoldAtOnce_stops (.inr ((moving_iff _).mp hm)), enterHeld_of_none
      (s := s.setSeq fun q => { q with hold := f q.hold }) hd]
    exact ⟨enter_rcc .held _, enter_hold .held _, enter_step .held _, enter_line .held _⟩
  · have hstands : s.seq.line = .idle ∨ s.seq.line = .held ∨ s.seq.line = .estop :=
      stands_of_not_stops fun h => h.elim hl fun h => hm ((moving_iff _).mpr h)
    rw [if_neg hm, addHoldAtOnce_stands hstands]
    exact ⟨rfl, rfl, rfl, rfl⟩

/-- R73, R118: what a feed end at which the roll runs out leaves. -/
structure State.RunOut (n : SpindleName) (a : Roll) (x : StepRec) (s t : State) : Prop where
  web : t.web = s.web + s.webAdvance
  conv : t.conv = s.conv
  here : t.rcc.spindle n = .spent { a with remaining := 0 }
  other : t.rcc.spindle n.other = s.rcc.spindle n.other
  splice : t.rcc.splice = (if s.rcc.splice = .preparing ∨ s.rcc.splice = .slotted then .armed else s.rcc.splice)
  taken : s.rcc.splice = .preparing ∨ s.rcc.splice = .slotted → t.rcc.slotRequest = false ∧ t.rcc.firePoint = none
    ∧ t.rcc.matchTimer = false ∧ t.rcc.spindleCommand = none
  flag : t.flagSet .rollOut = true
  hold : t.seq.hold = { s.seq.hold with rollOut := true }
  line : t.seq.line = if s.seq.line.moving = true then .held else s.seq.line
  forming : t.forming? = none
  track : t.track = (if s.crosses = true then s.seamMarked else s.track).map fun p =>
    if p.state = .forming then p.endedAt s.conv Reasons.addInterrupted else p

theorem feedEndRcc_runsOut {n : SpindleName} {a : Roll} {s : State} {x : StepRec} (hs : s.seq.step = some x)
    (hact : s.rcc.ActiveOn n a) (hfire : s.crossed.fireTests = s.crossed) (hout : a.remaining ≤ s.webAdvance)
    (hno : s.rcc.splice ≠ .pressing) (hd : s.rcc.pressDue = none) (hp : s.forming?.isSome = true ∨ x.kind = .gap)
    (hline : s.seq.line ≠ .waiting) : s.RunOut n a x s.feedEndRcc
      ∧ s.feedEndRcc.seq.step = (if x.kind = .gap then some x else none) := by
  have hrcc := crossed_rcc s
  obtain ⟨link, hframe, -⟩ := crossed_frame s
  have hdetect : s.crossed.detectTest = s.crossed := detectTest_same fun h => by
    rw [hrcc] at h
    exact absurd h hno
  have hact' := crossed_activeOn hact
  rw [Nat.sub_eq_zero_of_le hout] at hact'
  obtain ⟨-, hother⟩ := crossed_spindles hact
  have hd' : s.crossed.rcc.pressDue = none := by rw [hrcc]; exact hd
  have hsplice : s.crossed.rcc.splice = s.rcc.splice := by rw [hrcc]; rfl
  have hroll : s.crossed.rollOutTest = s.crossed.ranOut.breakPanel.addHoldAtOnce fun h => { h with rollOut := true } :=
    rollOutTest_out hact'.activeRoll rfl
  obtain ⟨link', hran, hflag⟩ := ranOut_eq hd'
  obtain ⟨hafter, htaken, hslot, hdue⟩ := afterRunOut_splice s.crossed.rcc
  obtain ⟨hspent, hsame, hnone⟩ := afterRunOut_spindles hact'
  have hforming : s.crossed.ranOut.forming?.isSome = s.forming?.isSome := by
    have htrack : s.crossed.ranOut.track = if s.crosses = true then s.seamMarked else s.track := by rw [hran, hframe]
    by_cases hc : s.crosses = true
    · exact seamMarked_forming? (htrack.trans (if_pos hc))
    · rw [forming?_of_track (htrack.trans (if_neg hc))]
  obtain ⟨hconv, hgone, htrack, ⟨e, p, r, hbroken, hpoint⟩, hvline, hvhold, hvstep⟩ :=
    breakPanel_breaks (s := s.crossed.ranOut) (x := x) (by rw [hran, hframe]; exact hs) (by rwa [hforming])
      (by rw [hran]; exact hslot)
  have hgrows : s.crossed.ranOut.Grows s.crossed.ranOut.breakPanel := (State.Settled.breakPanel _).grows
  have hline' : s.crossed.ranOut.seq.line = s.seq.line := by rw [hran, hframe]
  have hhold' : s.crossed.ranOut.seq.hold = s.seq.hold := by rw [hran, hframe]
  have hranRcc : s.crossed.ranOut.rcc = s.crossed.rcc.afterRunOut := by rw [hran]
  rw [hranRcc] at hbroken hpoint
  obtain ⟨hheld, hhold, hstep, hto⟩ := addHoldAtOnce_held (f := fun h => { h with rollOut := true })
    (s := s.crossed.ranOut.breakPanel) (by rw [hbroken]; exact hdue hd') (by rw [hvline, hline']; exact hline)
  have halone := State.lineAlone_addHoldAtOnce (fun h => { h with rollOut := true }) s.crossed.ranOut.breakPanel
  have hgrows' := State.Grows.addHoldAtOnce (fun h => { h with rollOut := true }) s.crossed.ranOut.breakPanel
  have heq : s.feedEndRcc = (s.crossed.ranOut.breakPanel.addHoldAtOnce fun h =>
      { h with rollOut := true }).evalStandby.triggerTest := by
    rw [feedEndRcc_eq, hfire, hdetect, hroll]
  have hweb := feedEndRcc_web s
  generalize s.crossed.ranOut.breakPanel.addHoldAtOnce (fun h => { h with rollOut := true }) = w at *
  obtain ⟨splice, timer, command, hend, hkept⟩ := endTests_rcc w
  obtain ⟨hendAlone, hendGrows⟩ := endTests_alone w
  rw [hheld, hbroken] at hend hkept
  have hidle :
      RollChange.triggered { s.crossed.rcc.afterRunOut with edgeSeen := e, firePoint := p, slotRequest := r } = false := by
    have hroll : RollChange.activeRoll { s.crossed.rcc.afterRunOut with edgeSeen := e, firePoint := p, slotRequest := r }
        = none := hnone
    rw [RollChange.triggered, hroll]
  obtain ⟨rfl, rfl, rfl⟩ := hkept.resolve_right fun k => absurd (hidle.symm.trans k.2.2) (by decide)
  rw [← heq] at hend hendAlone hendGrows
  have hrecords (k : SpindleName) : s.feedEndRcc.rcc.spindle k = s.crossed.rcc.afterRunOut.spindle k := by
    rw [hend]
    cases k <;> rfl
  refine ⟨⟨hweb, ?_, (hrecords n).trans hspent, (hrecords _).trans (hsame.trans hother), ?_, fun h => ?_, ?_, ?_, ?_, ?_, ?_⟩,
    ?_⟩
  · rw [hendAlone.conv, halone.conv, hconv, hran, hframe]
  · rw [hend, ← hsplice]
    exact hafter
  · rw [← hsplice] at h
    obtain ⟨hreq, hfp, htimer, hcommand⟩ := htaken h
    obtain ⟨rfl, rfl⟩ := hpoint hfp
    rw [hend]
    exact ⟨hreq, rfl, htimer, hcommand⟩
  · exact hendGrows.flag _ (hgrows'.flag _ (hgrows.flag _ hflag))
  · rw [hendAlone.seq, hhold, hvhold, hhold']
  · rw [hendAlone.seq, hto, hvline, hline']
  · exact hendAlone.forming?.trans (halone.forming?.trans hgone)
  · rw [hendAlone.track, halone.track, htrack, hran, hframe]
    rfl
  · rw [hendAlone.seq, hstep, hvstep]

/-- R56, R126: a press made due inside a step makes the line HOLDING. -/
theorem addHold_insideStep {f : HoldSet → HoldSet} {s : State} {x : StepRec} (hs : s.seq.step = some x)
    (hm : s.seq.line.moving = true) : ∃ was link, s.addHold f = { s with
      seq := { s.seq with holdingFrom := was, line := .holding, hold := f s.seq.hold }, link := link } := by
  have hmoves (was : Resume) (h : s.seq.line = .running ∧ was = .running ∨ s.seq.line = .draining ∧ was = .draining) :
      ∃ was link, s.addHold f = { s with
        seq := { s.seq with holdingFrom := was, line := .holding, hold := f s.seq.hold }, link := link } := by
    rw [addHold_moving (h.imp And.left And.left), enterHolding_eq (by exact h),
      stopAtBoundary_of_closed (.inl (by exact congrArg Option.isSome hs))]
    exact ⟨was, _, rfl⟩
  rcases (moving_iff _).mp hm with h | h | h
  · exact hmoves .running (.inl ⟨h, rfl⟩)
  · rw [addHold_stands (.inr (.inl h))]
    exact ⟨s.seq.holdingFrom, s.link, by rw [← h]; rfl⟩
  · exact hmoves .draining (.inr ⟨h, rfl⟩)

/-- R124, R126: a feed end at which a STOPPED-mode splice makes its press due. -/
theorem feedEndRcc_due {n : SpindleName} {a : Roll} {s : State} {x : StepRec} (hstep : s.seq.step = some x)
    (hact : s.rcc.ActiveOn n a) (hs : s.rcc.splice = .slotted) (hd : s.rcc.pressDue = none)
    (hr : s.crossed.fireReady = true) (hmode : s.rcc.settings.mode = .stopped) (hleft : s.webAdvance < a.remaining)
    (hm : s.seq.line.moving = true) :
    s.feedEndRcc.seq.line = .holding ∧ s.feedEndRcc.seq.hold = { s.seq.hold with splice := true }
      ∧ s.feedEndRcc.seq.step = some x ∧ s.feedEndRcc.rcc.splice = .slotted
      ∧ s.feedEndRcc.rcc.pressDue = some s.crossed.tailShort
      ∧ s.feedEndRcc.rcc.spindle n = .active { a with remaining := a.remaining - s.webAdvance }
      ∧ s.feedEndRcc.conv = s.conv := by
  have hrcc := crossed_rcc s
  obtain ⟨link, hframe, -⟩ := crossed_frame s
  have hact' := crossed_activeOn hact
  obtain ⟨was, link', hheld⟩ := addHold_insideStep (f := fun h => { h with splice := true }) (s := s.crossed.pressMadeDue)
    (x := x) (by exact (congrArg Seq.step (crossed_seq s)).trans hstep) (by rw [← crossed_seq s] at hm; exact hm)
  have hfire := fireTests_stopped (s := s.crossed) (by rw [hrcc]; exact hs) (by rw [hrcc]; exact hd) hr
    (by rw [hrcc]; exact hmode)
  rw [hheld, pressTest_of_line (s := { s.crossed.pressMadeDue with seq := _, link := _ })
    (fun h => LineState.noConfusion h) fun h => LineState.noConfusion h] at hfire
  rw [feedEndRcc_eq, hfire]
  generalize hu : ({ s.crossed.pressMadeDue with seq := _, link := link' } : State) = u
  have hslotted : u.rcc.splice = .slotted := by
    rw [← hu]
    show s.crossed.rcc.splice = _
    rw [hrcc]
    exact hs
  have hdetect : u.detectTest = u := detectTest_same fun h => absurd (hslotted.symm.trans h) (by decide)
  have hactive : u.rcc.activeRoll = some { a with remaining := a.remaining - s.webAdvance } := by
    rw [← hu]
    exact hact'.activeRoll
  have hout : u.rollOutTest = u := rollOutTest_of_left hactive (Nat.sub_ne_zero_of_lt hleft)
  obtain ⟨splice, timer, command, heq, hsame⟩ := endTests_rcc u
  obtain ⟨rfl, rfl, rfl⟩ := hsame.resolve_right fun k => absurd (hslotted.symm.trans k.1) (by decide)
  rw [hdetect, hout, (endTests_alone u).1.seq, (endTests_alone u).1.conv, heq]
  refine ⟨?_, ?_, ?_, hslotted, ?_, ?_, ?_⟩
  all_goals rw [← hu]
  · exact congrArg (fun q : Seq => { q.hold with splice := true }) (crossed_seq s)
  · exact (congrArg Seq.step (crossed_seq s)).trans hstep
  · rfl
  · cases n <;> exact hact'.here
  · show s.crossed.conv = _
    rw [hframe]

/-! ## The obligation -/

/-- R124: a splice whose fire tests do nothing at the feed end. -/
theorem crossed_fireTests_same {s : State} (h : s.rcc.splice ≠ .slotted ∨ s.rcc.pressDue = none ∧ s.crossed.fireReady = false) :
    s.crossed.fireTests = s.crossed := by
  have hrcc := crossed_rcc s
  rcases h with h | ⟨hd, hr⟩
  · exact fireTests_of_not_slotted (by rw [hrcc]; exact h)
  · exact fireTests_of_not_ready (by rw [hrcc]; exact hd) hr

/-- R111: the web advance of a feed end. -/
theorem webAdvance_eq (s : State) : s.webAdvance = [0, 1, 2, 3, 4, 5].foldl (fun (w : Nat) (j : Fin 6) =>
    if (s.fmu.get j).inStep = true ∧ w < (s.fmu.get j).completed then (s.fmu.get j).completed else w) 0 := by
  have hmax (w : Nat) (f : FeedSeg) : (if f.inStep then max w f.completed else w) =
      if f.inStep = true ∧ w < f.completed then f.completed else w := by
    cases f.inStep with
    | false => rfl
    | true =>
      simp only [if_true, true_and]
      split <;> omega
  have hlist : s.fmu.toList = segIndices.map s.fmu.get := rfl
  rw [State.webAdvance, hlist, List.foldl_map]
  simp only [hmax]
  rfl

theorem fedTo_none_out {i : Fin 6} {len : Nat} {left : List Nat} {n : Nat} {s : State}
    (hout : ∀ j, j ≠ i → (s.segs.get j).drive.isFeed = false) :
    ¬ ∃ j, ((s.fedTo i len left n .none).segs.get j).drive.isFeed = true := by
  rintro ⟨j, hj⟩
  by_cases hji : j = i
  · subst hji
    rw [fedTo_get_same] at hj
    exact Bool.noConfusion hj
  · rw [fedTo_get_of_ne _ _ _ _ _ hji, hout j hji] at hj
    exact Bool.noConfusion hj

/-- R64, R74: the last drive step of a feed phase done. -/
theorem exec_feedDone_ends {i : Fin 6} {len : Nat} {s t : State} {x : StepRec} (hd : (s.segs.get i).drive = .feed len)
    (he : (s.segs.get i).engaged = true) (hs : s.seq.step = some x)
    (hx : x.phase = .feed ∧ (s.fmu.get i).left = [] ∨ x.phase = .feedCut)
    (hout : ∀ j, j ≠ i → (s.segs.get j).drive.isFeed = false)
    (ht : (s.fedTo i len (s.fmu.get i).left (s.fmu.get i).commanded .none).feedEndRcc.feedTaken x.phase = t) :
    exec (.feedDone i) s = .next (State.served t) := by
  have hphase : s.phase? = some x.phase := congrArg (Option.map StepRec.phase) hs
  refine exec_feedDone hd he ?_
  rw [feedStepDone_last (hx.imp (fun h => ⟨hphase.trans (congrArg some h.1), h.2⟩) fun h => hphase.trans (congrArg some h))]
  exact (feedEndTest_ends (s := s.fedTo i len _ _ .none) hs (hx.imp_left And.left) (fedTo_none_out hout)).trans ht

/-- R73, R74, R118: in a line that stands a gap step is left fed, any other was dropped. -/
theorem feedTaken_standsOut {s : State} {x : StepRec} (hs : s.seq.step = if x.kind = .gap then some x else none)
    (hm : ¬ s.seq.line.moving = true) : ∃ st, s.feedTaken x.phase = { s with seq := { s.seq with step := st } }
      ∧ (x.kind = .gap → st = some ⟨.gap, x.advance, .fed⟩) ∧ (x.kind ≠ .gap → st = none) := by
  by_cases hk : x.kind = .gap
  · rw [if_pos hk] at hs
    refine ⟨_, feedTaken_stands hs hm, fun _ => ?_, fun h => absurd hk h⟩
    rw [hk]
  · rw [if_neg hk] at hs
    exact ⟨none, (feedTaken_dropped hs hm).trans (by rw [← hs]), fun h => absurd h hk, fun _ => rfl⟩

/-- Settles O55. -/
theorem feedDoneEndsPhase : Obligations.FeedDoneEndsPhase := by
  unfold Obligations.FeedDoneEndsPhase
  intro i s g f r run after phase moving forming
  have hmoving : moving ↔ s.seq.line.moving = true := (moving_iff _).symm
  refine ⟨fun h => ?_, fun len next rest hd he hp hl => ?_, fun len j hd he hp hji hj => ?_,
    fun len x a n m hd he hs hx hout hmn hn hm => ?_⟩
  · refine finish_of_eq ?_
    unfold State.feedIsDone
    dsimp only
    split
    · next len hdrive heng =>
      rcases h with h | h
      · rw [hdrive] at h
        exact Bool.noConfusion h
      · exact Bool.noConfusion (h.symm.trans heng)
    · rfl
  · refine exec_feedDone hd he ?_
    rw [feedStepDone_more hp hl]
    exact feedEndTest_waits ⟨i, by rw [fedTo_get_same]; rfl⟩
  · refine exec_feedDone hd he ?_
    rw [feedStepDone_last hp]
    exact feedEndTest_waits ⟨j, by rw [fedTo_get_of_ne _ _ _ _ _ hji]; exact hj⟩
  · intro w
    have hw : (after len f.left f.commanded .none).webAdvance = w := webAdvance_eq _
    clear_value w
    subst hw
    intro c debited crosses kept marked mark short reached passes quiet noStart
    obtain rfl := eq_other_of_ne hmn
    have hact : (after len f.left f.commanded .none).rcc.ActiveOn n a := ⟨hn, hm⟩
    have hstep : (after len f.left f.commanded .none).seq.step = some x := hs
    have hrun {t : State} (ht : (after len f.left f.commanded .none).feedEndRcc.feedTaken x.phase = t) :
        run = .next (State.served t) :=
      exec_feedDone_ends hd he hs (hx.imp (fun h => ⟨h.1, h.2.1⟩) And.left) hout ht
    have hdepth := fun j => fedTo_depth i j len f.left f.commanded .none s
    have hshort : (after len f.left f.commanded .none).crossed.tailShort = true ↔ short := crossed_tailShort hact
    have hpasses : r.splice = .slotted → r.pressDue = none →
        ((after len f.left f.commanded .none).crossed.fireReady = true ↔ passes) := fun hsl hpd => by
      rw [crossed_fireReady, hshort]
      exact ⟨fun h => ⟨hsl, hpd, h⟩, fun h => h.2.2⟩
    have hfire (hq : quiet) : (after len f.left f.commanded .none).crossed.fireTests =
        (after len f.left f.commanded .none).crossed := by
      refine crossed_fireTests_same ?_
      by_cases hsl : r.splice = .slotted
      · obtain ⟨hpd, hno⟩ := hq.resolve_left fun h => h hsl
        exact .inr ⟨hpd, Bool.not_eq_true _ ▸ mt (hpasses hsl hpd).mp hno⟩
      · exact .inl hsl
    refine ⟨fun hleft hq hdet => ?_, fun b hp hmode hb hleft hpath => ?_, fun dir hp hmode hleft hk hmv => ?_,
      fun d u hleft hsp hmode htimer hdp hreach hu => ?_, fun hle hq hno hpd hpk => ?_⟩
    · have hend := feedEndRcc_quietEnd hact (hfire hq) hleft
      have htaken := feedTaken_taken (x := x) ((congrArg Seq.step hend.seq).trans hstep)
      obtain ⟨hweb, hrest, hstroke, hplain, hstands⟩ := feedEnd_quiet hact (hfire hq) hleft hdet rfl htaken
      refine ⟨_, hrun rfl, hweb, fun hno => ?_, fun dir hk hmv => ?_, fun hk hmv => hplain hk (hmoving.mp hmv),
        fun hmv => hstands (mt hmoving.mpr hmv)⟩
      · obtain ⟨hhere, hother, hseams, hunc, hslot⟩ := hrest (hno.imp_right (Or.imp_right (mt hmoving.mpr)))
        refine ⟨hhere, hother, hseams, hunc, fun hsl => ?_⟩
        obtain ⟨hsplice, hdue, hpoint, hreq⟩ := hslot hsl
        exact ⟨hsplice, hdue.trans (hq.resolve_left fun h => h hsl).1, hpoint, hreq⟩
      · obtain ⟨hst, hconv, htrack, hflag, hdrives, hcut⟩ := hstroke dir hk (hmoving.mp hmv)
        refine ⟨hst, hconv, htrack, hflag, fun j hj => ?_, fun h => hcut (h.trans_ne (by decide))⟩
        obtain ⟨hdep, heng⟩ := hdepth j
        rw [hdrives j (heng.trans hj)]
        exact congrArg (Drive.stroke · dir) hdep
    · obtain ⟨hsl, hpd, hready⟩ := hp
      obtain ⟨hold, hrcc, hseq, hconv, hheld⟩ := feedEndRcc_fires hact hb hsl hpd ((hpasses hsl hpd).mpr ⟨hsl, hpd, hready⟩)
        hmode hleft hpath
      have hline := (congrArg Seq.line hseq :)
      have htaken := feedTaken_taken (x := x) ((congrArg Seq.step hseq).trans hstep)
      obtain ⟨edge, p, req, hafter, hkept⟩ := htaken.rcc (by rw [hrcc]; exact fun h => SpliceState.noConfusion h)
      rw [hrcc] at hafter hkept
      obtain ⟨hhere, hother, hsplice, htail, hpoint, hreq, hdue, hseams, hunc, hneeded, hflying, hstopped⟩ :=
        firedTo_kept hafter (hkept rfl)
      refine ⟨_, hrun rfl, htaken.web.trans (feedEndRcc_web _), hhere, hother, hsplice, htail, hpoint, hreq, hdue, hseams,
        hunc, hneeded, hflying, fun hm => ?_, fun hk hmv => ?_, fun dir hk hmv => ?_, fun hmv => ?_⟩
      · have hstands : ¬ s.seq.line.moving = true := by
          rcases hmode.resolve_left (by rw [hm]; decide) with h | h
          · rw [h]; decide
          · rw [h]; decide
        obtain ⟨hpress, hdetect, htimer⟩ := hstopped hm
        refine ⟨hpress, ?_, hdetect, htimer⟩
        rw [htaken.stands (by rwa [hline]), hseq]
        exact hheld hm
      · rw [htaken.delivered hk (by rw [hline]; exact hmoving.mp hmv), hconv]
      · obtain ⟨-, -, -, -, hst, -⟩ := htaken.stroke dir hk (by rw [hline]; exact hmoving.mp hmv)
        exact hst
      · rw [htaken.stands (by rw [hline]; exact mt hmoving.mpr hmv)]
    · obtain ⟨hsl, hpd, hready⟩ := hp
      obtain ⟨hline, hhold, hst, hsplice, hdue, hhere, hconv⟩ := feedEndRcc_due hstep hact hsl hpd
        ((hpasses hsl hpd).mpr ⟨hsl, hpd, hready⟩) hmode hleft (hmoving.mp hmv)
      have htaken := feedTaken_taken hst
      obtain ⟨hsame, hline', hhold', -, hst', -⟩ := htaken.stroke dir hk (by rw [hline]; rfl)
      have hrcc := (congrArg State.rcc hsame :)
      refine ⟨_, _, hrun rfl, htaken.web.trans (feedEndRcc_web _), hline'.trans hline, hhold'.trans hhold, ?_, ?_, hshort,
        ?_, hst', (congrArg State.conv hsame :).trans hconv⟩
      · rw [hrcc]
        exact hsplice
      · rw [hrcc]
        exact hdue
      · rw [hrcc]
        exact hhere
    · obtain ⟨hmiss, hdone⟩ := feedEndRcc_detects hact hleft hsp hmode htimer hdp hreach hu
      have hend := feedEndRcc_quietEnd hact (hfire (.inl (hsp.trans_ne (by decide)))) hleft
      have htaken := feedTaken_taken (x := x) ((congrArg Seq.step hend.seq).trans hstep)
      refine ⟨_, hrun rfl, htaken.web.trans hend.web, fun he => ?_, fun he => ?_⟩
      · obtain ⟨hsplice, htimer, hseams⟩ := hmiss he
        obtain ⟨edge, p, req, hafter, -⟩ := htaken.rcc (hsplice.trans_ne (by decide))
        rw [hafter]
        exact ⟨hsplice, htimer, hseams⟩
      · obtain ⟨hflag, hunc, htimer, hpoint, hidle, hslot, hseams⟩ := hdone he
        obtain ⟨edge, p, req, hafter, -⟩ := htaken.rcc hslot
        refine ⟨htaken.grows.flag _ hflag, ?_⟩
        rw [hafter]
        exact ⟨hunc, htimer, hpoint, hidle, hseams⟩
    · have hnot : s.seq.line ≠ .waiting := hx.elim (fun h hl => by
        have hm := hmoving.mp h.2.2
        rw [hl] at hm
        exact Bool.noConfusion hm) And.right
      obtain ⟨hend, hst⟩ := feedEndRcc_runsOut hstep hact (hfire hq) hle hno hpd hpk hnot
      have hstands : ¬ (after len f.left f.commanded .none).feedEndRcc.seq.line.moving = true := by
        rw [hend.line]
        split
        · decide
        · assumption
      obtain ⟨st, htaken, hgap, hdropped⟩ := feedTaken_standsOut hst hstands
      refine ⟨_, hrun htaken, hend.web, hend.conv, hend.here, hend.other, hend.splice, hend.taken, hend.flag, hend.hold,
        hend.line, hgap, hdropped, hend.forming, hend.track⟩

end Sys2Proof.Machine
end

section
/-! PROOFS. The emergency stop (O59): the feed end it makes, the panel it ends, and what every block drops. -/

namespace Sys2Proof.Machine

/-! ## The segments at an emergency stop -/

/-- R94: a segment after an emergency stop. -/
def Segment.stopped (g : Segment) : Segment := { g with
  drive := .none, active := { g.active with engage := false }, retryNow := 0, state := .parked
  status := if g.status = .pending ∨ g.status = .inProgress then .none else g.status
  waiting := if g.status = .pending ∨ g.status = .inProgress then none else g.waiting }

theorem estopSeg_segs (s : State) (i : Fin 6) : (s.estopSeg i).segs = s.segs.set i (s.segs.get i).stopped := by
  unfold State.estopSeg Segment.stopped
  dsimp only
  rw [setSegState_segs]
  by_cases h : (s.segs.get i).status = .pending ∨ (s.segs.get i).status = .inProgress
  · rw [if_pos h, if_pos h, if_pos ((busy_iff _).mpr h), setStatus_segs]
    simp only [State.setSeg, Six.get_set_same, Six.set_set]
    rfl
  · rw [if_neg h, if_neg h, if_neg (mt (busy_iff _).mp h)]
    simp only [State.setSeg, Six.get_set_same, Six.set_set]

theorem estopSeg_grows (s : State) (i : Fin 6) : s.Grows (s.estopSeg i) :=
  ((State.Grows.setSeg i _ s).trans (.ite (.setStatus i _ _) (.refl _))).trans (.setSegState i _ _)

theorem segsAlone_estopSeg (s : State) (i : Fin 6) : s.SegsAlone (s.estopSeg i) :=
  ((State.segsAlone_setSeg i _ s).trans (.ite (State.segsAlone_setStatus i _ _) (.refl _))).trans
    (State.segsAlone_setSegState i _ _)

/-- R94: the flags of a segment at an emergency stop. -/
theorem estopSeg_flags (s : State) (i : Fin 6) :
    ((s.segs.get i).status.busy = true → (s.estopSeg i).flagSet (.applyDone i) = true)
      ∧ ((s.segs.get i).state ≠ .parked → (s.estopSeg i).flagSet (.segState i) = true) := by
  refine ⟨fun h => ?_, fun h => ?_⟩
  · refine (State.Grows.setSegState i _ _).flag _ ?_
    rw [if_pos h, setStatus_setSeg_busy (by exact h) rfl]
    exact (flagSet_raise ..).trans (by simp)
  · unfold State.estopSeg
    dsimp only
    rw [setSegState_of_ne]
    · exact (flagSet_raise ..).trans (by simp)
    · split
      · rw [setStatus_segs, Six.get_set_same, setSeg_get_same]
        exact h
      · rwa [setSeg_get_same]

/-- A flag that one member of a family of operations raises stands after all of them. -/
theorem foldl_marks {op : State → Fin 6 → State} {p : Segment → Prop} {g : Flag} {i : Fin 6}
    (hgrows : ∀ (s : State) j, s.Grows (op s j)) (hkeep : ∀ (s : State) j, j ≠ i → (op s j).segs.get i = s.segs.get i)
    (hmark : ∀ s : State, p (s.segs.get i) → (op s i).flagSet g = true) {l : List (Fin 6)} (hi : i ∈ l) {s : State}
    (hp : p (s.segs.get i)) : (l.foldl op s).flagSet g = true := by
  induction l generalizing s with
  | nil => exact absurd hi List.not_mem_nil
  | cons j l ih =>
    rw [List.foldl_cons]
    by_cases hj : j = i
    · subst hj
      exact (State.Grows.foldl hgrows l _).flag _ (hmark s hp)
    · exact ih ((List.mem_cons.mp hi).resolve_left fun h => hj h.symm) (by rwa [hkeep s j hj])

/-! ## The step and the splice at an emergency stop -/

/-- R75, R76: the step's end. -/
theorem estopStep_frame (s : State) : ∃ kept, s.estopStep = { s with seq := { s.seq with step := none, kept := kept } }
    ∧ ∀ x, s.seq.step = some x → x.kind = .gap → kept = some x.advance := by
  cases hs : s.seq.step with
  | none =>
    have hsame : s.estopStep = s := by rw [State.estopStep, hs]
    exact ⟨s.seq.kept, by rw [hsame, ← hs], fun x h => absurd h (by simp)⟩
  | some x =>
    refine ⟨if x.kind = .gap then some x.advance else s.seq.kept, by rw [State.estopStep, hs]; rfl, fun y hy hk => ?_⟩
    obtain rfl := Option.some.inj hy
    exact if_pos hk

/-- R134: the splice after an emergency stop. -/
def SpliceState.atEstop : SpliceState → SpliceState
  | .preparing | .slotted => .armed
  | .pressing => .missed .estop
  | x => x

/-- R134: a splice taken back, or missed, asks for nothing. -/
structure RollChange.Cleared (r : RollChange) : Prop where
  matchTimer : r.matchTimer = false
  spindleCommand : r.spindleCommand = none
  slotRequest : r.slotRequest = false
  firePoint : r.firePoint = none
  pressDue : r.pressDue = none

/-- R134: what an emergency stop does with the splice and with SPLICE in the hold requester set. -/
structure State.SpliceStopped (s t : State) : Prop where
  frame : ∃ rcc splice link, t = { s with
    rcc := rcc, seq := { s.seq with hold := { s.seq.hold with splice := splice } }, link := link }
  grows : s.Grows t
  splice : t.rcc.splice = s.rcc.splice.atEstop
  cleared : s.rcc.splice = .preparing ∨ s.rcc.splice = .slotted ∨ s.rcc.splice = .pressing → t.rcc.Cleared
  taken : s.rcc.splice = .preparing ∨ s.rcc.splice = .slotted →
    t.seq.hold.splice = (s.seq.hold.splice && s.rcc.pressDue.isNone)
  missed : s.rcc.splice = .pressing → t.seq.hold.splice = true ∧ t.rcc.confirmTimer = none ∧ t.rcc.detectPoint = none
    ∧ t.flagSet .spliceMissed = true
  armed : s.rcc.splice = .armed → t = s

theorem estopSplice_taken {s : State} (h : s.rcc.splice = .preparing ∨ s.rcc.splice = .slotted) :
    s.SpliceStopped s.estopSplice := by
  have heq : s.estopSplice = { s with
      rcc := s.rcc.takeBack
      seq := { s.seq with hold := { s.seq.hold with splice := s.seq.hold.splice && !s.rcc.pressDue.isSome } } } := by
    unfold State.estopSplice
    rcases h with h | h
    · rw [h]
      rfl
    · rw [h]
      rfl
  have hat : s.rcc.splice.atEstop = .armed := by
    rcases h with h | h
    · rw [h]
      rfl
    · rw [h]
      rfl
  rw [heq]
  refine ⟨⟨_, _, _, rfl⟩, .of_link rfl, hat.symm, fun _ => ⟨rfl, rfl, rfl, rfl, rfl⟩, fun _ => ?_, fun hp => ?_,
    fun ha => ?_⟩
  · rw [← Option.not_isSome]
  · rw [hp] at h
    exact absurd h (by decide)
  · rw [ha] at h
    exact absurd h (by decide)

theorem estopSplice_missed {s : State} (hl : s.seq.line = .estop) (h : s.rcc.splice = .pressing) :
    s.SpliceStopped s.estopSplice := by
  have heq : s.estopSplice = (s.missSplice .estop).setSeq fun q => { q with hold := { q.hold with splice := true } } := by
    unfold State.estopSplice
    rw [h]
    exact enterMissed_stands .estop (.inr (.inr (.inr hl)))
  have hmarked : s.estopSplice.flagSet .spliceMissed = true := by
    rw [heq]
    exact (flagSet_raise ..).trans (by simp)
  have hgrows : s.Grows s.estopSplice := by
    rw [heq]
    exact ((State.Grows.setRcc _ s).trans (.raise .spliceMissed _)).trans (.setSeq _ _)
  have hat : s.rcc.splice.atEstop = .missed .estop := by
    rw [h]
    rfl
  have hsplice : s.estopSplice.seq.hold.splice = true ∧ s.estopSplice.rcc.confirmTimer = none
      ∧ s.estopSplice.rcc.detectPoint = none := by
    rw [heq]
    exact ⟨rfl, rfl, rfl⟩
  obtain ⟨hheld, htimer, hpoint⟩ := hsplice
  refine ⟨⟨_, _, _, heq⟩, hgrows, ?_, fun _ => ?_, fun hp => ?_, fun _ => ⟨hheld, htimer, hpoint, hmarked⟩, fun ha => ?_⟩
  · rw [hat, heq]
    rfl
  · rw [heq]
    exact ⟨rfl, rfl, rfl, rfl, rfl⟩
  · rw [h] at hp
    exact absurd hp (by decide)
  · rw [h] at ha
    exact absurd ha (by decide)

/-- R134: the splice at an emergency stop. -/
theorem estopSplice_stopped {s : State} (hl : s.seq.line = .estop) : s.SpliceStopped s.estopSplice := by
  have hrest (heq : s.estopSplice = s) (hat : s.rcc.splice.atEstop = s.rcc.splice) (hp : s.rcc.splice ≠ .preparing)
      (hs : s.rcc.splice ≠ .slotted) (hpr : s.rcc.splice ≠ .pressing) : s.SpliceStopped s.estopSplice := by
    rw [heq]
    exact ⟨⟨s.rcc, s.seq.hold.splice, s.link, rfl⟩, .refl s, hat.symm, fun h => absurd h (by simp [hp, hs, hpr]),
      fun h => absurd h (by simp [hp, hs]), fun h => absurd h hpr, fun _ => rfl⟩
  cases hs : s.rcc.splice with
  | preparing => exact estopSplice_taken (.inl hs)
  | slotted => exact estopSplice_taken (.inr hs)
  | pressing => exact estopSplice_missed hl hs
  | idle | armed | missed c =>
    refine hrest (by rw [State.estopSplice, hs]) (by rw [hs]; rfl) ?_ ?_ ?_
    all_goals rw [hs]; exact fun h => SpliceState.noConfusion h

/-! ## The feed end of an emergency stop -/

/-- R76, R117: what the feed end leaves before a panel ends: the records with their numbers, states and tails, and the
splice, taken back already where the roll ran out. -/
structure State.FeedMade (s u : State) : Prop where
  conv : u.conv = s.conv
  orders : u.orders = s.orders
  segs : u.segs = s.segs
  fmu : u.fmu = s.fmu
  steam : u.steam = s.steam
  verify : u.verify = s.verify
  outlets : u.outlets = s.outlets
  estopInput : u.estopInput = s.estopInput
  seq : u.seq = { s.seq with hold := { s.seq.hold with splice := u.seq.hold.splice } }
  track : ∃ f : Panel → Panel, (∀ p, (f p).number = p.number) ∧ (∀ p, (f p).state = p.state)
    ∧ (∀ p, (f p).tail = p.tail) ∧ u.track = s.track.map f
  grows : s.Grows u
  splice : u.rcc.splice = s.rcc.splice ∧ (s.rcc.splice = .preparing ∨ s.rcc.splice = .slotted →
      u.rcc.pressDue = s.rcc.pressDue ∧ u.seq.hold.splice = s.seq.hold.splice)
    ∨ (s.rcc.splice = .preparing ∨ s.rcc.splice = .slotted) ∧ u.rcc.splice = .armed ∧ u.rcc.Cleared
      ∧ u.seq.hold.splice = (s.seq.hold.splice && s.rcc.pressDue.isNone)

theorem State.FeedMade.refl (s : State) : s.FeedMade s :=
  ⟨rfl, rfl, rfl, rfl, rfl, rfl, rfl, rfl, rfl, ⟨id, fun _ => rfl, fun _ => rfl, fun _ => rfl, (List.map_id _).symm⟩,
    .refl s, .inl ⟨rfl, fun _ => ⟨rfl, rfl⟩⟩⟩

/-- R132, R133: the crossings change the reasons alone. -/
theorem crossed_track (s : State) : ∃ f : Panel → Panel, (∀ p, (f p).number = p.number) ∧ (∀ p, (f p).state = p.state)
    ∧ (∀ p, (f p).tail = p.tail) ∧ s.crossed.track = s.track.map f := by
  obtain ⟨link, hframe, -⟩ := crossed_frame s
  rw [hframe]
  by_cases h : s.crosses = true
  · refine ⟨fun p => if p.state = .forming then { p with reasons := { p.reasons with seamed := true } } else p,
      fun p => ?_, fun p => ?_, fun p => ?_, if_pos h⟩
    · rw [apply_ite Panel.number, ite_self]
    · rw [apply_ite Panel.state, ite_self]
    · rw [apply_ite Panel.tail, ite_self]
  · exact ⟨id, fun _ => rfl, fun _ => rfl, fun _ => rfl, (if_neg h).trans (List.map_id _).symm⟩

theorem crossed_feedMade (s : State) : s.FeedMade s.crossed := by
  have htrack := crossed_track s
  obtain ⟨link, hframe, hgrows, -⟩ := crossed_frame s
  refine ⟨?_, ?_, ?_, ?_, ?_, ?_, ?_, ?_, ?_, htrack, hgrows, .inl ⟨?_, fun _ => ⟨?_, ?_⟩⟩⟩
  all_goals rw [hframe]
  · rfl
  · rfl

/-- R118: what a roll run out touches, a press due or not. -/
theorem ranOut_frame (s : State) : ∃ link, s.ranOut = { s with
      rcc := s.rcc.afterRunOut
      seq := { s.seq with hold := { s.seq.hold with splice := s.seq.hold.splice && s.rcc.pressDue.isNone } }
      link := link } := by
  have hback : ∃ link, (if s.rcc.splice = .preparing ∨ s.rcc.splice = .slotted then
      (State.raise .rollOut (s.setRcc (RollChange.mapSpindles Spindle.runOut))).setRcc RollChange.takeBack
      else State.raise .rollOut (s.setRcc (RollChange.mapSpindles Spindle.runOut))) =
      { s with rcc := s.rcc.afterRunOut, link := link } := by
    unfold RollChange.afterRunOut
    by_cases h : s.rcc.splice = .preparing ∨ s.rcc.splice = .slotted
    · rw [if_pos h, if_pos h]
      exact ⟨_, rfl⟩
    · rw [if_neg h, if_neg h]
      exact ⟨_, rfl⟩
  obtain ⟨link, hback⟩ := hback
  have hran : s.ranOut = if s.rcc.pressDue.isSome = true then
      State.setSeq (fun q => { q with hold := { q.hold with splice := false } })
        { s with rcc := s.rcc.afterRunOut, link := link }
      else { s with rcc := s.rcc.afterRunOut, link := link } := by
    rw [← hback]
    rfl
  rw [hran]
  cases s.rcc.pressDue with
  | none => exact ⟨link, by rw [Option.isNone_none, Bool.and_true]; rfl⟩
  | some b => exact ⟨link, by rw [Option.isNone_some, Bool.and_false]; rfl⟩

theorem ranOut_feedMade (s : State) : s.FeedMade s.crossed.ranOut := by
  obtain ⟨f, hnumber, hstate, htail, htrack⟩ := crossed_track s
  have hgrows := (crossed_feedMade s).grows.trans (State.Settled.ranOut s.crossed).grows
  obtain ⟨link, hframe, -⟩ := crossed_frame s
  obtain ⟨link', hran⟩ := ranOut_frame s.crossed
  obtain ⟨hsplice, htaken, -, -⟩ := afterRunOut_splice s.crossed.rcc
  have hbefore : s.crossed.rcc.splice = s.rcc.splice ∧ s.crossed.rcc.pressDue = s.rcc.pressDue := by
    rw [hframe]
    exact ⟨rfl, rfl⟩
  obtain ⟨hs, hd⟩ := hbefore
  rw [hs] at hsplice htaken
  have hseq : s.crossed.ranOut.seq = { s.seq with
      hold := { s.seq.hold with splice := s.seq.hold.splice && s.rcc.pressDue.isNone } } := by
    rw [hran, hd, hframe]
  have hrcc : s.crossed.ranOut.rcc = s.crossed.rcc.afterRunOut := by rw [hran]
  refine ⟨?_, ?_, ?_, ?_, ?_, ?_, ?_, ?_, ?_, ⟨f, hnumber, hstate, htail, ?_⟩, hgrows, ?_⟩
  iterate 8 rw [hran, hframe]
  · rw [hseq]
  · rw [hran]
    exact htrack
  · rw [hseq, hrcc]
    by_cases h : s.rcc.splice = .preparing ∨ s.rcc.splice = .slotted
    · obtain ⟨hreq, hpoint, htimer, hcommand⟩ := htaken h
      refine .inr ⟨h, hsplice.trans (if_pos h), ⟨htimer, hcommand, hreq, hpoint, ?_⟩, rfl⟩
      unfold RollChange.afterRunOut
      rw [hs, if_pos h]
      rfl
    · exact .inl ⟨hsplice.trans (if_neg h), fun h' => absurd h' h⟩

/-! ## The panel at an emergency stop -/

/-- R41, R51, R70, R76: the FORMING panel, if there is one, ended with INTERRUPTED. -/
structure State.PanelStopped (u v : State) : Prop where
  conv : v.conv = u.conv
  web : v.web = u.web
  segs : ∀ i, ∃ d, v.segs.get i = { u.segs.get i with drive := d }
  fmu : v.fmu = u.fmu
  steam : v.steam = u.steam
  verify : v.verify = u.verify
  outlets : v.outlets = u.outlets
  estopInput : v.estopInput = u.estopInput
  grows : u.Grows v
  forming : v.forming? = none
  track : v.track = u.trackEnded Reasons.addInterrupted
  orders : v.orders = if u.forming?.isSome = true then u.endHeadPanel.orders else u.orders
  orderDone : v.orders.length < u.orders.length → v.flagSet .orderDone = true
  seq : ∃ rollOut step, v.seq = { (if u.forming?.isSome = true then u.seq.panelEnded else u.seq) with
      hold := { u.seq.hold with rollOut := rollOut }, step := step }
    ∧ ∀ x, u.seq.step = some x → x.kind = .gap → step = some x
  rcc : ∃ p r, v.rcc = { u.rcc with firePoint := p, slotRequest := r }
    ∧ (u.rcc.firePoint = none → p = none ∧ r = u.rcc.slotRequest)

theorem endForming_stopped (u : State) : u.PanelStopped (u.endForming true Reasons.addInterrupted) := by
  cases hf : u.forming? with
  | none =>
    rw [endForming_of_none hf]
    refine ⟨rfl, rfl, fun _ => ⟨_, rfl⟩, rfl, rfl, rfl, rfl, rfl, .refl u, hf, (map_forming_of_none hf _).symm, ?_,
      fun h => absurd h (Nat.lt_irrefl _), ⟨u.seq.hold.rollOut, u.seq.step, ?_, fun _ h _ => h⟩,
      ⟨u.rcc.firePoint, u.rcc.slotRequest, rfl, fun h => ⟨h, rfl⟩⟩⟩
    · rw [hf]
      rfl
    · rw [hf]
      rfl
  | some x =>
    have hended := endForming_ended true Reasons.addInterrupted hf
    obtain ⟨gap, hgap⟩ := panelEnded_cases u.seq
    refine ⟨hended.conv, hended.web, fun i => ⟨(u.segs.get i).drive, by rw [hended.segs]⟩, hended.fmu, hended.steam,
      hended.verify, hended.outlets, hended.estopInput, .endForming true _ u, hended.forming, hended.track, ?_,
      endForming_orderDone, ⟨u.seq.hold.rollOut, u.seq.step, ?_, fun _ h _ => h⟩, ?_⟩
    · rw [hf]
      exact hended.orders
    · rw [hf, hended.seq, hgap]
      rfl
    · obtain ⟨p, r, hrcc⟩ := hended.rcc
      by_cases hp : u.rcc.firePoint = none
      · exact ⟨u.rcc.firePoint, u.rcc.slotRequest, State.GoesOn.endForming_rcc true _ hp, fun _ => ⟨hp, rfl⟩⟩
      · exact ⟨p, r, hrcc, fun h => absurd h hp⟩

theorem dropPanelStep_frame (s : State) : ∃ segs step, s.dropPanelStep = { s with
      segs := segs, seq := { s.seq with step := step } }
    ∧ (∀ i, ∃ d, segs.get i = { s.segs.get i with drive := d })
    ∧ ∀ x, s.seq.step = some x → x.kind = .gap → step = some x := by
  have hsame (h : s.dropPanelStep = s) : ∃ segs step, s.dropPanelStep = { s with
      segs := segs, seq := { s.seq with step := step } }
    ∧ (∀ i, ∃ d, segs.get i = { s.segs.get i with drive := d })
    ∧ ∀ x, s.seq.step = some x → x.kind = .gap → step = some x :=
    ⟨s.segs, s.seq.step, h, fun _ => ⟨_, rfl⟩, fun _ hx _ => hx⟩
  cases hs : s.seq.step with
  | none => exact hs ▸ hsame (by rw [State.dropPanelStep, hs])
  | some x =>
    by_cases hk : x.kind = .gap
    · exact hs ▸ hsame (by rw [State.dropPanelStep, hs]; exact if_pos hk)
    · rw [dropPanelStep_eq hs hk]
      refine ⟨_, none, rfl, fun i => ?_, fun y hy hg => ?_⟩
      · rw [setSeq_segs, Six.get_map]
        split
        · exact ⟨_, rfl⟩
        · exact ⟨_, rfl⟩
      · obtain rfl := Option.some.inj hy
        exact absurd hg hk

/-- R118: in ESTOP a roll run out ends the panel, drops its step and adds ROLL_OUT. -/
theorem breakPanel_stopped {u : State} (hl : u.seq.line = .estop) :
    u.PanelStopped (u.breakPanel.addHoldAtOnce fun h => { h with rollOut := true }) := by
  have h := endForming_stopped u
  obtain ⟨rollOut, step, hseq, hkept⟩ := h.seq
  have hbroken : ∃ segs step, u.breakPanel = { u.endForming true Reasons.addInterrupted with
        segs := segs, seq := { (u.endForming true Reasons.addInterrupted).seq with step := step } }
      ∧ (∀ i, ∃ d, segs.get i = { u.segs.get i with drive := d })
      ∧ ∀ x, u.seq.step = some x → x.kind = .gap → step = some x := by
    by_cases hf : u.forming?.isSome = true
    · obtain ⟨segs, step', hdrop, hsegs, hgap⟩ := dropPanelStep_frame (u.endForming true Reasons.addInterrupted)
      refine ⟨segs, step', (if_pos hf).trans hdrop, fun i => ?_, fun x hx hk => hgap x ?_ hk⟩
      · obtain ⟨d, hd⟩ := hsegs i
        obtain ⟨d', hd'⟩ := h.segs i
        exact ⟨d, by rw [hd, hd']⟩
      · rw [hseq]
        exact hkept x hx hk
    · have hnone := Option.not_isSome_iff_eq_none.mp hf
      rw [breakPanel_of_none hnone, endForming_of_none hnone]
      exact ⟨u.segs, u.seq.step, rfl, fun _ => ⟨_, rfl⟩, fun _ hx _ => hx⟩
  obtain ⟨segs, step', hbreak, hsegs, hgap⟩ := hbroken
  have hline : (u.endForming true Reasons.addInterrupted).seq.line = .estop := by
    rw [hseq]
    obtain ⟨gap, hgap⟩ := panelEnded_cases u.seq
    rw [hgap, apply_ite Seq.line]
    split <;> exact hl
  have hstands : (u.breakPanel.addHoldAtOnce fun h => { h with rollOut := true }) =
      u.breakPanel.setSeq fun q => { q with hold := { q.hold with rollOut := true } } :=
    addHoldAtOnce_stands (.inr (.inr (by rw [hbreak]; exact hline)))
  rw [hstands, hbreak]
  refine ⟨h.conv, h.web, hsegs, h.fmu, h.steam, h.verify, h.outlets, h.estopInput, h.grows.trans (.of_link rfl), h.forming,
    h.track, h.orders, h.orderDone, ⟨true, step', ?_, hgap⟩, h.rcc⟩
  rw [hseq]
  rfl

/-- R76: the web advance of the feed end that an emergency stop makes. -/
def State.estopAdvance (s : State) : Nat :=
  match s.seq.step with
  | some x => if x.phase = .feed ∨ x.phase = .feedCut then s.webAdvance else 0
  | none => 0

theorem feeding_iff (p : Phase) : p.feeding = true ↔ p = .feed ∨ p = .feedCut := by cases p <;> decide

/-- R76: the feed end of a feed phase in flight, and the end of the panel. -/
theorem estopFeed_stops {s : State} (hl : s.seq.line = .estop) : ∃ u, s.FeedMade u ∧ u.web = s.web + s.estopAdvance
    ∧ u.PanelStopped (s.estopFeed.endForming true Reasons.addInterrupted) := by
  have hidle (h : s.estopFeed = s) (hw : s.estopAdvance = 0) : ∃ u, s.FeedMade u ∧ u.web = s.web + s.estopAdvance
      ∧ u.PanelStopped (s.estopFeed.endForming true Reasons.addInterrupted) := by
    rw [h, hw]
    exact ⟨s, .refl s, rfl, endForming_stopped s⟩
  cases hs : s.seq.step with
  | none => exact hidle (by rw [State.estopFeed, hs]) (by rw [State.estopAdvance, hs])
  | some x =>
    by_cases hx : x.phase.feeding = true
    · have hfeed : s.estopFeed = s.crossed.rollOutTest := by
        rw [State.estopFeed, hs]
        exact if_pos hx
      have hw : s.estopAdvance = s.webAdvance := by
        rw [State.estopAdvance, hs]
        exact if_pos ((feeding_iff _).mp hx)
      rw [hfeed, hw]
      have hquiet (h : s.crossed.rollOutTest = s.crossed) : ∃ u, s.FeedMade u ∧ u.web = s.web + s.webAdvance
          ∧ u.PanelStopped (s.crossed.rollOutTest.endForming true Reasons.addInterrupted) := by
        rw [h]
        exact ⟨s.crossed, crossed_feedMade s, crossings_web _, endForming_stopped _⟩
      cases ha : s.crossed.rcc.activeRoll with
      | none => exact hquiet (rollOutTest_of_none ha)
      | some a =>
        by_cases hzero : a.remaining = 0
        · have hmade := ranOut_feedMade s
          have hstopped := breakPanel_stopped (u := s.crossed.ranOut) (by rw [hmade.seq]; exact hl)
          rw [rollOutTest_out ha hzero, endForming_of_none hstopped.forming]
          exact ⟨_, hmade, (ranOut_web _).trans (crossings_web _), hstopped⟩
        · exact hquiet (rollOutTest_of_left ha hzero)
    · refine hidle ?_ ?_
      · rw [State.estopFeed, hs]
        exact if_neg hx
      · rw [State.estopAdvance, hs]
        exact if_neg (mt (feeding_iff _).mpr hx)

/-! ## The obligation -/

theorem enter_estop_eq {s : State} (h : s.seq.line ≠ .estop) : ∃ link, s.enter .estop = { s with
      seq := { s.seq with line := .estop, pace := .stopped, stop := .none, inhibits := Inhibits.empty }, link := link } := by
  unfold State.enter
  rw [if_neg h]
  exact ⟨_, rfl⟩

/-- R47, R75, R94, R134: the blocks after the panel's end. -/
def State.estopBlocks (s : State) : State :=
  (s.interruptAll.estopStep.estopSplice.estopSegs.estopFeeds.estopGrants).setSeq fun q => { q with backoffs := 0 }

theorem estop_eq (s : State) : s.estop =
    ((({ s with estopInput := true } : State).enter .estop).estopFeed.endForming true Reasons.addInterrupted).estopBlocks :=
  rfl

/-- R47, R94, R134, R154: what the blocks drop, park and mark. -/
structure State.BlocksStopped (v t : State) : Prop where
  conv : t.conv = v.conv
  web : t.web = v.web
  orders : t.orders = v.orders
  verify : t.verify = v.verify
  outlets : t.outlets = v.outlets
  estopInput : t.estopInput = v.estopInput
  grows : v.Grows t
  track : t.track = v.track.map fun p => { p with reasons := p.reasons.addInterrupted }
  fmu : t.fmu = v.fmu.map fun f => { f.outOfStep with tension := none }
  steam : t.steam = { v.steam with grants := Five.fill 0 }
  segs : ∀ i, t.segs.get i = (v.segs.get i).stopped
  applied : ∀ i, (v.segs.get i).status.busy = true → t.flagSet (.applyDone i) = true
  parked : ∀ i, (v.segs.get i).state ≠ .parked → t.flagSet (.segState i) = true
  seq : ∃ kept splice, t.seq = { v.seq with
      step := none, kept := kept, backoffs := 0, hold := { v.seq.hold with splice := splice, fault := false } }
    ∧ ∀ x, v.seq.step = some x → x.kind = .gap → kept = some x.advance
  splice : t.rcc.splice = v.rcc.splice.atEstop
  cleared : v.rcc.splice = .preparing ∨ v.rcc.splice = .slotted ∨ v.rcc.splice = .pressing → t.rcc.Cleared
  taken : v.rcc.splice = .preparing ∨ v.rcc.splice = .slotted →
    t.seq.hold.splice = (v.seq.hold.splice && v.rcc.pressDue.isNone)
  missed : v.rcc.splice = .pressing → t.seq.hold.splice = true ∧ t.rcc.confirmTimer = none ∧ t.rcc.detectPoint = none
    ∧ t.flagSet .spliceMissed = true
  armed : v.rcc.splice = .armed → t.rcc = v.rcc ∧ t.seq.hold.splice = v.seq.hold.splice

theorem estopBlocks_stopped {v : State} (hl : v.seq.line = .estop) : v.BlocksStopped v.estopBlocks := by
  obtain ⟨kept, hstep, hkept⟩ := estopStep_frame v.interruptAll
  have hbefore : v.interruptAll.estopStep.rcc = v.rcc ∧ v.interruptAll.estopStep.seq.hold = v.seq.hold
      ∧ v.interruptAll.estopStep.seq.line = v.seq.line ∧ v.Grows v.interruptAll.estopStep := by
    rw [hstep]
    exact ⟨rfl, rfl, rfl, .of_link rfl⟩
  obtain ⟨hrcc, hhold, hline, hstart⟩ := hbefore
  have hsplice := estopSplice_stopped (hline.trans hl)
  obtain ⟨rcc, splice, link, hframe⟩ := hsplice.frame
  unfold State.estopBlocks
  generalize v.interruptAll.estopStep.estopSplice = z at *
  rw [hstep] at hframe
  have halone := State.SegsAlone.foldl segsAlone_estopSeg segIndices z
  have hparks := State.Grows.foldl estopSeg_grows segIndices z
  have hget (i : Fin 6) : (segIndices.foldl State.estopSeg z).segs.get i = (v.segs.get i).stopped := by
    rw [foldl_segs_get estopSeg_segs nodup_segIndices, if_pos (mem_segIndices i), hframe]
    rfl
  have hkeep (u : State) (i j : Fin 6) (hj : j ≠ i) : (u.estopSeg j).segs.get i = u.segs.get i := by
    rw [estopSeg_segs, Six.get_set_of_ne _ _ hj.symm]
  have hsegs : z.segs = v.segs := by rw [hframe]; rfl
  have happlied (i : Fin 6) (h : (v.segs.get i).status.busy = true) :
      (segIndices.foldl State.estopSeg z).flagSet (.applyDone i) = true :=
    foldl_marks (p := fun g => g.status.busy = true) estopSeg_grows (fun u j hj => hkeep u i j hj)
      (fun u => (estopSeg_flags u i).1) (mem_segIndices i) (by rwa [hsegs])
  have hparked (i : Fin 6) (h : (v.segs.get i).state ≠ .parked) :
      (segIndices.foldl State.estopSeg z).flagSet (.segState i) = true :=
    foldl_marks (p := fun g => g.state ≠ .parked) estopSeg_grows (fun u j hj => hkeep u i j hj)
      (fun u => (estopSeg_flags u i).2) (mem_segIndices i) (by rwa [hsegs])
  unfold State.estopSegs
  generalize segIndices.foldl State.estopSeg z = y at *
  have ht : ((y.setSeq fun q => { q with hold := { q.hold with fault := false } }).estopFeeds.estopGrants).setSeq
      (fun q => { q with backoffs := 0 }) = { y with
        seq := { y.seq with backoffs := 0, hold := { y.seq.hold with fault := false } }
        fmu := y.fmu.map fun f => { f.outOfStep with tension := none }
        steam := { y.steam with grants := Five.fill 0 } } := rfl
  have htop : y.Grows { y with
        seq := { y.seq with backoffs := 0, hold := { y.seq.hold with fault := false } }
        fmu := y.fmu.map fun f => { f.outOfStep with tension := none }
        steam := { y.steam with grants := Five.fill 0 } } := .of_link rfl
  rw [ht]
  refine ⟨?_, ?_, ?_, ?_, ?_, ?_, ?_, ?_, ?_, ?_, hget, fun i h => htop.flag _ (happlied i h),
    fun i h => htop.flag _ (hparked i h), ⟨kept, splice, ?_, hkept⟩, ?_, ?_, ?_, ?_, ?_⟩
  · refine halone.conv.trans ?_
    rw [hframe]
    rfl
  · refine halone.web.trans ?_
    rw [hframe]
    rfl
  · refine halone.orders.trans ?_
    rw [hframe]
    rfl
  · refine halone.verify.trans ?_
    rw [hframe]
    rfl
  · refine halone.outlets.trans ?_
    rw [hframe]
    rfl
  · refine halone.estopInput.trans ?_
    rw [hframe]
    rfl
  · exact ((hstart.trans hsplice.grows).trans hparks).trans htop
  · refine halone.track.trans ?_
    rw [hframe]
    rfl
  · refine (congrArg (Six.map fun f => { f.outOfStep with tension := none }) (halone.fmu.trans ?_) :)
    rw [hframe]
    rfl
  · refine (congrArg (fun a => { a with grants := Five.fill 0 }) (halone.steam.trans ?_) :)
    rw [hframe]
    rfl
  · show ({ y.seq with backoffs := 0, hold := { y.seq.hold with fault := false } } : Seq) = _
    rw [halone.seq, hframe]
    rfl
  · rw [← hrcc, ← hsplice.splice, ← halone.rcc]
  · rw [← hrcc]
    intro h
    have hcleared := hsplice.cleared h
    rwa [← halone.rcc] at hcleared
  · rw [← hrcc, ← hhold]
    intro h
    rw [← hsplice.taken h, ← halone.seq]
  · rw [← hrcc]
    intro h
    obtain ⟨hheld, htimer, hpoint, hflag⟩ := hsplice.missed h
    rw [← halone.seq] at hheld
    rw [← halone.rcc] at htimer hpoint
    exact ⟨hheld, htimer, hpoint, htop.flag _ (hparks.flag _ hflag)⟩
  · rw [← hrcc, ← hhold]
    intro h
    rw [← hsplice.armed h, ← halone.rcc, ← halone.seq]
    exact ⟨rfl, rfl⟩

/-- R134: the splice, from before the feed end to after the blocks. -/
theorem estop_splice {s u v t : State} (hmade : s.FeedMade u) (hpanel : u.PanelStopped v) (hblocks : v.BlocksStopped t) :
    t.rcc.splice = s.rcc.splice.atEstop
      ∧ (s.rcc.splice = .preparing ∨ s.rcc.splice = .slotted ∨ s.rcc.splice = .pressing → t.rcc.Cleared)
      ∧ (s.rcc.splice = .preparing ∨ s.rcc.splice = .slotted →
        t.seq.hold.splice = (s.seq.hold.splice && s.rcc.pressDue.isNone))
      ∧ (s.rcc.splice = .pressing → t.seq.hold.splice = true ∧ t.rcc.confirmTimer = none ∧ t.rcc.detectPoint = none
        ∧ t.flagSet .spliceMissed = true) := by
  obtain ⟨p, r, hrcc, hkept⟩ := hpanel.rcc
  obtain ⟨rollOut, step, hseq, -⟩ := hpanel.seq
  have hsplice : v.rcc.splice = u.rcc.splice := by rw [hrcc]
  have hdue : v.rcc.pressDue = u.rcc.pressDue := by rw [hrcc]
  have hheld : v.seq.hold.splice = u.seq.hold.splice := by rw [hseq]
  rcases hmade.splice with ⟨hsame, hquiet⟩ | ⟨htaken, harmed, hclear, hout⟩
  · rw [← hsame, ← hsplice]
    refine ⟨hblocks.splice, hblocks.cleared, fun h => ?_, hblocks.missed⟩
    obtain ⟨hd, hs⟩ := hquiet (by rwa [← hsame, ← hsplice])
    rw [hblocks.taken h, hheld, hs, hdue, hd]
  · have hv : v.rcc.splice = .armed := hsplice.trans harmed
    obtain ⟨hsame, hhold⟩ := hblocks.armed hv
    have hat : s.rcc.splice.atEstop = .armed := by
      rcases htaken with h | h
      · rw [h]
        rfl
      · rw [h]
        rfl
    obtain ⟨rfl, rfl⟩ := hkept hclear.firePoint
    refine ⟨?_, fun _ => ?_, fun _ => (hhold.trans hheld).trans hout, fun h => ?_⟩
    · rw [hblocks.splice, hv, hat]
      rfl
    · rw [hsame, hrcc]
      exact ⟨hclear.matchTimer, hclear.spindleCommand, hclear.slotRequest, rfl, hclear.pressDue⟩
    · rw [h] at htaken
      exact absurd htaken (by decide)

/-- R41, R47: each record, from before the feed end to after the blocks. -/
theorem estop_track {s u v t : State} (hmade : s.FeedMade u) (hpanel : u.PanelStopped v) (hblocks : v.BlocksStopped t) :
    t.track.length = s.track.length ∧ ∀ (k : Nat) (p : Panel), s.track[k]? = some p → ∃ y, t.track[k]? = some y
      ∧ y.number = p.number ∧ y.reasons.interrupted = true ∧ y.tail = if p.state = .forming then some s.conv else p.tail := by
  obtain ⟨f, hnumber, hstate, htail, htrack⟩ := hmade.track
  have hall : t.track = ((s.track.map f).map fun p =>
      if p.state = .forming then p.endedAt u.conv Reasons.addInterrupted else p).map
        fun p => { p with reasons := p.reasons.addInterrupted } := by
    rw [hblocks.track, hpanel.track, State.trackEnded, htrack]
  refine ⟨by rw [hall]; simp, fun k p hp => ?_⟩
  rw [hall, List.getElem?_map, List.getElem?_map, List.getElem?_map, hp]
  refine ⟨_, rfl, ?_, rfl, ?_⟩
  · show (if (f p).state = .forming then (f p).endedAt u.conv Reasons.addInterrupted else f p).number = _
    rw [apply_ite Panel.number]
    exact (ite_self _).trans (hnumber p)
  · show (if (f p).state = .forming then (f p).endedAt u.conv Reasons.addInterrupted else f p).tail = _
    rw [apply_ite Panel.tail, hstate, htail, ← hmade.conv]
    rfl

/-- R66, R70: the sequencer's plan and gap at the panel's end. -/
theorem panelEnded_if (b : Bool) (q : Seq) : (if b = true then q.panelEnded else q) = { q with
    plan := if b = true then none else q.plan
    gap := if b = true then q.panelEnded.gap else q.gap } := by
  cases b with
  | false => rfl
  | true =>
    obtain ⟨gap, hq⟩ := panelEnded_cases q
    rw [if_pos rfl, if_pos rfl, if_pos rfl, hq]

/-- Settles O59. -/
theorem estopStopsEverything : Obligations.EstopStopsEverything := by
  intro s
  refine ⟨fun h => finish_of_eq (if_pos h), fun hin hl => ?_⟩
  have hrun : exec .estopActive s = .next (State.served s.estop) := finish_of_eq (if_neg (by rw [hin]; decide))
  obtain ⟨hlineFlag, hentry⟩ := enter_flags (l := .estop) (s := { s with estopInput := true }) hl
  have hestopFlag := hentry .estop rfl
  obtain ⟨link, hentered⟩ := enter_estop_eq (s := { s with estopInput := true }) hl
  have hline : (State.enter .estop { s with estopInput := true }).seq.line = .estop := enter_line ..
  obtain ⟨u, hmade, hweb, hpanel⟩ := estopFeed_stops hline
  rw [estop_eq] at hrun
  generalize State.enter .estop { s with estopInput := true } = e at *
  generalize e.estopFeed.endForming true Reasons.addInterrupted = v at *
  obtain ⟨rollOut, step, hvseq, hvgap⟩ := hpanel.seq
  rw [panelEnded_if] at hvseq
  have hvline : v.seq.line = .estop := by
    rw [hvseq, hmade.seq]
    exact hline
  have hblocks := estopBlocks_stopped hvline
  obtain ⟨hsplice, hcleared, htaken, hmissed⟩ := estop_splice hmade hpanel hblocks
  obtain ⟨hlength, hrecords⟩ := estop_track hmade hpanel hblocks
  obtain ⟨kept, splice, htseq, hkept⟩ := hblocks.seq
  have hforming : u.forming?.isSome = s.forming?.isSome := by
    obtain ⟨f, -, hstate, -, htrack⟩ := hmade.track
    rw [forming?_of_kept hstate htrack, Option.isSome_map, hentered]
    rfl
  have hgrows := (hmade.grows.trans hpanel.grows).trans hblocks.grows
  have hseq : v.estopBlocks.seq = { s.seq with
      line := .estop, pace := .stopped, stop := .none, inhibits := Inhibits.empty
      plan := if s.forming?.isSome = true then none else s.seq.plan
      gap := if s.forming?.isSome = true then s.seq.panelEnded.gap else s.seq.gap
      step := none, kept := kept, backoffs := 0
      hold := { s.seq.hold with splice := splice, rollOut := rollOut, fault := false } } := by
    rw [htseq, hvseq, hforming, hmade.seq, hentered]
    unfold Seq.panelEnded
    cases s.seq.plan <;> rfl
  have horders : u.orders = s.orders := by rw [hmade.orders, hentered]
  have hended : v.estopBlocks.orders = if s.forming?.isSome = true then s.endHeadPanel.orders else s.orders := by
    rw [hblocks.orders, hpanel.orders, hforming, horders, endHeadPanel_orders horders]
  have hrcc : e.rcc = s.rcc := by rw [hentered]
  rw [hrcc] at hsplice hcleared htaken hmissed
  refine ⟨v.estopBlocks, hrun, ?_, ?_, ?_, ?_, ?_, ?_, ?_, ?_, fun x hx hk => ?_, ?_, ?_, ?_, ?_, ?_, ?_, fun hlt => ?_, ?_, ?_,
    fun k p hp => ?_, fun i => ?_, ?_, ?_, ?_, ?_, fun h => ?_, fun h => ?_, fun h => ?_, ?_, ?_, ?_, ?_⟩
  · rw [hblocks.estopInput, hpanel.estopInput, hmade.estopInput, hentered]
  · rw [hseq]
  · rw [hseq]
  · rw [hseq]
  · rw [hseq]
    rfl
  · rw [hseq]
  · rw [hseq]
  · rw [hblocks.conv, hpanel.conv, hmade.conv, hentered]
  · rw [hseq]
    refine hkept x ?_ hk
    rw [hvseq]
    refine hvgap x ?_ hk
    rw [hmade.seq, hentered]
    exact hx
  · rw [hblocks.web, hpanel.web, hweb, hentered]
    rfl
  · rw [hseq]
  · rw [hseq]
  · rw [hseq]
  · rw [hseq]
    unfold Seq.panelEnded
    cases s.forming? with
    | none => rfl
    | some y => cases s.seq.plan <;> rfl
  · rw [hended, endHeadPanel_counted]
    cases s.forming? with
    | none => rfl
    | some y => cases s.orders <;> rfl
  · refine hblocks.grows.flag .orderDone (hpanel.orderDone ?_)
    rwa [horders, ← hblocks.orders]
  · rw [forming?_of_kept (f := fun p => { p with reasons := p.reasons.addInterrupted }) (fun _ => rfl) hblocks.track,
      hpanel.forming]
    rfl
  · rw [hlength, hentered]
  · rw [hentered] at hrecords
    exact hrecords k p hp
  · intro g busy
    obtain ⟨d, hd⟩ := hpanel.segs i
    have hg : u.segs.get i = g := by rw [hmade.segs, hentered]
    rw [hg] at hd
    refine ⟨(hblocks.segs i).trans (by rw [hd]; rfl), fun h => hblocks.applied i ?_, fun h => hblocks.parked i ?_⟩
    · rw [hd]
      exact (busy_iff _).mpr h
    · rw [hd]
      exact h
  · rw [hblocks.fmu, hpanel.fmu, hmade.fmu, hentered]
    rfl
  · rw [hblocks.steam]
    rfl
  · rw [hblocks.steam, hpanel.steam, hmade.steam, hentered]
  · rw [hsplice]
    cases s.rcc.splice <;> rfl
  · have hc := hcleared h
    exact ⟨hc.matchTimer, hc.spindleCommand, hc.slotRequest, hc.firePoint, hc.pressDue⟩
  · rw [htaken h, hentered]
  · exact hmissed h
  · rw [hblocks.verify, hpanel.verify, hmade.verify, hentered]
  · rw [hblocks.outlets, hpanel.outlets, hmade.outlets, hentered]
  · exact hgrows.flag .estop hestopFlag
  · exact hgrows.flag .lineState hlineFlag

end Sys2Proof.Machine
end

section
/-! PROOFS. How work is taken up again by a line that has entered RUNNING or DRAINING. -/

namespace Sys2Proof.Machine

/-! ## The cases of a resumption -/

theorem resume_kept {s : State} {len : Nat} (h : s.seq.kept = some len) : s.resume = s.deliverKept len := by
  rw [State.resume, h]

theorem resume_takesUp {s : State} {x : StepRec} (hk : s.seq.kept = none) (hs : s.seq.step = some x) :
    s.resume = s.takeUp := by
  rw [State.resume, hk, hs]
  rfl

theorem resume_next {s : State} (hk : s.seq.kept = none) (hs : s.seq.step = none) : s.resume = s.nextStep := by
  rw [State.resume, hk, hs]
  rfl

/-- R74: a stroke whose point of cut is reached. -/
theorem takeUp_stroke {s : State} {dir : Direction} {adv : Nat} {ph : Phase} (hs : s.seq.step = some ⟨.stroke dir, adv, ph⟩)
    (hph : ph = .fed ∨ ph = .strokeCut ∧ s.withdrawsOut = false) : s.takeUp = s.takeUpStroke dir := by
  rw [State.takeUp, hs]
  rcases hph with rfl | ⟨rfl, hw⟩
  · rfl
  · dsimp only
    rw [hw]
    rfl

/-- R74: a step whose point of cut is not reached. -/
theorem takeUp_waits {s : State} {x : StepRec} (hs : s.seq.step = some x)
    (hx : x.phase = .feedCut ∨ x.phase = .strokeCut ∧ s.withdrawsOut = true) : s.takeUp = s := by
  obtain ⟨kind, adv, ph⟩ := x
  rw [State.takeUp, hs]
  rcases hx with h | ⟨h, hw⟩
  · obtain rfl : ph = .feedCut := h
    cases kind with
    | stroke | flat | gap => rfl
  · obtain rfl : ph = .strokeCut := h
    cases kind with
    | stroke dir =>
      dsimp only
      rw [hw]
      rfl
    | flat | gap => rfl

/-- R74: a fed step that is no stroke is delivered. -/
theorem takeUp_delivers {s : State} {kind : StepKind} {adv : Nat} (hs : s.seq.step = some ⟨kind, adv, .fed⟩)
    (hk : kind = .flat ∨ kind = .gap) : s.takeUp = s.restartPace.deliverAndGo := by
  rw [State.takeUp, hs]
  rcases hk with rfl | rfl
  · rfl
  · rfl

theorem withdrawsOut_false_iff (s : State) : s.withdrawsOut = false ↔ ∀ j, (s.segs.get j).drive ≠ .withdraw := by
  rw [← Bool.not_eq_true, withdrawsOut_iff]
  exact not_exists

/-! ## A gap delivered -/

theorem deliver_gap {s : State} {adv : Nat} {ph : Phase} (hs : s.seq.step = some ⟨.gap, adv, ph⟩) :
    s.deliver = State.exitsAndStall { s with conv := s.conv + adv, seq := { s.seq with step := none } } := by
  rw [deliver_eq hs, stepCounted_of_not_stroke (.inr rfl)]
  rfl

/-- R44, R151: what the exits and the stall leave of the line and the roll change. -/
theorem exitsAndStall_keeps (s : State) : s.exitsAndStall.seq = s.seq ∧ s.exitsAndStall.rcc = s.rcc
    ∧ s.exitsAndStall.conv = s.conv ∧ s.exitsAndStall.orders = s.orders ∧ s.exitsAndStall.forming? = s.forming? := by
  obtain ⟨outlets, link, heq, -⟩ := exitsAndStall_frame s
  have hforming := exited_forming? (s := s) (t := s.exitsAndStall) (by rw [heq])
  refine ⟨?_, ?_, ?_, ?_, hforming⟩
  all_goals rw [heq]

theorem boundaryClosed_of_seq {s t : State} (h : t.seq.plan = s.seq.plan) : t.boundaryClosed = s.boundaryClosed := by
  rw [State.boundaryClosed, State.boundaryClosed, h]

theorem atPanelStart_iff (s : State) : s.atPanelStart = true ↔
    s.forming? = none ∧ s.seq.step = none ∧ s.seq.gap = none ∧ s.seq.kept = none := by
  simp [State.atPanelStart, State.atPanelBoundary, and_assoc]

/-- R58, R69: a RUNNING line at a panel start. -/
theorem boundary_starts {s : State} (hl : s.seq.line = .running) (hat : s.atPanelStart = true)
    (hopen : s.boundaryClosed = false) : s.boundary = s.panelStart := by
  obtain ⟨hf, -, -, -⟩ := (atPanelStart_iff s).mp hat
  rw [boundary_of_open hopen, abandonTest_of_not (.inl hf), State.openBoundary, hl]
  exact if_pos hat

/-- R69: a DRAINING line at a panel boundary. -/
theorem boundary_drained {s : State} (hl : s.seq.line = .draining) (hf : s.forming? = none) (hs : s.seq.step = none)
    (hopen : s.boundaryClosed = false) : s.boundary = s.enterIdle := by
  rw [boundary_of_open hopen, abandonTest_of_not (.inl hf), State.openBoundary, hl]
  exact if_pos ((atPanelBoundary_iff s).mpr ⟨hf, hs⟩)

/-- R63, R68, R69: a RUNNING or DRAINING line inside a panel that is not abandoned goes on. -/
theorem boundary_inside {s : State} {y : Panel} (hl : s.seq.line = .running ∨ s.seq.line = .draining) (hf : s.forming? = some y)
    (ha : ∀ o rest, s.orders = o :: rest → o.cancel ≠ .abandon) : s.boundary = s.pacedNext := by
  have hmoving : s.seq.line.moving = true := (moving_iff _).mpr (hl.imp_right .inr)
  by_cases hc : s.boundaryClosed = true
  · exact boundary_of_closed hc hmoving
  · have hbound : s.atPanelBoundary = false := by simp [State.atPanelBoundary, hf]
    rw [boundary_of_open (Bool.not_eq_true _ ▸ hc), abandonTest_of_not (.inr ha)]
    exact openBoundary_paced (hl.imp (⟨·, by simp [State.atPanelStart, hbound]⟩) (⟨·, hbound⟩))

/-! ## A flat step delivered -/

theorem advance_flat {p : Plan} {length need : Nat} (h : p.runs[p.run]? = some (.flat length need)) :
    p.advance = { p with run := p.run + 1, stroke := 0 } := by
  rw [Plan.advance, h]

theorem stepPlaced_flat {s : State} {x : StepRec} {p : Plan} (hk : x.kind = .flat) (hp : s.seq.plan = some p) :
    s.stepPlaced x = if p.advance.finished = true then
      (s.setSeq fun q => { q with plan := some p.advance }).endForming false id
      else s.setSeq fun q => { q with plan := some p.advance } := by
  unfold State.stepPlaced
  rw [hk, hp]

/-- R66: a flat step delivered inside the panel. -/
theorem deliver_flat_within {s : State} {x : StepRec} {p : Plan} (hs : s.seq.step = some x) (hk : x.kind = .flat)
    (hp : s.seq.plan = some p) (hfin : ¬ p.advance.finished = true) :
    s.deliver.seq = { s.seq with step := none, plan := some p.advance } ∧ s.deliver.conv = s.conv + x.advance
      ∧ s.deliver.orders = s.orders ∧ s.deliver.forming? = s.forming? := by
  rw [deliver_eq hs, stepCounted_of_not_stroke (.inl hk), stepPlaced_flat hk (by exact hp), if_neg hfin]
  obtain ⟨hseq, -, hconv, horders, hforming⟩ := exitsAndStall_keeps (State.setSeq (fun q => { q with plan := some p.advance })
    { s with conv := s.conv + x.advance, seq := { s.seq with step := none } })
  exact ⟨hseq, hconv, horders, hforming⟩

/-- R66, R70: a flat step delivered that ends the panel. -/
theorem deliver_flat_last {s : State} {x : StepRec} {p : Plan} {y : Panel} (hs : s.seq.step = some x) (hk : x.kind = .flat)
    (hp : s.seq.plan = some p) (hfin : p.advance.finished = true) (hy : s.forming? = some y) :
    s.deliver.seq = { s.seq with
        step := none, plan := none
        gap := if p.advance.gap = 0 then none else some ⟨p.advance.gap, p.advance.cls⟩ }
      ∧ s.deliver.conv = s.conv + x.advance ∧ s.deliver.forming? = none := by
  rw [deliver_eq hs, stepCounted_of_not_stroke (.inl hk), stepPlaced_flat hk (by exact hp), if_pos hfin]
  have hended := endForming_ended false id (s := State.setSeq (fun q => { q with plan := some p.advance })
    { s with conv := s.conv + x.advance, seq := { s.seq with step := none } }) hy
  generalize State.endForming false id _ = v at *
  obtain ⟨hseq, -, hconv, -, hforming⟩ := exitsAndStall_keeps v
  exact ⟨hseq.trans hended.seq, hconv.trans hended.conv, hforming.trans hended.forming⟩

end Sys2Proof.Machine
end

section
/-! PROOFS. What a line does first that enters RUNNING or DRAINING from standing. -/

namespace Sys2Proof.Machine

/-! ## The work taken up -/

/-- R54: an entry into RUNNING or DRAINING changes the line state, and raises LINE_STATE. -/
theorem enter_moves {l : LineState} {s : State} (hl : l = .running ∨ l = .draining) (hne : s.seq.line ≠ l) :
    s.enter l = State.raise .lineState { s with seq := { s.seq with line := l } } :=
  enter_moving_eq ((moving_iff l).mpr (hl.imp_right .inr)) hne

/-- R74: a stroke taken up as the line starts. -/
theorem resumes_stroke {l : LineState} {s : State} {dir : Direction} {adv : Nat} {ph : Phase}
    (hl : l = .running ∨ l = .draining) (hne : s.seq.line ≠ l) (hk : s.seq.kept = none)
    (hs : s.seq.step = some ⟨.stroke dir, adv, ph⟩)
    (hph : ph = .fed ∨ ph = .strokeCut ∧ ∀ j, (s.segs.get j).drive ≠ .withdraw) :
    let t := (s.enter l).resume
    t.seq.line = l ∧ t.seq.pace = .running s.pacePeriod ∧ t.seq.step = some ⟨.stroke dir, adv, .stroke⟩
      ∧ t.seq.backoffs = 0 ∧ ∀ j, (s.segs.get j).engaged = true → (t.segs.get j).drive = .stroke (s.fmu.get j).depth dir := by
  rw [enter_moves hl hne]
  generalize hv : State.raise .lineState { s with seq := { s.seq with line := l } } = v
  have hsegs : v.segs = s.segs := hv ▸ rfl
  have hfmu : v.fmu = s.fmu := hv ▸ rfl
  have hseq : v.seq = { s.seq with line := l } := hv ▸ rfl
  have hperiod : v.pacePeriod = s.pacePeriod := hv ▸ rfl
  have hstep : v.seq.step = some ⟨.stroke dir, adv, ph⟩ := (congrArg Seq.step hseq).trans hs
  have hready : ph = .fed ∨ ph = .strokeCut ∧ v.withdrawsOut = false :=
    hph.imp_right fun ⟨h, hw⟩ => ⟨h, (withdrawsOut_false_iff v).mpr (hsegs ▸ hw)⟩
  have ht : v.resume = _ := (resume_takesUp ((congrArg Seq.kept hseq).trans hk) hstep).trans
    ((takeUp_stroke hstep hready).trans (takeUpStroke_eq hstep))
  rw [ht]
  refine ⟨congrArg Seq.line hseq, congrArg PaceTimer.running hperiod, rfl, rfl, fun j hj => ?_⟩
  have hengaged : (v.clearRetries.segs.get j).engaged = true := by
    rw [State.clearRetries, Six.get_map, hsegs]
    exact hj
  refine (congrArg Segment.drive ((commandEngaged_get ..).trans (if_pos hengaged))).trans ?_
  rw [hfmu]

/-- R74: a step whose point of cut is not reached waits. -/
theorem resumes_waits {l : LineState} {s : State} {x : StepRec} (hl : l = .running ∨ l = .draining) (hne : s.seq.line ≠ l)
    (hk : s.seq.kept = none) (hs : s.seq.step = some x)
    (hx : x.phase = .feedCut ∨ x.phase = .strokeCut ∧ ∃ j, (s.segs.get j).drive = .withdraw) :
    (s.enter l).resume = State.raise .lineState { s with seq := { s.seq with line := l } } := by
  rw [enter_moves hl hne]
  generalize hv : State.raise .lineState { s with seq := { s.seq with line := l } } = v
  have hsegs : v.segs = s.segs := hv ▸ rfl
  have hseq : v.seq = { s.seq with line := l } := hv ▸ rfl
  have hstep : v.seq.step = some x := (congrArg Seq.step hseq).trans hs
  exact (resume_takesUp ((congrArg Seq.kept hseq).trans hk) hstep).trans
    (takeUp_waits hstep (hx.imp_right (And.imp_right fun h => (withdrawsOut_iff v).mpr (hsegs ▸ h))))

/-- R63, R74: a flat step delivered inside the panel as the line starts; the next one waits for the pace timer. -/
theorem resumes_flat_within {l : LineState} {s : State} {adv need : Nat} {p : Plan} {f : Panel}
    (hl : l = .running ∨ l = .draining) (hne : s.seq.line ≠ l) (hk : s.seq.kept = none)
    (hs : s.seq.step = some ⟨.flat, adv, .fed⟩) (hf : s.forming? = some f) (hp : s.seq.plan = some p)
    (hrun : p.runs[p.run]? = some (.flat adv need)) (hmore : p.run + 1 < p.runs.length)
    (ha : ∀ o rest, s.orders = o :: rest → o.cancel ≠ .abandon) :
    let t := (s.enter l).resume
    t.seq.line = l ∧ t.seq.pace = .running s.pacePeriod ∧ t.seq.step = none ∧ t.conv = s.conv + adv
      ∧ t.seq.plan = some { p with run := p.run + 1, stroke := 0 } := by
  rw [enter_moves hl hne]
  generalize hv : State.raise .lineState { s with seq := { s.seq with line := l } } = v
  have hseq : v.restartPace.seq = { s.seq with line := l, pace := .running s.pacePeriod } := hv ▸ rfl
  have hvseq : v.seq = { s.seq with line := l } := hv ▸ rfl
  have hstep : v.seq.step = some ⟨.flat, adv, .fed⟩ := (congrArg Seq.step hvseq).trans hs
  have hconv : v.restartPace.conv = s.conv := hv ▸ rfl
  have horders : v.restartPace.orders = s.orders := hv ▸ rfl
  have hforming : v.restartPace.forming? = some f := hv ▸ hf
  have hadvance := advance_flat hrun
  have hfin : ¬ p.advance.finished = true := by
    rw [hadvance, Plan.finished, decide_eq_true_eq]
    exact Nat.not_le.mpr hmore
  obtain ⟨hdseq, hdconv, hdorders, hdforming⟩ := deliver_flat_within (s := v.restartPace) (x := ⟨.flat, adv, .fed⟩) (p := p)
    ((congrArg Seq.step hseq).trans hs) rfl ((congrArg Seq.plan hseq).trans hp) hfin
  have ht : v.resume = v.restartPace.deliver.boundary :=
    (resume_takesUp ((congrArg Seq.kept hvseq).trans hk) hstep).trans (takeUp_delivers hstep (.inl rfl))
  rw [ht]
  generalize v.restartPace.deliver = d at hdseq hdconv hdorders hdforming
  rw [hseq] at hdseq
  have hgo : d.boundary = d :=
    (boundary_inside (hl.imp (congrArg Seq.line hdseq).trans (congrArg Seq.line hdseq).trans) (hdforming.trans hforming)
      (fun o rest ho => ha o rest ((hdorders.trans horders).symm.trans ho))).trans
      (pacedNext_running (congrArg Seq.pace hdseq))
  rw [hgo]
  dsimp only
  rw [hdseq]
  exact ⟨rfl, rfl, rfl, hdconv.trans (congrArg (· + adv) hconv), congrArg some hadvance⟩

/-- R70, R74: the last step of a panel, flat, delivered as a RUNNING line starts; the panel's gap waits for the timer. -/
theorem resumes_flat_last {s : State} {adv need : Nat} {p : Plan} {f : Panel} (hne : s.seq.line ≠ .running)
    (hk : s.seq.kept = none) (hs : s.seq.step = some ⟨.flat, adv, .fed⟩) (hf : s.forming? = some f)
    (hp : s.seq.plan = some p) (hg : p.gap ≠ 0) (hrun : p.runs[p.run]? = some (.flat adv need))
    (hlast : p.runs.length ≤ p.run + 1) :
    let t := (s.enter .running).resume
    t.seq.line = .running ∧ t.seq.pace = .running s.pacePeriod ∧ t.seq.step = none ∧ t.conv = s.conv + adv
      ∧ t.seq.plan = none ∧ t.seq.gap = some ⟨p.gap, p.cls⟩ ∧ t.forming? = none := by
  rw [enter_moves (.inl rfl) hne]
  generalize hv : State.raise .lineState { s with seq := { s.seq with line := .running } } = v
  have hseq : v.restartPace.seq = { s.seq with line := .running, pace := .running s.pacePeriod } := hv ▸ rfl
  have hvseq : v.seq = { s.seq with line := .running } := hv ▸ rfl
  have hstep : v.seq.step = some ⟨.flat, adv, .fed⟩ := (congrArg Seq.step hvseq).trans hs
  have hconv : v.restartPace.conv = s.conv := hv ▸ rfl
  have hforming : v.restartPace.forming? = some f := hv ▸ hf
  have hadvance := advance_flat hrun
  have hfin : p.advance.finished = true := by
    rw [hadvance, Plan.finished, decide_eq_true_eq]
    exact hlast
  obtain ⟨hdseq, hdconv, hdforming⟩ := deliver_flat_last (s := v.restartPace) (x := ⟨.flat, adv, .fed⟩) (p := p)
    ((congrArg Seq.step hseq).trans hs) rfl ((congrArg Seq.plan hseq).trans hp) hfin hforming
  have ht : v.resume = v.restartPace.deliver.boundary :=
    (resume_takesUp ((congrArg Seq.kept hvseq).trans hk) hstep).trans (takeUp_delivers hstep (.inl rfl))
  rw [ht]
  generalize v.restartPace.deliver = d at hdseq hdconv hdforming
  have hgap : (if p.advance.gap = 0 then none else some (⟨p.advance.gap, p.advance.cls⟩ : Gap)) = some ⟨p.gap, p.cls⟩ := by
    rw [hadvance]
    exact if_neg hg
  rw [hseq, hgap] at hdseq
  have hopen : d.boundaryClosed = false := by rw [State.boundaryClosed, hdseq]
  have hstart : d.atPanelStart = false := by
    rw [State.atPanelStart, hdseq]
    simp
  have hgo : d.boundary = d := by
    rw [boundary_of_open hopen, abandonTest_of_not (.inl hdforming)]
    exact (openBoundary_paced (.inl ⟨congrArg Seq.line hdseq, hstart⟩)).trans (pacedNext_running (congrArg Seq.pace hdseq))
  rw [hgo]
  dsimp only
  rw [hdseq]
  exact ⟨rfl, rfl, rfl, hdconv.trans (congrArg (· + adv) hconv), rfl, rfl, hdforming⟩

/-- R63, R70: the pending gap step as the line starts. -/
theorem resumes_gap {l : LineState} {s : State} {g : Gap} (hl : l = .running ∨ l = .draining) (hne : s.seq.line ≠ l)
    (hk : s.seq.kept = none) (hs : s.seq.step = none) (hg : s.seq.gap = some g) :
    let t := (s.enter l).resume
    t.seq.line = l ∧ t.seq.pace = .running s.pacePeriod ∧ t.seq.gap = none ∧ t.seq.step = some ⟨.gap, g.length, .feed⟩
      ∧ t.track = s.track := by
  rw [enter_moves hl hne]
  generalize hv : State.raise .lineState { s with seq := { s.seq with line := l } } = v
  have hseq : v.seq = { s.seq with line := l } := hv ▸ rfl
  have hperiod : v.pacePeriod = s.pacePeriod := hv ▸ rfl
  have htrack : v.track = s.track := hv ▸ rfl
  have h := nextStep_gap (s := v) ((congrArg Seq.gap hseq).trans hg)
  rw [resume_next ((congrArg Seq.kept hseq).trans hk) ((congrArg Seq.step hseq).trans hs)]
  exact ⟨h.line.trans (congrArg Seq.line hseq), h.pace.trans (congrArg PaceTimer.running hperiod), h.gap, h.step,
    h.track.trans htrack⟩

/-- The advance of a step of the run. -/
def PlanRun.advance : PlanRun → Nat
  | .pleat _ _ _ spacing _ _ _ => spacing
  | .flat length _ => length

theorem nextStep_run {s : State} {p : Plan} {run : PlanRun} (hgap : s.seq.gap = none) (hp : s.seq.plan = some p)
    (hrun : p.runs[p.run]? = some run) : s.nextStep.seq.line = s.seq.line ∧ s.nextStep.seq.pace = .running s.pacePeriod
      ∧ ∃ kind, s.nextStep.seq.step = some ⟨kind, run.advance, .feed⟩ := by
  cases run with
  | flat length need =>
    have h := nextStep_flat hgap hp hrun
    exact ⟨h.line, h.pace, _, h.step⟩
  | pleat n form locked spacing taper planned need =>
    obtain ⟨u, h, heq⟩ := nextStep_pleat hgap hp hrun
    have hmarked : s.nextStep.seq = u.seq := by
      rw [heq, markClamped_eq]
      split <;> rfl
    rw [hmarked]
    exact ⟨h.line, h.pace, _, h.step⟩

/-- R63: the panel's next step as the line starts. -/
theorem resumes_run {l : LineState} {s : State} {p : Plan} {run : PlanRun} (hl : l = .running ∨ l = .draining)
    (hne : s.seq.line ≠ l) (hk : s.seq.kept = none) (hs : s.seq.step = none) (hg : s.seq.gap = none)
    (hp : s.seq.plan = some p) (hrun : p.runs[p.run]? = some run) :
    let t := (s.enter l).resume
    t.seq.line = l ∧ t.seq.pace = .running s.pacePeriod ∧ ∃ kind, t.seq.step = some ⟨kind, run.advance, .feed⟩ := by
  rw [enter_moves hl hne]
  generalize hv : State.raise .lineState { s with seq := { s.seq with line := l } } = v
  have hseq : v.seq = { s.seq with line := l } := hv ▸ rfl
  have hperiod : v.pacePeriod = s.pacePeriod := hv ▸ rfl
  obtain ⟨hline, hpace, hstep⟩ := nextStep_run ((congrArg Seq.gap hseq).trans hg) ((congrArg Seq.plan hseq).trans hp) hrun
  rw [resume_next ((congrArg Seq.kept hseq).trans hk) ((congrArg Seq.step hseq).trans hs)]
  exact ⟨hline.trans (congrArg Seq.line hseq), hpace.trans (congrArg PaceTimer.running hperiod), hstep⟩

/-! ## A gap delivered first -/

/-- R75: the state after a gap delivered as the line starts. -/
def State.gapDelivered (l : LineState) (len : Nat) (pace : PaceTimer) (s : State) : State :=
  State.exitsAndStall (State.raise .lineState { s with
    conv := s.conv + len, seq := { s.seq with line := l, pace := pace, step := none, kept := none } })

theorem gapDelivered_keeps (l : LineState) (len : Nat) (pace : PaceTimer) (s : State) :
    (s.gapDelivered l len pace).seq = { s.seq with line := l, pace := pace, step := none, kept := none }
      ∧ (s.gapDelivered l len pace).conv = s.conv + len ∧ (s.gapDelivered l len pace).rcc = s.rcc
      ∧ (s.gapDelivered l len pace).forming? = s.forming? := by
  obtain ⟨hseq, hrcc, hconv, -, hforming⟩ := exitsAndStall_keeps (State.raise .lineState { s with
    conv := s.conv + len, seq := { s.seq with line := l, pace := pace, step := none, kept := none } })
  exact ⟨hseq, hconv, hrcc, hforming⟩

theorem gapDelivered_open {l : LineState} {len : Nat} {pace : PaceTimer} {s : State} (h : s.boundaryClosed = false) :
    (s.gapDelivered l len pace).boundaryClosed = false :=
  (boundaryClosed_of_seq ((congrArg Seq.plan (gapDelivered_keeps l len pace s).1 :))).trans h

/-- R75: a gap delivery kept is made as the line starts. -/
theorem resumes_kept {l : LineState} {s : State} {len : Nat} (hl : l = .running ∨ l = .draining) (hne : s.seq.line ≠ l)
    (hk : s.seq.kept = some len) (hs : s.seq.step = none) :
    (s.enter l).resume = (s.gapDelivered l len s.seq.pace).boundary := by
  have hdelivered : State.setSeq (fun q => { q with kept := none }) { s.enter l with conv := (s.enter l).conv + len } =
      State.raise .lineState { s with
        conv := s.conv + len, seq := { s.seq with line := l, pace := s.seq.pace, step := none, kept := none } } := by
    rw [enter_moves hl hne]
    exact congrArg (fun x => State.raise .lineState { s with
      conv := s.conv + len, seq := { s.seq with line := l, step := x, kept := none } }) hs
  exact (resume_kept ((enter_kept l s).trans hk)).trans (congrArg (fun x => x.exitsAndStall.boundary) hdelivered)

/-- R74: a gap step cut at its feed's end is delivered as the line starts. -/
theorem resumes_gapFed {l : LineState} {s : State} {adv : Nat} (hl : l = .running ∨ l = .draining) (hne : s.seq.line ≠ l)
    (hk : s.seq.kept = none) (hs : s.seq.step = some ⟨.gap, adv, .fed⟩) :
    (s.enter l).resume = (s.gapDelivered l adv (.running s.pacePeriod)).boundary := by
  have hstep : (s.enter l).seq.step = some ⟨.gap, adv, .fed⟩ := (enter_step l s).trans hs
  have hdelivered : { (s.enter l).restartPace with
      conv := (s.enter l).restartPace.conv + adv, seq := { (s.enter l).restartPace.seq with step := none } } =
      State.raise .lineState { s with
        conv := s.conv + adv
        seq := { s.seq with line := l, pace := .running s.pacePeriod, step := none, kept := none } } := by
    rw [enter_moves hl hne]
    exact congrArg (fun x => State.raise .lineState { s with
      conv := s.conv + adv
      seq := { s.seq with line := l, pace := .running s.pacePeriod, step := none, kept := x } }) hk
  have htaken := (resume_takesUp ((enter_kept l s).trans hk) hstep).trans (takeUp_delivers hstep (.inr rfl))
  exact htaken.trans (congrArg State.boundary
    ((deliver_gap (s := (s.enter l).restartPace) hstep).trans (congrArg State.exitsAndStall hdelivered)))

/-- R58, R69: with the gap delivered a RUNNING line makes a panel start. -/
theorem gapDelivered_starts {s : State} {len : Nat} {pace : PaceTimer} (hf : s.forming? = none) (hg : s.seq.gap = none)
    (hopen : s.boundaryClosed = false) : (s.gapDelivered .running len pace).atPanelStart = true
      ∧ (s.gapDelivered .running len pace).boundary = (s.gapDelivered .running len pace).panelStart := by
  obtain ⟨hseq, -, -, hforming⟩ := gapDelivered_keeps .running len pace s
  have hat : (s.gapDelivered .running len pace).atPanelStart = true :=
    (atPanelStart_iff _).mpr ⟨hforming.trans hf, (congrArg Seq.step hseq :), (congrArg Seq.gap hseq).trans hg,
      (congrArg Seq.kept hseq :)⟩
  exact ⟨hat, boundary_starts (congrArg Seq.line hseq :) hat (gapDelivered_open hopen)⟩

end Sys2Proof.Machine
end

section
/-! PROOFS. LINE-HOLD and LINE-RELEASE (O45), and where a line goes that leaves HELD. -/

namespace Sys2Proof.Machine

/-! ## Leaving HELD -/

theorem leaveHeld_of_drained {s : State} (h : s.seq.stop = .endOfPanel) (hat : s.atPanelBoundary = true) :
    s.leaveHeld = s.enterIdle := by
  rw [State.leaveHeld, h]
  exact if_pos hat

/-- R56: a line that has lost its segments. -/
theorem leaveHeld_of_lost {s : State} (hn : s.seq.stop ≠ .now) (he : s.someEngaged = false)
    (hin : s.seq.stop = .endOfPanel → s.atPanelBoundary = false) : s.leaveHeld = s.leaveLost := by
  rw [State.leaveHeld]
  cases hstop : s.seq.stop with
  | now => exact absurd hstop hn
  | endOfPanel =>
    dsimp only
    rw [hin hstop, he]
    rfl
  | none =>
    dsimp only
    rw [he]
    rfl

theorem leaveHeld_of_start {s : State} (h : s.seq.stop = .none) (he : s.someEngaged = true) (hat : s.atPanelStart = true) :
    s.leaveHeld = s.panelStart := by
  rw [State.leaveHeld, h, he]
  exact if_pos hat

/-- The line state a HELD line takes its work up in, by the stop pending. -/
def State.TakesUpIn (s : State) (l : LineState) : Prop :=
  s.seq.stop = .none ∧ l = .running ∨ s.seq.stop = .endOfPanel ∧ l = .draining

theorem State.TakesUpIn.moves {s : State} {l : LineState} (h : s.TakesUpIn l) : l = .running ∨ l = .draining :=
  h.imp And.right And.right

/-- R56: a HELD line with work to take up. -/
theorem leaveHeld_of_work {s : State} {l : LineState} (h : s.TakesUpIn l) (he : s.someEngaged = true)
    (hin : s.seq.step.isSome = true ∨ s.forming?.isSome = true
      ∨ l = .running ∧ (s.seq.gap.isSome = true ∨ s.seq.kept.isSome = true)) : s.leaveHeld = (s.enter l).resume := by
  rw [State.leaveHeld]
  rcases h with ⟨hstop, rfl⟩ | ⟨hstop, rfl⟩
  · have hat : ¬ s.atPanelStart = true := by
      rw [atPanelStart_iff]
      rintro ⟨hf, hs, hg, hk⟩
      rw [hf, hs, hg, hk] at hin
      simp at hin
    rw [hstop, he]
    exact if_neg hat
  · have hat : ¬ s.atPanelBoundary = true := by
      rw [atPanelBoundary_iff]
      rintro ⟨hf, hs⟩
      rw [hf, hs] at hin
      simp at hin
    rw [hstop, he]
    exact (if_neg hat).trans (if_pos rfl)

theorem dropPanelStep_step {s : State} {y : StepRec} (hy : s.seq.step = some y) (hk : y.kind ≠ .gap) :
    s.dropPanelStep.seq.step = none := by
  rw [dropPanelStep_eq hy hk]
  rfl

theorem panelEnded_plan (q : Seq) : q.panelEnded.plan = none := by
  unfold Seq.panelEnded
  split
  · rfl
  · assumption

/-- R56: the panel of a line that has lost its segments. -/
theorem leaveLost_of_forming {s : State} {x : Panel} (hdue : s.rcc.pressDue = none)
    (hx : s.forming? = some x) : s.leaveLost.seq.line = .idle ∧ s.leaveLost.forming? = none ∧ s.leaveLost.seq.plan = none
      ∧ s.leaveLost.conv = s.conv ∧ (∀ y, s.seq.step = some y → y.kind ≠ .gap → s.leaveLost.seq.step = none)
      ∧ s.leaveLost.track = s.trackEnded Reasons.addSegmentLost := by
  have hended := endForming_ended true Reasons.addSegmentLost hx
  obtain ⟨segs, step, hdrop, -⟩ := dropPanelStep_frame (s.endForming true Reasons.addSegmentLost)
  have hstep (y : StepRec) (hy : s.seq.step = some y) (hk : y.kind ≠ .gap) :
      (s.endForming true Reasons.addSegmentLost).dropPanelStep.seq.step = none := by
    obtain ⟨gap, hgap⟩ := panelEnded_cases s.seq
    have hkeeps : s.seq.panelEnded.step = s.seq.step := by rw [hgap]
    exact dropPanelStep_step (((congrArg Seq.step hended.seq).trans hkeeps).trans hy) hk
  have hlost : s.leaveLost = (s.endForming true Reasons.addSegmentLost).dropPanelStep.enterIdle := by
    rw [State.leaveLost, hx]
    rfl
  rw [hlost]
  generalize s.endForming true Reasons.addSegmentLost = u at *
  generalize u.dropPanelStep = v at *
  have hvdue : v.rcc.pressDue = none := by
    obtain ⟨point, request, hrcc⟩ := hended.rcc
    rw [hdrop]
    dsimp only
    rw [hrcc]
    exact hdue
  rw [enterIdle_of_none hvdue]
  have halone := State.lineAlone_enter .idle v
  have htrack : v.track = u.track := (congrArg State.track hdrop :)
  have hplan : v.seq.plan = u.seq.plan := (congrArg (fun w => w.seq.plan) hdrop :)
  have hconv : v.conv = u.conv := (congrArg State.conv hdrop :)
  exact ⟨enter_line _ v, forming?_trackEnded (s := s) (halone.track.trans (htrack.trans hended.track)),
    (enter_plan _ v).trans (hplan.trans ((congrArg Seq.plan hended.seq).trans (panelEnded_plan _))),
    halone.conv.trans (hconv.trans hended.conv), fun y hy hk => (enter_step _ v).trans (hstep y hy hk),
    halone.track.trans (htrack.trans hended.track)⟩

/-- R56: the cases in which a HELD line enters IDLE with no panel to end. -/
theorem leaveHeld_idles (s : State) (hl : s.seq.line = .held) (hdue : s.rcc.pressDue = none) :
    let q := s.seq
    let left := s.leaveHeld
    let idle : State := State.standReady (State.raise .lineState { s with seq := { q with
      line := .idle, pace := .stopped, stop := .none
      inhibits := ⟨false, false, false, false, false, false, false, false⟩ } })
    (q.stop = .now → left = idle)
    ∧ (q.stop = .endOfPanel → s.forming? = none → q.step = none → left = idle)
    ∧ (q.stop ≠ .now → s.someEngaged = false → s.forming? = none → left = idle) := by
  intro q left idle
  have hidle : s.enterIdle = idle := (enterIdle_of_none hdue).trans (enter_idle_eq (hl.trans_ne (by decide)))
  refine ⟨fun h => (leaveHeld_of_stopNow h).trans hidle,
    fun h hf hs => (leaveHeld_of_drained h ((atPanelBoundary_iff s).mpr ⟨hf, hs⟩)).trans hidle, fun h he hf => ?_⟩
  by_cases hdrained : s.seq.stop = .endOfPanel ∧ s.atPanelBoundary = true
  · exact (leaveHeld_of_drained hdrained.1 hdrained.2).trans hidle
  · have hlost : s.leaveLost = s.enterIdle := by
      rw [State.leaveLost, hf]
      rfl
    exact (leaveHeld_of_lost h he fun hstop => Bool.not_eq_true _ ▸ not_and.mp hdrained hstop).trans (hlost.trans hidle)

/-- R56: what a HELD line takes up, by where its work stands. -/
theorem leaveHeld_takesUp (s : State) (hl : s.seq.line = .held) {l : LineState} (h : s.TakesUpIn l)
    (he : s.someEngaged = true) (hk : s.seq.kept = none) :
    let left := s.leaveHeld
    (∀ dir adv ph, s.seq.step = some ⟨.stroke dir, adv, ph⟩ →
      ph = .fed ∨ ph = .strokeCut ∧ (∀ j, (s.segs.get j).drive ≠ .withdraw) →
      left.seq.line = l ∧ left.seq.step = some ⟨.stroke dir, adv, .stroke⟩ ∧ left.seq.pace = .running s.pacePeriod
        ∧ ∀ j, (s.segs.get j).engaged = true → (left.segs.get j).drive = .stroke (s.fmu.get j).depth dir)
    ∧ (∀ x, s.seq.step = some x →
      x.phase = .feedCut ∨ x.phase = .strokeCut ∧ (∃ j, (s.segs.get j).drive = .withdraw) →
      left = State.raise .lineState { s with seq := { s.seq with line := l } })
    ∧ (∀ adv p f, s.seq.step = some ⟨.flat, adv, .fed⟩ → s.forming? = some f → s.seq.plan = some p →
      (∃ need, p.runs[p.run]? = some (.flat adv need)) → p.run + 1 < p.runs.length →
      (∀ o rest, s.orders = o :: rest → o.cancel ≠ .abandon) →
      left.seq.line = l ∧ left.seq.pace = .running s.pacePeriod ∧ left.seq.step = none ∧ left.conv = s.conv + adv
        ∧ left.seq.plan = some { p with run := p.run + 1, stroke := 0 })
    ∧ (∀ x p run, s.seq.step = none → s.seq.gap = none → s.forming? = some x → s.seq.plan = some p →
      p.runs[p.run]? = some run →
      left.seq.line = l ∧ left.seq.pace = .running s.pacePeriod ∧ ∃ kind, left.seq.step = some ⟨kind, run.advance, .feed⟩)
    ∧ (∀ g, l = .running → s.seq.step = none → s.seq.gap = some g →
      left.seq.line = .running ∧ left.seq.pace = .running s.pacePeriod ∧ left.seq.gap = none
        ∧ left.seq.step = some ⟨.gap, g.length, .feed⟩ ∧ left.track = s.track) := by
  intro left
  have hm := h.moves
  have hne : s.seq.line ≠ l := by
    rw [hl]
    rcases hm with rfl | rfl <;> decide
  have hcut {x : StepRec} (hs : s.seq.step = some x) : left = (s.enter l).resume :=
    leaveHeld_of_work h he (.inl (hs ▸ rfl))
  refine ⟨fun dir adv ph hs hph => ?_, fun x hs hx => (hcut hs).trans (resumes_waits hm hne hk hs hx),
    fun adv p f hs hf hp ⟨need, hrun⟩ hmore ha => ?_, fun x p run hs hg hf hp hrun => ?_, fun g hr hs hg => ?_⟩
  · obtain ⟨hline, hpace, hstep, -, hdrive⟩ := resumes_stroke hm hne hk hs hph
    rw [hcut hs]
    exact ⟨hline, hstep, hpace, hdrive⟩
  · rw [hcut hs]
    exact resumes_flat_within hm hne hk hs hf hp hrun hmore ha
  · rw [show left = (s.enter l).resume from leaveHeld_of_work h he (.inr (.inl (hf ▸ rfl)))]
    exact resumes_run hm hne hk hs hg hp hrun
  · subst hr
    rw [show left = (s.enter .running).resume from leaveHeld_of_work h he (.inr (.inr ⟨rfl, .inl (hg ▸ rfl)⟩))]
    exact resumes_gap (.inl rfl) hne hk hs hg

/-- R75: a HELD line whose gap delivery comes first. -/
theorem leaveHeld_delivers (s : State) (hl : s.seq.line = .held) (hdue : s.rcc.pressDue = none) {l : LineState}
    (h : s.TakesUpIn l) (he : s.someEngaged = true) (hf : s.forming? = none) (hg : s.seq.gap = none)
    (hopen : s.boundaryClosed = false) :
    (∀ len, l = .running → s.seq.kept = some len → s.seq.step = none →
      s.leaveHeld = (s.gapDelivered l len s.seq.pace).panelStart)
    ∧ (∀ adv, s.seq.kept = none → s.seq.step = some ⟨.gap, adv, .fed⟩ →
      s.leaveHeld = if l = .running then (s.gapDelivered l adv (.running s.pacePeriod)).panelStart
        else (s.gapDelivered l adv (.running s.pacePeriod)).enter .idle) := by
  have hm := h.moves
  have hne : s.seq.line ≠ l := by
    rw [hl]
    rcases hm with rfl | rfl <;> decide
  refine ⟨fun len hr hk hs => ?_, fun adv hk hs => ?_⟩
  · subst hr
    rw [leaveHeld_of_work h he (.inr (.inr ⟨rfl, .inr (hk ▸ rfl)⟩)), resumes_kept hm hne hk hs]
    exact (gapDelivered_starts hf hg hopen).2
  · rw [leaveHeld_of_work h he (.inl (hs ▸ rfl)), resumes_gapFed hm hne hk hs]
    rcases hm with rfl | rfl
    · exact (gapDelivered_starts hf hg hopen).2.trans (if_pos rfl).symm
    · obtain ⟨hseq, -, hrcc, hforming⟩ := gapDelivered_keeps .draining adv (.running s.pacePeriod) s
      have hidle := boundary_drained (congrArg Seq.line hseq :) (hforming.trans hf) (congrArg Seq.step hseq :)
        (gapDelivered_open hopen)
      rw [hidle, enterIdle_of_none ((congrArg RollChange.pressDue hrcc).trans hdue)]
      exact (if_neg (by decide)).symm

/-! ## The requests -/

/-- R56: a HOLDING line whose last requester leaves. -/
theorem releaseHold_holding {f : HoldSet → HoldSet} {s : State} (hb : s.seq.hold.nonEmpty = true)
    (ha : (f s.seq.hold).nonEmpty = false) (hl : s.seq.line = .holding) (hn : s.seq.stop ≠ .now) :
    s.releaseHold f = (s.setSeq fun q => { q with hold := f q.hold }).enter s.seq.resumeState := by
  have hgone : (s.seq.hold.nonEmpty && !(f s.seq.hold).nonEmpty) = true := by rw [hb, ha]; rfl
  refine (if_pos hgone).trans ?_
  dsimp only [State.setSeq]
  rw [hl]
  exact if_neg hn

theorem resumeState_eq (q : Seq) :
    q.resumeState = if q.stop = .endOfPanel ∨ q.holdingFrom = .draining then .draining else .running := by
  rw [Seq.resumeState]
  cases q.stop <;> cases q.holdingFrom <;> rfl

/-- R56: a line that enters HOLDING on a LINE-HOLD. -/
theorem addHold_holding {f : HoldSet → HoldSet} {s : State} {was : Resume}
    (h : s.seq.line = .running ∧ was = .running ∨ s.seq.line = .draining ∧ was = .draining) :
    s.addHold f = State.stopAtBoundary (State.raise .lineState
      { s with seq := { s.seq with hold := f s.seq.hold, holdingFrom := was, line := .holding } }) :=
  (addHold_moving (h.imp And.left And.left)).trans
    (enterHolding_eq (s := s.setSeq fun q => { q with hold := f q.hold }) h)

theorem raise_setSeq (f : Flag) (g : Seq → Seq) (s : State) : (s.raise f).setSeq g = (s.setSeq g).raise f := rfl

/-- R54: LINE_STATE is raised once by two entries. -/
theorem enter_raised {l : LineState} {s : State} (h : s.seq.line ≠ l) : (s.raise .lineState).enter l = s.enter l := by
  have hne : (s.raise .lineState).seq.line ≠ l := h
  rw [State.enter, State.enter, if_neg h, if_neg hne, raise_setSeq, raise_raise]

/-- R56, R69: one that waits at an open boundary, and stops there. -/
theorem addHold_stops {f : HoldSet → HoldSet} {s : State} {was : Resume} (hdue : s.rcc.pressDue = none)
    (h : s.seq.line = .running ∧ was = .running ∨ s.seq.line = .draining ∧ was = .draining) (hs : s.seq.step = none)
    (hopen : s.boundaryClosed = false) :
    (s.seq.stop ≠ .now → s.addHold f = State.standReady (State.raise .held (State.raise .lineState { s with seq := { s.seq with
      hold := f s.seq.hold, holdingFrom := was, line := .held, pace := .stopped } })))
    ∧ (s.seq.stop = .now → s.addHold f = State.standReady (State.raise .lineState { s with seq := { s.seq with
      hold := f s.seq.hold, holdingFrom := was, line := .idle, pace := .stopped, stop := .none
      inhibits := Inhibits.empty } })) := by
  have hstops := (addHold_holding (f := f) h).trans (stopAtBoundary_of_open rfl hs hopen)
  generalize hw : ({ s with seq := { s.seq with hold := f s.seq.hold, holdingFrom := was, line := .holding } } : State) = w
    at hstops
  have hseq : w.seq = { s.seq with hold := f s.seq.hold, holdingFrom := was, line := .holding } := hw ▸ rfl
  have hline : w.seq.line = .holding := (congrArg Seq.line hseq :)
  have hstop : w.seq.stop = s.seq.stop := (congrArg Seq.stop hseq :)
  have hwdue : (w.raise .lineState).rcc.pressDue = none := hw ▸ hdue
  refine ⟨fun hn => (hstops.trans (if_neg (hstop ▸ hn))).trans ((enterHeld_of_none hwdue).trans
      ((enter_raised (hline.trans_ne (by decide))).trans ((enter_held_eq (hline.trans_ne (by decide))).trans ?_))),
    fun hn => (hstops.trans (if_pos (hstop.trans hn))).trans ((enterIdle_of_none hwdue).trans
      ((enter_raised (hline.trans_ne (by decide))).trans ((enter_idle_eq (hline.trans_ne (by decide))).trans ?_)))⟩
  all_goals rw [← hw]

/-- Settles O45. -/
theorem holdAndRelease : Obligations.HoldAndRelease := by
  refine ⟨?_, ?_⟩
  · intro tag s ha hdue q withSeq held freed onHold onRelease
    have hhold {t : State} (h : s.processing.addHold (fun h => { h with host := true }) = t) : onHold t :=
      exec_request_accepted (r := .lineHold) rfl ha (congrArg okBare h)
    have hrelease {t : State} (h : s.processing.releaseHold (fun h => { h with host := false }) = t) : onRelease t :=
      exec_request_accepted (r := .lineRelease) rfl ha (congrArg okBare h)
    have hone (h : q.hold = ⟨true, false, false, false⟩) : s.processing.seq.hold.nonEmpty = true
        ∧ ({ s.processing.seq.hold with host := false } : HoldSet).nonEmpty = false := by
      rw [show s.processing.seq.hold = _ from h]
      decide
    have hleaves (h : q.hold = ⟨true, false, false, false⟩) (hl : q.line = .held) :
        s.processing.releaseHold (fun h => { h with host := false }) = (withSeq freed).leaveHeld :=
      releaseHold_held (hone h).1 (hone h).2 hl
    refine ⟨fun hl => hhold (addHold_stands hl), fun hl => hhold ?_, fun was hs hl => hhold ?_, fun was hs hl => ?_,
      fun h => hrelease (releaseHold_stays ?_), fun h hl hn => hrelease ?_, fun h hl => hrelease (hleaves h hl),
      fun h hl hn => hrelease ((hleaves h hl).trans ?_), fun g h hl hstop hg hs hk he => ?_⟩
    · exact (addHold_waiting (s := s.processing) hl).trans ((enterHeld_of_none (s := withSeq held) hdue).trans
        (enter_held_eq (s := withSeq held) (hl.trans_ne (by decide))))
    · exact (addHold_holding (s := s.processing) hl).trans (stopAtBoundary_of_closed (.inl hs))
    · refine ⟨fun hc => hhold ((addHold_holding (s := s.processing) hl).trans (stopAtBoundary_of_closed (.inr hc))),
        fun ho hn => hhold ?_,
        fun ho hn => hhold ?_⟩
      · exact (addHold_stops (s := s.processing) hdue hl hs ho).1 hn
      · exact (addHold_stops (s := s.processing) hdue hl hs ho).2 hn
    · rcases h with h | h | h | h
      · exact .inl ((nonEmpty_iff _).mpr h)
      · have hsame : freed.hold = q.hold := congrArg (fun b => { q.hold with host := b }) h.symm
        cases hempty : q.hold.nonEmpty with
        | true => exact .inl ((congrArg HoldSet.nonEmpty hsame).trans hempty)
        | false => exact .inr (.inl hempty)
      · exact .inr (.inr (.inl h))
      · exact .inr (.inr (.inr h))
    · have hto : s.processing.seq.resumeState =
          if q.stop = .endOfPanel ∨ q.holdingFrom = .draining then .draining else .running := resumeState_eq q
      refine (releaseHold_holding (hone h).1 (hone h).2 hl hn).trans ?_
      rw [hto]
      refine enter_moves (s := withSeq freed) (ite_eq_or_eq ..).symm ?_
      rw [show (withSeq freed).seq.line = .holding from hl]
      split <;> decide
    · obtain ⟨hnow, -, -⟩ := leaveHeld_idles (withSeq freed) hl hdue
      exact hnow hn
    · obtain ⟨-, -, -, -, htakes⟩ := leaveHeld_takesUp (withSeq freed) hl (.inl ⟨hstop, rfl⟩) he hk
      obtain ⟨hline, -, hgap, hstep, htrack⟩ := htakes g rfl hs hg
      exact ⟨_, hrelease (hleaves h hl), hline, hgap, hstep, htrack⟩
  · intro s hl hdue q left idle period
    obtain ⟨hnow, hdrained, hlost⟩ := leaveHeld_idles s hl hdue
    refine ⟨hnow, hdrained, hlost, fun x hn he hx => ?_, fun hstop he hf hs hg hk => ?_, fun l h he hk => ?_, ?_⟩
    · have hinside : s.atPanelBoundary = false := by simp [State.atPanelBoundary, hx]
      rw [show left = s.leaveLost from leaveHeld_of_lost hn he fun _ => hinside]
      exact leaveLost_of_forming hdue hx
    · exact leaveHeld_of_start hstop he ((atPanelStart_iff s).mpr ⟨hf, hs, hg, hk⟩)
    · obtain ⟨hstroke, hwaits, hflat, hrun, hgap⟩ := leaveHeld_takesUp s hl h he hk
      refine ⟨hstroke, hwaits, hflat, fun x p run hs hg hx hp hr => ?_, fun g hr hs hg => ?_⟩
      · cases run with
        | flat | pleat => exact hrun x p _ hs hg hx hp hr
      · obtain ⟨hline, hpace, hnone, hstep, -⟩ := hgap g hr hs hg
        exact ⟨hline, hpace, hnone, hstep⟩
    · intro l h he hf hg hopen delivered
      obtain ⟨hkept, hfed⟩ := leaveHeld_delivers s hl hdue h he hf hg hopen
      exact ⟨fun len hr hk hs => ⟨(gapDelivered_keeps l len s.seq.pace s).2.1, hkept len hr hk hs⟩,
        fun adv hk hs => ⟨(gapDelivered_keeps l adv (.running period) s).2.1, hfed adv hk hs⟩⟩

end Sys2Proof.Machine
end

section
/-! PROOFS. Panel starts: the inhibits evaluated, the waiting line, and the panel started (R57a to R61). -/

namespace Sys2Proof.Machine

/-! ## The start inhibits -/

/-- R57a: the inhibits that stand before a roll ACTIVE in a line that has its segments. -/
def State.standingInhibits (a : Roll) (s : State) : Inhibits where
  noOrder := s.orders.isEmpty
  classMismatch := match s.orders with
    | o :: _ => decide (o.cls ≠ a.cls)
    | [] => false
  trackFull := decide (24 ≤ s.track.length)
  outletFull := match s.orders with
    | o :: _ => o.prefs.all fun n =>
      decide ((s.outlets.counts n).capacity ≤ (s.outlets.counts n).occupied + (s.outlets.counts n).reserved)
    | [] => false
  rejectFull := s.outlets.binFull
  engaging := s.segs.any fun g => decide (g.state = .engaging) || decide (g.state = .parking)
  noSegment := false
  rollShort := false

theorem firstRoom_isNone (o : Outlets) (l : List Outlet) : (o.firstRoom l).isNone =
    l.all fun n => decide ((o.counts n).capacity ≤ (o.counts n).occupied + (o.counts n).reserved) := by
  rw [Bool.eq_iff_iff, Option.isNone_iff_eq_none, Outlets.firstRoom, List.find?_eq_none, List.all_eq_true]
  simp [OutletCounts.hasRoom]

theorem someEngaged_of_ready {s : State} {i : Fin 6} (h : (s.segs.get i).state = .ready) : s.someEngaged = true :=
  six_any_iff.mpr ⟨i, (engaged_iff _).mpr (.inl h)⟩

theorem inhibitsNow_eq {a : Roll} {s : State} (ha : s.rcc.activeRoll = some a) (he : s.someEngaged = true) :
    s.inhibitsNow = s.standingInhibits a := by
  rw [State.inhibitsNow, State.standingInhibits, ha, he]
  cases s.orders with
  | nil => rfl
  | cons o rest =>
    dsimp only
    rw [firstRoom_isNone]
    rfl

theorem inhibits_nonEmpty_iff (b : Inhibits) : b.nonEmpty = true ↔ b ≠ Inhibits.empty := by
  rw [← not_iff_not, not_not, Bool.not_eq_true]
  obtain ⟨a, b, c, d, e, f, g, h⟩ := b
  simp [Inhibits.nonEmpty, Inhibits.empty, and_assoc]

/-! ## An attempt at a panel start -/

theorem boundaryCopies_of_none {s : State} (h : ∀ j, (s.segs.get j).waiting ≠ some .boundary) :
    s.boundaryCopies s.boundaryWaiting = s := by
  have hnone : s.boundaryWaiting = [] := List.filter_eq_nil_iff.mpr fun j _ => by simp [Segment.waitsFor, h j]
  rw [hnone]
  rfl

theorem startAttempt_waits {s : State} (hw : ∀ j, (s.segs.get j).waiting ≠ some .boundary)
    (h : s.inhibitsNow ≠ Inhibits.empty) : s.startAttempt = s.waitWith s.inhibitsNow := by
  unfold State.startAttempt
  rw [boundaryCopies_of_none hw]
  exact if_pos ((inhibits_nonEmpty_iff _).mpr h)

/-- R58, R60: with no inhibit, the fit decides. -/
theorem startAttempt_fits {o : Order} {rest : List Order} {r : Roll} {out : Outlet} {s : State}
    (hw : ∀ j, (s.segs.get j).waiting ≠ some .boundary) (h : s.inhibitsNow = Inhibits.empty) (ho : s.orders = o :: rest)
    (hr : s.rcc.activeRoll = some r) (hout : s.outlets.firstRoom o.prefs = some out) :
    s.startAttempt = if s.fits o r (s.makePlan o) = true then s.startPanel o rest r out (s.makePlan o)
      else s.waitWith { Inhibits.empty with rollShort := true } := by
  unfold State.startAttempt
  rw [boundaryCopies_of_none hw]
  refine (if_neg (mt (inhibits_nonEmpty_iff _).mp (not_not.mpr h))).trans ?_
  dsimp only
  rw [ho, hr]
  dsimp only
  rw [hout]

theorem fits_iff (o : Order) (r : Roll) (p : Plan) (s : State) : s.fits o r p = true ↔
    p.ownNeed + p.gap + 2000 ≤ r.remaining ∨ ∃ b, s.rcc.standbyRoll = some b ∧ b.cls = o.cls := by
  rw [State.fits, Bool.or_eq_true, decide_eq_true_eq]
  refine or_congr Iff.rfl ?_
  cases s.rcc.standbyRoll with
  | none => simp
  | some x => simp

theorem waitWith_eq {b : Inhibits} {s : State} (h : s.seq.line ≠ .waiting) :
    s.waitWith b = State.raise .inhibit (State.raise .lineState { s with
      seq := { s.seq with line := .waiting, pace := .stopped, inhibits := b } }) :=
  enter_waiting_eq (s := s.setSeq fun q => { q with inhibits := b }) h

/-! ## The panel started -/

/-- A step of the run starts: what it leaves of the state, the depth clamp's mark on the track apart. -/
theorem nextStep_stepBegun {s : State} {p : Plan} {run : PlanRun} (hgap : s.seq.gap = none) (hp : s.seq.plan = some p)
    (hrun : p.runs[p.run]? = some run) : ∃ kind figures u, State.StepBegun kind run.advance p.cls figures s u
      ∧ (s.nextStep = u ∨ s.nextStep = { u with
        track := u.track.map fun y => if y.state = .forming then { y with depthClamped := true } else y }) := by
  cases run with
  | flat length need =>
    exact ⟨_, _, _, nextStep_flat hgap hp hrun, .inl rfl⟩
  | pleat n form locked spacing taper planned need =>
    obtain ⟨u, h, heq⟩ := nextStep_pleat hgap hp hrun
    rw [markClamped_eq] at heq
    refine ⟨_, _, u, h, ?_⟩
    rw [heq]
    split
    · exact .inr rfl
    · exact .inl rfl

/-- R123: the roll change controller with the planned end of a started panel's plan taken, or left. -/
def RollChange.offered (r : RollChange) (p : Plan) (g : Geometry) : RollChange :=
  if p.slotFirm = true then
    { r with firePoint := some (p.plannedEnd + r.settings.clearance - g.seamPath), slotRequest := false }
  else r

theorem offered_spliceCeiling (r : RollChange) (p : Plan) (g : Geometry) : (r.offered p g).spliceCeiling = r.spliceCeiling := by
  unfold RollChange.offered
  split <;> rfl

@[simp] theorem setCounts_counts (n : Outlet) (c : OutletCounts) (o : Outlets) : (o.setCounts n c).counts n = c := by
  cases n <;> rfl

/-- R58: the panel of order `o` is started in `t`, with the first step of its run. -/
structure State.PanelStarted (o : Order) (rest : List Order) (r : Roll) (out : Outlet) (p : Plan) (run : PlanRun)
    (s t : State) : Prop where
  line : t.seq.line = .running
  pace : t.seq.pace = .running s.pacePeriod
  step : ∃ kind, t.seq.step = some ⟨kind, run.advance, .feed⟩
  plan : t.seq.plan = some p
  orders : t.orders = { o with started := o.started + 1 } :: rest
  nextPanel : t.nextPanel = s.nextPanel + 1
  credit : (t.outlets.counts out).reserved = (s.outlets.counts out).reserved + 1
  rcc : t.rcc = { s.rcc.offered p s.geometry with edgeSeen := false }
  track : ∃ clamped, t.track = s.track ++ [{ s.newPanel o r out p with depthClamped := clamped }]

theorem startPanel_started {o : Order} {rest : List Order} {r : Roll} {out : Outlet} {p : Plan} {run : PlanRun} {s : State}
    (hf : s.forming? = none) (hg : s.seq.gap = none) (hrun : p.runs[p.run]? = some run) :
    State.PanelStarted o rest r out p run s (s.startPanel o rest r out p) := by
  obtain ⟨link, heq⟩ := startPanel_eq o rest r out p s
  rw [heq]
  generalize hu : s.panelReady o rest r out p link = u
  have hseq : u.seq = { s.seq with line := .running, plan := some p, inhibits := Inhibits.empty } := hu ▸ rfl
  have htrack : u.track = s.track ++ [s.newPanel o r out p] := hu ▸ rfl
  have hperiod : u.pacePeriod = s.pacePeriod := by
    have hceiling : u.rcc.spliceCeiling = s.rcc.spliceCeiling := hu ▸ offered_spliceCeiling s.rcc p s.geometry
    have hsteam : u.steam = s.steam := hu ▸ rfl
    rw [State.pacePeriod, State.pacePeriod, State.effectiveRate, State.effectiveRate, hceiling, hsteam, hseq]
  have hcredit : (u.outlets.counts out).reserved = (s.outlets.counts out).reserved + 1 := by
    rw [← hu]
    exact congrArg OutletCounts.reserved (setCounts_counts ..)
  have hrcc : u.rcc = s.rcc.offered p s.geometry := hu ▸ rfl
  obtain ⟨kind, figures, v, hv, hmarked⟩ := nextStep_stepBegun ((congrArg Seq.gap hseq).trans hg) (congrArg Seq.plan hseq :) hrun
  have hvtrack : v.track = s.track ++ [s.newPanel o r out p] := hv.track.trans htrack
  have hvcredit : (v.outlets.counts out).reserved = (s.outlets.counts out).reserved + 1 := by
    rw [hv.frame]
    exact hcredit
  have hvorders : v.orders = { o with started := o.started + 1 } :: rest := hv.orders.trans (hu ▸ rfl)
  have hvnext : v.nextPanel = s.nextPanel + 1 := (congrArg State.nextPanel hv.frame).trans (hu ▸ rfl)
  have hvrcc : v.rcc = { s.rcc.offered p s.geometry with edgeSeen := false } :=
    (congrArg State.rcc hv.frame).trans (congrArg (fun x : RollChange => { x with edgeSeen := false }) hrcc)
  have hvline : v.seq.line = .running := hv.line.trans (congrArg Seq.line hseq :)
  have hvplan : v.seq.plan = some p := hv.plan.trans (congrArg Seq.plan hseq :)
  have hvpace : v.seq.pace = .running s.pacePeriod := hv.pace.trans (congrArg PaceTimer.running hperiod)
  rcases hmarked with h | h
  · rw [h]
    exact ⟨hvline, hvpace, ⟨kind, hv.step⟩, hvplan, hvorders, hvnext, hvcredit, hvrcc, _, hvtrack⟩
  · rw [h]
    refine ⟨hvline, hvpace, ⟨kind, hv.step⟩, hvplan, hvorders, hvnext, hvcredit, hvrcc, true, ?_⟩
    dsimp only
    rw [hvtrack, List.map_append]
    refine congrArg₂ (· ++ ·) ((List.map_congr_left fun y hy => ?_).trans (List.map_id _)) rfl
    exact if_neg fun hy' => not_forming_of_none hf y hy (decide_eq_true hy')

/-- R124: fire tests made inside a step leave no line WAITING. -/
theorem fireTests_inside {s : State} {x : StepRec} (hl : s.seq.line = .running) (hs : s.seq.step = some x) :
    s.fireTests.seq.line ≠ .waiting := by
  have hrun : s.seq.line ≠ .waiting := hl.trans_ne (by decide)
  by_cases hslot : s.rcc.splice = .slotted
  · cases hd : s.rcc.pressDue with
    | some b =>
      rw [fireTests_due hslot hd, (State.rccAlone_pressTest s).seq]
      exact hrun
    | none =>
      cases hr : s.fireReady with
      | false =>
        rw [fireTests_of_not_ready hd hr]
        exact hrun
      | true =>
        cases hm : s.rcc.settings.mode with
        | flying =>
          rw [fireTests_flying hslot hd hr hm, (State.rccAlone_fire s).seq]
          exact hrun
        | stopped =>
          obtain ⟨was, link, hadd⟩ := addHold_insideStep (f := fun h => { h with splice := true }) (s := s.pressMadeDue) hs
            ((moving_iff _).mpr (.inl hl))
          rw [fireTests_stopped hslot hd hr hm, (State.rccAlone_pressTest _).seq, hadd]
          exact LineState.noConfusion
  · rw [fireTests_of_not_slotted hslot]
    exact hrun

end Sys2Proof.Machine
end

section
/-! PROOFS. LINE-RUN (O43). -/

namespace Sys2Proof.Machine

theorem mayRun_iff (s : State) : s.mayRun = true ↔
    s.seq.line = .idle ∧ s.rcc.activeRoll.isSome = true ∧ ∃ i, (s.segs.get i).state = .ready := by
  simp only [State.mayRun, Bool.and_eq_true, decide_eq_true_eq, six_any_iff, and_assoc]

theorem reqLineRun_refused {s : State}
    (h : s.seq.line ≠ .idle ∨ s.rcc.activeRoll = none ∨ ∀ i, (s.segs.get i).state ≠ .ready) :
    s.reqLineRun = refused .state s := by
  refine if_neg fun hrun => ?_
  obtain ⟨hl, ha, i, hi⟩ := (mayRun_iff s).mp hrun
  rcases h with h | h | h
  · exact h hl
  · rw [h] at ha
    exact Bool.false_ne_true ha
  · exact h i hi

theorem reqLineRun_taken {a : Roll} {i : Fin 6} {s : State} (hl : s.seq.line = .idle) (ha : s.rcc.activeRoll = some a)
    (hi : (s.segs.get i).state = .ready) : s.reqLineRun = okBare s.runLine :=
  if_pos ((mayRun_iff s).mpr ⟨hl, ha ▸ rfl, i, hi⟩)

/-! ## How an accepted LINE-RUN leaves IDLE -/

theorem runLine_held {s : State} (h : s.seq.hold ≠ ⟨false, false, false, false⟩) : s.runLine = s.enterHeld :=
  if_pos ((nonEmpty_iff _).mpr h)

theorem runLine_free {s : State} (h : s.seq.hold = ⟨false, false, false, false⟩) :
    s.runLine = if s.atPanelStart = true then s.panelStart else (s.enter .running).resume :=
  if_neg (by rw [h]; decide)

theorem runLine_starts {s : State} (h : s.seq.hold = ⟨false, false, false, false⟩) (hat : s.atPanelStart = true) :
    s.runLine = s.panelStart := (runLine_free h).trans (if_pos hat)

/-- R55: a line with work to take up. -/
theorem runLine_takesUp {s : State} (h : s.seq.hold = ⟨false, false, false, false⟩)
    (hin : s.seq.step.isSome = true ∨ s.seq.gap.isSome = true ∨ s.seq.kept.isSome = true) :
    s.runLine = (s.enter .running).resume := by
  refine (runLine_free h).trans (if_neg ?_)
  rw [atPanelStart_iff]
  rintro ⟨-, hs, hg, hk⟩
  rw [hs, hg, hk] at hin
  simp at hin

/-- R61: whether a plan takes the slot, and the gap it then has. -/
theorem makePlan_offer (o : Order) (s : State) :
    (s.makePlan o).slotFirm = s.slotAccepts (s.web + (s.makePlan o).ownNeed)
      ∧ (s.makePlan o).gap = if s.slotAccepts (s.web + (s.makePlan o).ownNeed) = true then 2 * s.rcc.settings.clearance
        else s.geometry.panelGap := ⟨rfl, rfl⟩

theorem makePlan_offer_slotted (o : Order) {s : State} (h : s.rcc.splice = .slotted) {taken : Prop} [Decidable taken]
    (ht : taken ↔ s.rcc.slotRequest = true
      ∧ s.web + s.geometry.seamPath ≤ s.web + (s.makePlan o).ownNeed + s.rcc.settings.clearance) :
    (s.makePlan o).slotFirm = decide taken
      ∧ (s.makePlan o).gap = if taken then 2 * s.rcc.settings.clearance else s.geometry.panelGap := by
  have hiff : s.slotAccepts (s.web + (s.makePlan o).ownNeed) = true ↔ taken := by
    rw [slotAccepts_iff, ht]
    exact and_iff_right h
  obtain ⟨hfirm, hgap⟩ := makePlan_offer o s
  exact ⟨hfirm.trans (Bool.eq_iff_iff.mpr (hiff.trans (decide_eq_true_iff).symm)), hgap.trans (if_congr hiff rfl rfl)⟩

theorem slotAccepts_false {s : State} (b : Nat) (h : s.rcc.splice ≠ .slotted) : s.slotAccepts b = false :=
  Bool.not_eq_true _ ▸ fun hb => h ((slotAccepts_iff b s).mp hb).1

/-- R60: the fit of a plan that is offered no slot. -/
theorem fits_unslotted (o : Order) (r : Roll) {s : State} (h : s.rcc.splice ≠ .slotted) :
    s.fits o r (s.makePlan o) = true ↔ (s.makePlan o).ownNeed + s.geometry.panelGap + 2000 ≤ r.remaining
      ∨ ∃ b, s.rcc.standbyRoll = some b ∧ b.cls = o.cls := by
  rw [fits_iff, (makePlan_offer o s).2, slotAccepts_false _ h]
  exact Iff.rfl

/-- R59: the run of the pattern's first step. -/
theorem makePlan_run {o : Order} {x : PatStep} {more : List PatStep} {s : State} (h : s.pattern? o.slot = some (x :: more)) :
    (s.makePlan o).runs[(s.makePlan o).run]? = some (s.planRun o.grade (s.classFields o.cls) x) := by
  unfold State.makePlan
  rw [h]
  rfl

theorem planRun_advance (grade : Nat) (c : FabricClass) (x : PatStep) (s : State) :
    (s.planRun grade c x).advance = match x with
      | .pleat _ _ sp _ _ _ => gradedSpacing sp grade
      | .flat length => length := by
  cases x with
  | pleat | flat => rfl

/-! ## Its panel start -/

theorem panelStart_waits {s : State} {b : Inhibits} (h : s.startAttempt = s.waitWith b) (hs : s.rcc.splice ≠ .slotted) :
    s.panelStart = s.waitWith b := by
  rw [State.panelStart, h]
  refine fireTestsAgain_of_not_slotted ?_
  rw [State.waitWith, enter_rcc]
  exact hs

/-- R57a, R124: the fire tests of a line made to wait with a splice SLOTTED. -/
theorem panelStart_waits_slotted {s w : State} {b : Inhibits} (h : s.startAttempt = s.waitWith b) (hw : s.waitWith b = w)
    (hs : s.rcc.splice = .slotted) : s.panelStart =
      if w.fireTests.rcc.splice = .pressing ∧ w.fireTests.seq.line = .waiting then w.fireTests.startAttempt
      else w.fireTests := by
  have hslot : w.rcc.splice = .slotted := by
    rw [← hw, State.waitWith, enter_rcc]
    exact hs
  rw [State.panelStart, h, hw, State.fireTestsAgain, hslot]
  simp only [decide_true, Bool.true_and, Bool.and_eq_true, decide_eq_true_eq]

/-- R58, R124: the fire tests of a line that has started a panel. -/
theorem panelStart_started {o : Order} {rest : List Order} {r : Roll} {out : Outlet} {p : Plan} {run : PlanRun} {s t : State}
    (h : s.startAttempt = t) (ht : State.PanelStarted o rest r out p run s t) : s.panelStart = t.fireTests := by
  obtain ⟨kind, hstep⟩ := ht.step
  rw [State.panelStart, h]
  exact fireTestsAgain_of_not_waiting (fireTests_inside ht.line hstep)

theorem State.PanelStarted.splice {o : Order} {rest : List Order} {r : Roll} {out : Outlet} {p : Plan} {run : PlanRun}
    {s t : State} (h : State.PanelStarted o rest r out p run s t) : t.rcc.splice = s.rcc.splice := by
  rw [h.rcc, RollChange.offered]
  split <;> rfl

theorem offered_eq {r : RollChange} {p : Plan} {g : Geometry} {taken : Prop} [Decidable taken]
    (h : p.slotFirm = decide taken) : r.offered p g = { r with
      slotRequest := r.slotRequest && !decide taken
      firePoint := if taken then some (p.plannedEnd + r.settings.clearance - g.seamPath) else r.firePoint } := by
  by_cases ht : taken
  · refine (if_pos (h.trans (decide_eq_true ht))).trans ?_
    rw [decide_eq_true ht, if_pos ht, Bool.not_true, Bool.and_false]
  · refine (if_neg (h.trans_ne (by simp [ht]))).trans ?_
    rw [decide_eq_false ht, if_neg ht, Bool.not_false, Bool.and_true]

/-- R58, R60: the attempt of a line whose panel fits. -/
theorem startAttempt_starts {o : Order} {rest : List Order} {r : Roll} {out : Outlet} {x : PatStep} {more : List PatStep}
    {s : State} (hw : ∀ j, (s.segs.get j).waiting ≠ some .boundary) (h : s.inhibitsNow = Inhibits.empty)
    (ho : s.orders = o :: rest) (hr : s.rcc.activeRoll = some r) (hout : s.outlets.firstRoom o.prefs = some out)
    (hfits : s.fits o r (s.makePlan o) = true) (hf : s.forming? = none) (hg : s.seq.gap = none)
    (hpat : s.pattern? o.slot = some (x :: more)) :
    State.PanelStarted o rest r out (s.makePlan o) (s.planRun o.grade (s.classFields o.cls) x) s s.startAttempt := by
  rw [startAttempt_fits hw h ho hr hout, if_pos hfits]
  exact startPanel_started hf hg (makePlan_run hpat)

/-- Settles O43. -/
theorem lineRunStartsPanel : Obligations.LineRunStartsPanel := by
  intro tag s ha run answer period
  have hreq : ∀ {u : State} {code : ResultCode} {items : List Byte},
      State.reqLineRun s.processing = (u, ⟨code, items⟩) → run = .next (State.replied 0x20#8 tag code items u) :=
    fun hr => exec_request_accepted (r := .lineRun) rfl ha hr
  refine ⟨fun h => hreq (reqLineRun_refused (s := s.processing) h), ?_⟩
  intro a i hl hroll hi inhibits atStart
  have hok {t : State} (h : s.processing.runLine = t) : run = answer .ok t :=
    hreq ((reqLineRun_taken (s := s.processing) hl hroll hi).trans (congrArg okBare h))
  have hne : s.processing.seq.line ≠ .running := hl.trans_ne (by decide)
  have hnow : s.processing.inhibitsNow = inhibits :=
    inhibitsNow_eq (s := s.processing) hroll (someEngaged_of_ready (s := s.processing) hi)
  have hstart (h : s.seq.hold = ⟨false, false, false, false⟩) (hat : atStart) :
      s.processing.runLine = s.processing.panelStart := by
    obtain ⟨hf, hs, hg, hk, -⟩ := hat
    exact runLine_starts (s := s.processing) h ((atPanelStart_iff s.processing).mpr ⟨hf, hs, hg, hk⟩)
  have hwait (b : Inhibits) : s.processing.waitWith b = State.raise .inhibit (State.raise .lineState { s.processing with
      seq := { s.seq with line := .waiting, pace := .stopped, inhibits := b } }) :=
    waitWith_eq (s := s.processing) (hl.trans_ne (by decide))
  have hattempt (hat : atStart) (hinh : inhibits ≠ ⟨false, false, false, false, false, false, false, false⟩) :
      s.processing.startAttempt = s.processing.waitWith inhibits := by
    obtain ⟨-, -, -, -, hw⟩ := hat
    rw [← hnow] at hinh ⊢
    exact startAttempt_waits (s := s.processing) hw hinh
  refine ⟨?_, ?_, ?_, ?_, ?_, ?_, ?_, ?_, ?_, ?_, ?_⟩
  · intro hh hdue hactive
    refine hok ((runLine_held (s := s.processing) hh).trans ((enterHeld_of_none (s := s.processing) hdue).trans
      ((enter_held_eq (s := s.processing) (hl.trans_ne (by decide))).trans ?_)))
    exact standReady_of_no_active hactive
  · intro hh hslot hat hinh
    refine hok ((hstart hh hat).trans ((panelStart_waits (s := s.processing) (b := inhibits) ?_ hslot).trans (hwait _)))
    exact hattempt hat hinh
  · intro o rest x more out hh hslot hat hinh ho hpat hout hfit
    have hruns := hstart hh hat
    obtain ⟨hf, -, hg, -, hw⟩ := hat
    have hfits := (fits_unslotted (s := s.processing) o a hslot).mpr hfit
    have ht := startAttempt_starts (s := s.processing) hw (hnow.trans hinh) ho hroll hout hfits hf hg hpat
    have hgo : s.processing.panelStart = s.processing.startAttempt :=
      fireTestsAgain_of_not_slotted (ht.splice.trans_ne hslot)
    generalize s.processing.startAttempt = t at ht hgo
    obtain ⟨kind, hstep⟩ := ht.step
    obtain ⟨clamped, htrack⟩ := ht.track
    rw [planRun_advance] at hstep
    refine ⟨t, _, kind, hok (hruns.trans hgo), ht.line, ht.pace, ?_, ht.orders, ht.nextPanel, ht.credit, htrack,
      rfl, rfl, rfl, rfl, rfl, rfl, rfl, rfl, rfl, rfl, rfl, rfl, rfl, rfl, rfl, rfl, rfl, rfl, rfl⟩
    cases x with
    | pleat | flat => exact hstep
  · intro o rest out hh hslot hat hinh ho hout hlong hother
    have hruns := hstart hh hat
    obtain ⟨-, -, -, -, hw⟩ := hat
    have hfits : ¬ s.processing.fits o a (s.processing.makePlan o) = true := by
      rw [fits_unslotted (s := s.processing) o a hslot]
      rintro (h | ⟨b, hb, hcls⟩)
      · exact Nat.not_le.mpr hlong h
      · exact hother b hb hcls
    have hshort := (startAttempt_fits (s := s.processing) hw (hnow.trans hinh) ho hroll hout).trans (if_neg hfits)
    have hset : ({ inhibits with rollShort := true } : Inhibits) = { Inhibits.empty with rollShort := true } :=
      congrArg (fun b : Inhibits => { b with rollShort := true }) hinh
    refine hok (hruns.trans ?_)
    rw [hset]
    exact (panelStart_waits hshort hslot).trans (hwait _)
  · intro hh hslot hat waits
    have hwaits {b : Inhibits} (h : s.processing.startAttempt = s.processing.waitWith b) : run = waits b :=
      hok ((hstart hh hat).trans (panelStart_waits_slotted h (hwait b) hslot))
    refine ⟨fun hinh => hwaits ?_, ?_⟩
    · exact hattempt hat hinh
    · intro o rest out hinh ho hout b taken gap fits
      obtain ⟨hfirm, hgap⟩ := makePlan_offer_slotted o (s := s.processing) hslot (taken := taken) Iff.rfl
      have hfits : s.processing.fits o a (s.processing.makePlan o) = true ↔ fits := by
        rw [fits_iff, hgap]
        rfl
      have hruns := hstart hh hat
      obtain ⟨hf, -, hg, -, hw⟩ := hat
      have htried := startAttempt_fits (s := s.processing) hw (hnow.trans hinh) ho hroll hout
      refine ⟨fun hn => ?_, fun hfit hne hsome => ?_⟩
      · have hset : ({ inhibits with rollShort := true } : Inhibits) = { Inhibits.empty with rollShort := true } :=
          congrArg (fun b : Inhibits => { b with rollShort := true }) hinh
        rw [hset]
        exact hwaits (htried.trans (if_neg (mt hfits.mp hn)))
      · obtain ⟨x, more, hpat⟩ : ∃ x more, s.pattern? o.slot = some (x :: more) := by
          obtain ⟨l, hl⟩ := Option.ne_none_iff_exists'.mp hsome
          obtain ⟨x, more, rfl⟩ := List.exists_cons_of_ne_nil (hne l hl)
          exact ⟨x, more, hl⟩
        have ht := startAttempt_starts (s := s.processing) hw (hnow.trans hinh) ho hroll hout (hfits.mpr hfit) hf hg hpat
        have hgo := panelStart_started rfl ht
        generalize s.processing.startAttempt = t at ht hgo
        obtain ⟨kind, hstep⟩ := ht.step
        obtain ⟨clamped, htrack⟩ := ht.track
        refine ⟨t, _, _, hok (hruns.trans hgo), ht.line, hstep ▸ rfl, ht.plan, rfl, hgap, hfirm, ht.rcc.trans ?_,
          htrack, rfl, rfl⟩
        rw [offered_eq hfirm]
        rfl
  · intro g hh hg hs hk
    obtain ⟨hline, hpace, hgap, hstep, htrack⟩ := resumes_gap (s := s.processing) (.inl rfl) hne hk hs hg
    exact ⟨_, hok (runLine_takesUp (s := s.processing) hh (.inr (.inl (hg ▸ rfl)))), hline, hgap, hpace, hstep, htrack⟩
  · intro hh hf hg hopen delivered starts
    refine ⟨fun len hk hs => ⟨(gapDelivered_keeps .running len s.seq.pace s.processing).2.1, ?_⟩, fun adv hk hs =>
      ⟨(gapDelivered_keeps .running adv (.running period) s.processing).2.1, ?_⟩⟩
    · obtain ⟨hat, hgo⟩ := gapDelivered_starts (s := s.processing) (len := len) (pace := s.seq.pace) hf hg hopen
      exact ⟨hat, hok ((runLine_takesUp (s := s.processing) hh (.inr (.inr (hk ▸ rfl)))).trans
        ((resumes_kept (.inl rfl) hne hk hs).trans hgo))⟩
    · obtain ⟨hat, hgo⟩ := gapDelivered_starts (s := s.processing) (len := adv) (pace := .running period) hf hg hopen
      exact ⟨hat, hok ((runLine_takesUp (s := s.processing) hh (.inl (hs ▸ rfl))).trans
        ((resumes_gapFed (.inl rfl) hne hk hs).trans hgo))⟩
  · intro dir adv ph hh hk hs hph
    obtain ⟨hline, hpace, hstep, hbackoffs, hdrive⟩ := resumes_stroke (s := s.processing) (.inl rfl) hne hk hs hph
    exact ⟨_, hok (runLine_takesUp (s := s.processing) hh (.inl (hs ▸ rfl))), hline, hpace, hstep, hbackoffs, hdrive⟩
  · intro x hh hk hs hx
    exact hok ((runLine_takesUp (s := s.processing) hh (.inl (hs ▸ rfl))).trans (resumes_waits (.inl rfl) hne hk hs hx))
  · intro adv p f hh hk hs hf hp ⟨need, hrun⟩ hmore hab
    exact ⟨_, hok (runLine_takesUp (s := s.processing) hh (.inl (hs ▸ rfl))),
      resumes_flat_within (s := s.processing) (.inl rfl) hne hk hs hf hp hrun hmore hab⟩
  · intro adv p f hh hk hs hf hp hgap ⟨need, hrun⟩ hlast
    exact ⟨_, hok (runLine_takesUp (s := s.processing) hh (.inl (hs ▸ rfl))),
      resumes_flat_last (s := s.processing) hne hk hs hf hp hgap hrun hlast⟩

end Sys2Proof.Machine
end
